-- ==== Sys2Proof/Word.lean ====
section
/-!
DEFINITION. The words of the Bandrel 2416E (spec/00_scope.md, "Numbers and values") and tables of fixed size.
-/

namespace Sys2Proof

/-- An octet, 0 to 255. -/
abbrev Byte := BitVec 8

/-- A word, 0 to 65535. -/
abbrev Word := BitVec 16

/-- A long, 0 to 4,294,967,295. -/
abbrev Long := BitVec 32

/-- A digit code: 0 to 9 the digits, 10 star, 11 hash (R203). -/
abbrev Digit := Fin 12

/-- A port number, 0 to 255 (R16). -/
abbrev Port := Fin 256

/-- A directory index, 0 to 319 (R1). -/
abbrev ExtIx := Fin 320

/-- A class number, 0 to 7 (R13). -/
abbrev ClassNo := Fin 8

/-- A loop number, 0 to 7 (R39). -/
abbrev LoopNo := Fin 8

/-- A station of a loop, 0 to 31: its station address less one (R39). -/
abbrev Station := Fin 32

/-- A screen number, 0 to 23 (R92). -/
abbrev ScreenNo := Fin 24

/-- A highway slot number, 0 to 191: L0 to L127, then T0 to T63 (R108). -/
abbrev SlotNo := Fin 192

/-- A context id, 0 to 95 (R157). -/
abbrev CtxId := Fin 96

/-- A position of the draw ring, 0 to 127 (R141). -/
abbrev RingPos := Fin 128

/-- A held slot number, 0 to 31 (R153). -/
abbrev HeldSlot := Fin 32

/-- A call id; 1 to 255 name calls, 0 names none (R117, R118). -/
abbrev CallId := Byte

/-- A key: four words, k0 to k3. -/
structure Key where
  k0 : Word
  k1 : Word
  k2 : Word
  k3 : Word
  deriving DecidableEq, Repr

/-- The all-zero key. -/
def Key.zero : Key := ⟨0, 0, 0, 0⟩

/-- A table of exactly `n` like things, indexed by `Fin n`. -/
structure Table (α : Type) (n : Nat) where
  cells : List α
  size : cells.length = n
  deriving DecidableEq, Repr

namespace Table

variable {α β : Type} {n : Nat}

/-- The record at position `i`. -/
def get (t : Table α n) (i : Fin n) : α := t.cells.get (i.cast t.size.symm)

/-- The table with the record at position `i` replaced. -/
def set (t : Table α n) (i : Fin n) (a : α) : Table α n :=
  ⟨t.cells.set i.val a, by simp [t.size]⟩

/-- The table that holds `a` everywhere. -/
def replicate (n : Nat) (a : α) : Table α n := ⟨List.replicate n a, by simp⟩

/-- The table of `f` applied to each record. -/
def map (f : α → β) (t : Table α n) : Table β n := ⟨t.cells.map f, by simp [t.size]⟩

/-- The table of `f` applied to each position and record. -/
def imap (f : Fin n → α → β) (t : Table α n) : Table β n :=
  ⟨List.zipWith f (List.finRange n) t.cells, by simp [t.size]⟩

/-- The table whose record at position `i` is `f i`. -/
def tabulate (f : Fin n → α) : Table α n := ⟨(List.finRange n).map f, by simp⟩

/-- The lowest position whose record passes the test. -/
def find? (p : α → Bool) (t : Table α n) : Option (Fin n) :=
  (t.cells.findFinIdx? p).map (Fin.cast t.size)

/-- How many records pass the test. -/
def count (p : α → Bool) (t : Table α n) : Nat := t.cells.countP p

end Table

end Sys2Proof
end

