-- ==== Sys2Proof/Config.lean ====
section
/-!
DEFINITION. What is fixed for the machine, and the free values of the spec. The block has one implementation, so the only
configuration is a value the spec leaves open.
-/

namespace Sys2Proof

/-- FREE VALUE (assumption 14). The digit octets beyond the count of an extension number in a READ EXTENSION reply: R203
says that they are not read and gives them no value. The first argument counts the replies formed, the second is the
position among the six digit octets. -/
opaque Config.numberPadding : Nat → Nat → Byte

end Sys2Proof
end

