-- ==== Sys2Proof/Syntax.lean ====
section
/-!
DEFINITION. The commands of the block: one constructor per row of spec/opcode_table.json, each with the operands the
spec gives it. A request's operands are the fields of its body as they cross the link (spec/12), octet by octet, so that
values the spec refuses (an unknown code, a number out of range) are operands like any other.
-/

namespace Sys2Proof

/-- The body of ENTER EXTENSION (spec/12, "ENTER EXTENSION"). -/
structure EnterBody where
  index : Word
  count : Byte
  digits : Table Byte 6
  secret : Key
  cls : Byte
  secure : Byte
  homeMark : Byte
  home : Byte
  deriving DecidableEq, Repr

/-- The body of SET CLASS (spec/12, "SET CLASS"). -/
structure ClassBody where
  cls : Byte
  verdict : Byte
  policy : Byte
  keyWaitLimit : Word
  threshold : Byte
  lockPeriod : Word
  refreshInterval : Word
  answerLimit : Word
  deriving DecidableEq, Repr

/-- The body of SET SCREEN (spec/12, "SET SCREEN"). -/
structure ScreenBody where
  screen : Byte
  enabled : Byte
  classSet : Byte
  offset : Byte
  patternLength : Byte
  pattern : Table Byte 12
  minLength : Byte
  maxLength : Byte
  inverse : Byte
  join : Byte
  verdict : Byte
  deriving DecidableEq, Repr

/-- The body of SET LOOP: loop, enable, and the poll list's four octets (spec/12). -/
structure LoopBody where
  loop : Byte
  enable : Byte
  poll : Table Byte 4
  deriving DecidableEq, Repr

/-- A path specification of CONNECT CALL (R124, spec/12). -/
structure PathSpec where
  dest : Byte
  source : Byte
  transform : Byte
  ctxRef : Byte
  deriving DecidableEq, Repr

/-- A context specification of CONNECT CALL (R124, spec/12). -/
structure CtxSpec where
  farEnd : Byte
  heldSlot : Byte
  salt : Long
  mode : Byte
  interval : Word
  loss : Byte
  deriving DecidableEq, Repr

/-- The body of CONNECT CALL; the path count and the context count are the lengths of the lists (R124, R201). -/
structure ConnectBody where
  call : CallId
  paths : List PathSpec
  contexts : List CtxSpec
  deriving DecidableEq, Repr

/-- The body of DEPOSIT KEYS; the key count is the length of the list (R142). -/
structure DepositBody where
  position : Byte
  keys : List Key
  deriving DecidableEq, Repr

/-- A character as received on a return line: its data bits, its marker, and whether its stop bit was found at space
(R43). -/
structure LoopChar where
  data : Byte
  marker : Bool
  framingError : Bool
  deriving DecidableEq, Repr

/-- A block a station may send, with a body that fits its kind (R49). -/
inductive StationBlock where
  | register (number : List Digit)
  | answer (response : Long)
  | checkIn
  | offHook
  | onHook
  | digits (endFlag : Bool) (codes : List Digit)
  | feature (body : List Byte)
  deriving DecidableEq, Repr

/-- The commands of the block, one constructor per row of spec/opcode_table.json. -/
inductive Instr where
  /-- POWER_UP (R200). -/
  | powerUp
  /-- RESET_LINE (R200). -/
  | resetLine
  /-- CONTROL_FRAME_RECEIVED (R191, R192): octets arrive on the control link, without a gap or a framing error. -/
  | controlFrameReceived (octets : List Byte)
  /-- LINK_GAP (R191): more than 5 ms pass after an octet of a frame. -/
  | linkGap
  /-- UNKNOWN_REQUEST_KIND (R193, R201): a frame that spells no request is taken. -/
  | unknownRequestKind (kind tag : Byte) (body : List Byte)
  /-- REPLY_RELEASED (R115). -/
  | replyReleased
  /-- TRANSMITTER_FREE (R194). -/
  | transmitterFree
  /-- ENTER_EXTENSION (R6 to R9). -/
  | enterExtension (tag : Byte) (body : EnterBody)
  /-- ERASE_EXTENSION (R10). -/
  | eraseExtension (tag : Byte) (index : Word)
  /-- UNLOCK_EXTENSION (R11). -/
  | unlockExtension (tag : Byte) (index : Word)
  /-- READ_EXTENSION (R12). -/
  | readExtension (tag : Byte) (index : Word)
  /-- SET_CLASS (R14). -/
  | setClass (tag : Byte) (body : ClassBody)
  /-- READ_CLASS (R15). -/
  | readClass (tag cls : Byte)
  /-- READ_PORT (R17). -/
  | readPort (tag port : Byte)
  /-- SET_SCREEN (R93). -/
  | setScreen (tag : Byte) (body : ScreenBody)
  /-- READ_SCREEN (R94). -/
  | readScreen (tag screen : Byte)
  /-- SET_LOOP (R40 to R42). -/
  | setLoop (tag : Byte) (body : LoopBody)
  /-- SEND_TO_STATION (R61). -/
  | sendToStation (tag port : Byte) (body : List Byte)
  /-- SET_INTERCEPT_SET (R114). -/
  | setInterceptSet (tag first last : Byte)
  /-- SET_INTERCEPT_CLEAR (R114). -/
  | setInterceptClear (tag first last : Byte)
  /-- OPEN_CALL (R121, R122). -/
  | openCall (tag : Byte) (index : Word) (verdict : Byte)
  /-- CONNECT_CALL (R124 to R128). -/
  | connectCall (tag : Byte) (body : ConnectBody)
  /-- HOLD_CALL (R133). -/
  | holdCall (tag : Byte) (call : CallId)
  /-- RETRIEVE_CALL (R134). -/
  | retrieveCall (tag : Byte) (call : CallId)
  /-- REFUSE_CALL (R135). -/
  | refuseCall (tag : Byte) (call : CallId)
  /-- CLEAR_CALL (R136). -/
  | clearCall (tag : Byte) (call : CallId)
  /-- READ_CALL (R139). -/
  | readCall (tag : Byte) (call : CallId)
  /-- DEPOSIT_KEYS (R142). -/
  | depositKeys (tag : Byte) (body : DepositBody)
  /-- START_DRAW (R146). -/
  | startDraw (tag : Byte)
  /-- STOP_DRAW (R147). -/
  | stopDraw (tag : Byte)
  /-- RESUME_DRAW (R148). -/
  | resumeDraw (tag : Byte)
  /-- HOLD_KEY (R153). -/
  | holdKey (tag slot : Byte) (key : Key)
  /-- DROP_KEY (R154). -/
  | dropKey (tag slot : Byte)
  /-- READ_KEYS (R155). -/
  | readKeys (tag : Byte)
  /-- READ_CONTEXT (R174, R188). -/
  | readContext (tag context : Byte)
  /-- SET_DEVICE (R197): the body's octets, since its length depends on its presence marks. -/
  | setDevice (tag : Byte) (body : List Byte)
  /-- READ_DEVICE (R198). -/
  | readDevice (tag : Byte)
  /-- RESTART_COLD (R199). -/
  | restartCold (tag : Byte)
  /-- RESTART_WARM (R199). -/
  | restartWarm (tag : Byte)
  /-- LOOP_TURN_START (R45, R46). -/
  | loopTurnStart (loop : LoopNo)
  /-- BLOCK_SENT (R46, R47): the last character of the turn's transmission ends. -/
  | blockSent (loop : LoopNo)
  /-- REPLY_WINDOW_TIMEOUT (R47). -/
  | replyWindowTimeout (loop : LoopNo)
  /-- STATION_REPLY (R47, R48): the characters of a reply, then at least 10 bit times of mark. -/
  | stationReply (loop : LoopNo) (chars : List LoopChar)
  /-- LOOP_BREAK (R54). -/
  | loopBreak (loop : LoopNo)
  /-- LOOP_RESTORE (R55). -/
  | loopRestore (loop : LoopNo)
  /-- FEATURE (R49). -/
  | feature (port : Port) (body : List Byte)
  /-- REGISTER (R67 to R73). -/
  | register (port : Port) (number : List Digit)
  /-- ANSWER (R75 to R78). -/
  | answer (port : Port) (response : Long)
  /-- CHECK_IN (R79). -/
  | checkIn (port : Port)
  /-- ANSWER_TIME_EXPIRY (R74). -/
  | answerTimeExpiry (index : ExtIx)
  /-- REFRESH_EXPIRY (R80). -/
  | refreshExpiry (index : ExtIx)
  /-- LOCK_EXPIRY (R5). -/
  | lockExpiry (index : ExtIx)
  /-- OFF_HOOK (R85 to R87). -/
  | offHook (port : Port)
  /-- ON_HOOK (R88). -/
  | onHook (port : Port)
  /-- DIGITS (R89). -/
  | digits (port : Port) (endFlag : Bool) (codes : List Digit)
  /-- INTERDIGIT_EXPIRY (R90). -/
  | interdigitExpiry (port : Port)
  /-- KEY_WAIT_EXPIRY (R130, R131, R151). -/
  | keyWaitExpiry (context : CtxId)
  /-- FRAME_PULSE (R104, R106): a pulse, the nanoseconds since the frame in progress began and since the previous pulse
  (absent when there was none), and the octets on the 192 input sides. -/
  | framePulse (sinceFrame : Nat) (sincePulse : Option Nat) (inputs : Table Byte 192)
  /-- PULSE_MISSING (R104): 130 µs without a pulse; the octets on the 192 input sides as they stand. -/
  | pulseMissing (inputs : Table Byte 192)
  /-- HOLDOVER_FRAME (R105). -/
  | holdoverFrame
  /-- RESTORE_RUN_TIMEOUT (R106). -/
  | restoreRunTimeout
  /-- LINK_FRAMING_ERROR (R191): an octet is received with a framing error. -/
  | linkFramingError
  /-- LINK_LENGTH_ERROR (R191): the second length octet of a frame. -/
  | linkLengthError (octet : Byte)
  deriving DecidableEq, Repr

end Sys2Proof
end

