-- ==== Sys2Proof/Machine/Operands.lean ====
section
/-!
DEFINITION. How values stand in octets (spec/12, R201 to R204): the one place where byte order, marks, bit maps and lists
are decided, in both directions.
-/

namespace Sys2Proof.Machine

/-- A word as two octets, high octet first (R201). -/
def wordOctets (w : Word) : List Byte :=
  [BitVec.ofNat 8 (w.toNat / 256), BitVec.ofNat 8 (w.toNat % 256)]

/-- The word of two octets, high octet first (R201). -/
def wordOf (hi lo : Byte) : Word := BitVec.ofNat 16 (hi.toNat * 256 + lo.toNat)

/-- The high word of a long (spec/00, "Numbers and values"). -/
def highWord (t : Long) : Word := BitVec.ofNat 16 (t.toNat / 65536)

/-- The low word of a long (spec/00, "Numbers and values"). -/
def lowWord (t : Long) : Word := BitVec.ofNat 16 (t.toNat % 65536)

/-- The long of two words, high word first. -/
def longOf (hi lo : Word) : Long := BitVec.ofNat 32 (hi.toNat * 65536 + lo.toNat)

/-- A long as four octets, high octet first (R201). -/
def longOctets (t : Long) : List Byte := wordOctets (highWord t) ++ wordOctets (lowWord t)

/-- The long of four octets, high octet first (R201). -/
def longOfOctets (a b c d : Byte) : Long := longOf (wordOf a b) (wordOf c d)

/-- A key as its four words in order (R201). -/
def keyOctets (k : Key) : List Byte :=
  wordOctets k.k0 ++ wordOctets k.k1 ++ wordOctets k.k2 ++ wordOctets k.k3

/-- The key of eight octets (R201). -/
def keyOf (a b c d e f g h : Byte) : Key :=
  ⟨wordOf a b, wordOf c d, wordOf e f, wordOf g h⟩

/-- A number whose range ends at 255 or below (R204). -/
def numOctet (n : Nat) : List Byte := [BitVec.ofNat 8 n]

/-- A number whose range ends at 65535 or below (R204). -/
def numWord (n : Nat) : List Byte := wordOctets (BitVec.ofNat 16 n)

/-- A number whose range needs a long (R204). -/
def numLong (n : Nat) : List Byte := longOctets (BitVec.ofNat 32 n)

/-- A yes-or-no value, a flag or a mark (R201). -/
def flagOctet (b : Bool) : List Byte := [if b then 1 else 0]

/-- The yes-or-no value of an octet; absent when it is neither 0 nor 1 (R201). -/
def flagOf (o : Byte) : Option Bool :=
  if o = 0 then some false else if o = 1 then some true else none

/-- An extension index, port, call id, context id, loop or slot number as a word, 65535 when absent (R201, R204). -/
def idWord (o : Option Nat) : List Byte :=
  match o with
  | some n => numWord n
  | none => wordOctets 65535

/-- Any other value that may be absent: a presence mark, then its octets, or that many zeros (R204). -/
def optOctets (zeros : Nat) (o : Option (List Byte)) : List Byte :=
  match o with
  | some octets => 1 :: octets
  | none => 0 :: List.replicate zeros 0

/-- A list as a count octet and its items in order (R204). -/
def listOctets (items : List (List Byte)) : List Byte :=
  BitVec.ofNat 8 items.length :: items.flatten

/-- A list of digit codes as a count octet and the codes (R203, R204). -/
def digitOctets (ds : List Digit) : List Byte :=
  BitVec.ofNat 8 ds.length :: ds.map (fun d => BitVec.ofNat 8 d.val)

/-- The digit code of an octet; absent above 11 (R203). -/
def digitOf (o : Byte) : Option Digit := if h : o.toNat < 12 then some ⟨o.toNat, h⟩ else none

/-- The digit code of an octet from 0 to 9; absent above (R203). -/
def numeralOf (o : Byte) : Option Digit := if o.toNat < 10 then digitOf o else none

/-- The results of a partial reading of every item, when all succeed. -/
def readAll {α β : Type} (f : α → Option β) : List α → Option (List β)
  | [] => some []
  | a :: as =>
    match f a, readAll f as with
    | some b, some bs => some (b :: bs)
    | _, _ => none

/-- Bit `i` of an octet, the bit of weight 2 to the power `i`. -/
def octetBit (o : Byte) (i : Nat) : Bool := o.toNat / 2 ^ i % 2 == 1

/-- The octet of eight bits, the first of weight 1. -/
def bitsOctet (bits : List Bool) : Byte :=
  BitVec.ofNat 8 (bits.foldr (fun b n => (if b then 1 else 0) + 2 * n) 0)

/-- A set of up to 8 × `octets` numbers as a bit map: number s in octet s div 8 with weight 2 to the s mod 8 (R204). -/
def bitMapOctets : Nat → List Bool → List Byte
  | 0, _ => []
  | k + 1, bits => bitsOctet (bits.take 8) :: bitMapOctets k (bits.drop 8)

/-- The index of a number below a bound, when it is below it. -/
def below (n v : Nat) : Option (Fin n) := if h : v < n then some ⟨v, h⟩ else none

/-- The sum of octets as a number (R44, R190). -/
def octetSum (os : List Byte) : Nat := (os.map BitVec.toNat).sum

end Sys2Proof.Machine
end

