-- ==== Sys2Proof/Decode.lean ====
section
/-!
DEFINITION. Request frames and the commands they spell (spec/12, "Request kinds and body lengths"), in both directions,
and the table-word decoder the host asks for. No row of spec/opcode_table.json gives bits, so `decodeTableWord` answers
none on every word.
-/

namespace Sys2Proof

open Machine

/-- A control frame without its start, length and check octets: kind, tag and body (R190). -/
structure Frame where
  kind : Byte
  tag : Byte
  body : List Byte
  deriving DecidableEq, Repr

/-- A frame's body holds at most 512 octets (R190). -/
def Frame.fits (f : Frame) : Bool := decide (f.body.length ≤ 512)

/-- The octets of the body of ENTER EXTENSION. -/
def EnterBody.octets (b : EnterBody) : List Byte :=
  wordOctets b.index ++ b.count :: b.digits.cells ++ keyOctets b.secret ++ [b.cls, b.secure, b.homeMark, b.home]

/-- The octets of the body of SET CLASS. -/
def ClassBody.octets (b : ClassBody) : List Byte :=
  [b.cls, b.verdict, b.policy] ++ wordOctets b.keyWaitLimit ++ b.threshold :: wordOctets b.lockPeriod ++
    wordOctets b.refreshInterval ++ wordOctets b.answerLimit

/-- The octets of the body of SET SCREEN. -/
def ScreenBody.octets (b : ScreenBody) : List Byte :=
  [b.screen, b.enabled, b.classSet, b.offset, b.patternLength] ++ b.pattern.cells ++
    [b.minLength, b.maxLength, b.inverse, b.join, b.verdict]

/-- The octets of the body of SET LOOP. -/
def LoopBody.octets (b : LoopBody) : List Byte := b.loop :: b.enable :: b.poll.cells

/-- The four octets of a path specification. -/
def PathSpec.octets (p : PathSpec) : List Byte := [p.dest, p.source, p.transform, p.ctxRef]

/-- The ten octets of a context specification. -/
def CtxSpec.octets (c : CtxSpec) : List Byte :=
  c.farEnd :: c.heldSlot :: longOctets c.salt ++ c.mode :: wordOctets c.interval ++ [c.loss]

/-- The octets of the body of CONNECT CALL. -/
def ConnectBody.octets (b : ConnectBody) : List Byte :=
  b.call :: BitVec.ofNat 8 b.paths.length :: BitVec.ofNat 8 b.contexts.length ::
    (b.paths.flatMap PathSpec.octets ++ b.contexts.flatMap CtxSpec.octets)

/-- The octets of the body of DEPOSIT KEYS. -/
def DepositBody.octets (b : DepositBody) : List Byte :=
  b.position :: BitVec.ofNat 8 b.keys.length :: b.keys.flatMap keyOctets

/-- The frame of a request command, and none for a command that is no request. -/
def Instr.frame? : Instr → Option Frame
  | .unknownRequestKind kind tag body => some ⟨kind, tag, body⟩
  | .enterExtension tag b => some ⟨1, tag, b.octets⟩
  | .eraseExtension tag index => some ⟨2, tag, wordOctets index⟩
  | .unlockExtension tag index => some ⟨3, tag, wordOctets index⟩
  | .readExtension tag index => some ⟨4, tag, wordOctets index⟩
  | .readDevice tag => some ⟨5, tag, []⟩
  | .setDevice tag body => some ⟨6, tag, body⟩
  | .restartCold tag => some ⟨7, tag, [0]⟩
  | .restartWarm tag => some ⟨7, tag, [1]⟩
  | .setClass tag b => some ⟨8, tag, b.octets⟩
  | .readClass tag cls => some ⟨9, tag, [cls]⟩
  | .setScreen tag b => some ⟨10, tag, b.octets⟩
  | .readScreen tag screen => some ⟨11, tag, [screen]⟩
  | .setLoop tag b => some ⟨16, tag, b.octets⟩
  | .readPort tag port => some ⟨17, tag, [port]⟩
  | .sendToStation tag port body => some ⟨18, tag, port :: body⟩
  | .setInterceptClear tag first last => some ⟨24, tag, [0, first, last]⟩
  | .setInterceptSet tag first last => some ⟨24, tag, [1, first, last]⟩
  | .depositKeys tag b => some ⟨32, tag, b.octets⟩
  | .holdKey tag slot key => some ⟨33, tag, slot :: keyOctets key⟩
  | .dropKey tag slot => some ⟨34, tag, [slot]⟩
  | .startDraw tag => some ⟨35, tag, []⟩
  | .stopDraw tag => some ⟨36, tag, []⟩
  | .resumeDraw tag => some ⟨37, tag, []⟩
  | .readKeys tag => some ⟨38, tag, []⟩
  | .openCall tag index verdict => some ⟨40, tag, wordOctets index ++ [verdict]⟩
  | .connectCall tag b => some ⟨41, tag, b.octets⟩
  | .holdCall tag call => some ⟨42, tag, [call]⟩
  | .retrieveCall tag call => some ⟨43, tag, [call]⟩
  | .refuseCall tag call => some ⟨44, tag, [call]⟩
  | .clearCall tag call => some ⟨45, tag, [call]⟩
  | .readCall tag call => some ⟨46, tag, [call]⟩
  | .readContext tag context => some ⟨47, tag, [context]⟩
  | .powerUp | .resetLine | .controlFrameReceived _ | .linkGap | .replyReleased | .transmitterFree
  | .loopTurnStart _ | .blockSent _ | .replyWindowTimeout _ | .stationReply _ _ | .loopBreak _ | .loopRestore _
  | .feature _ _ | .register _ _ | .answer _ _ | .checkIn _ | .answerTimeExpiry _ | .refreshExpiry _ | .lockExpiry _
  | .offHook _ | .onHook _ | .digits _ _ _ | .interdigitExpiry _ | .keyWaitExpiry _ | .framePulse _ _ _
  | .pulseMissing _ | .holdoverFrame | .restoreRunTimeout | .linkFramingError | .linkLengthError _ => none

/-- The first keys of `k` bodies of eight octets, when exactly that many octets stand there (R142, R201). -/
def decodeKeys : Nat → List Byte → Option (List Key)
  | 0, [] => some []
  | k + 1, a :: b :: c :: d :: e :: f :: g :: h :: rest => (decodeKeys k rest).map (keyOf a b c d e f g h :: ·)
  | _, _ => none

/-- `c` context specifications, when exactly that many octets stand there (R124, R201). -/
def decodeContexts : Nat → List Byte → Option (List CtxSpec)
  | 0, [] => some []
  | c + 1, far :: held :: s0 :: s1 :: s2 :: s3 :: mode :: b0 :: b1 :: loss :: rest =>
    (decodeContexts c rest).map (⟨far, held, longOfOctets s0 s1 s2 s3, mode, wordOf b0 b1, loss⟩ :: ·)
  | _, _ => none

/-- `p` path specifications followed by `c` context specifications (R124, R201). -/
def decodeSpecs : Nat → Nat → List Byte → Option (List PathSpec × List CtxSpec)
  | 0, c, os => (decodeContexts c os).map (([], ·))
  | p + 1, c, dest :: source :: transform :: ref :: rest =>
    (decodeSpecs p c rest).map (fun r => (⟨dest, source, transform, ref⟩ :: r.1, r.2))
  | _, _, _ => none

/-- ENTER EXTENSION's body (spec/12). -/
def decodeEnter : List Byte → Option EnterBody
  | [i0, i1, n, d0, d1, d2, d3, d4, d5, a, b, c, d, e, f, g, h, cls, sec, mark, home] =>
    some ⟨wordOf i0 i1, n, ⟨[d0, d1, d2, d3, d4, d5], rfl⟩, keyOf a b c d e f g h, cls, sec, mark, home⟩
  | _ => none

/-- SET CLASS's body (spec/12). -/
def decodeClass : List Byte → Option ClassBody
  | [cls, v, p, k0, k1, t, l0, l1, r0, r1, a0, a1] =>
    some ⟨cls, v, p, wordOf k0 k1, t, wordOf l0 l1, wordOf r0 r1, wordOf a0 a1⟩
  | _ => none

/-- SET SCREEN's body (spec/12). -/
def decodeScreen : List Byte → Option ScreenBody
  | [s, en, cs, off, len, p0, p1, p2, p3, p4, p5, p6, p7, p8, p9, p10, p11, mn, mx, inv, j, v] =>
    some ⟨s, en, cs, off, len, ⟨[p0, p1, p2, p3, p4, p5, p6, p7, p8, p9, p10, p11], rfl⟩, mn, mx, inv, j, v⟩
  | _ => none

/-- SET LOOP's body (spec/12). -/
def decodeLoop : List Byte → Option LoopBody
  | [l, en, p0, p1, p2, p3] => some ⟨l, en, ⟨[p0, p1, p2, p3], rfl⟩⟩
  | _ => none

/-- CONNECT CALL's body; the counts it carries must agree with its length (R201). -/
def decodeConnect : List Byte → Option ConnectBody
  | call :: p :: c :: rest => (decodeSpecs p.toNat c.toNat rest).map (fun r => ⟨call, r.1, r.2⟩)
  | _ => none

/-- DEPOSIT KEYS's body; the count it carries must agree with its length (R201). -/
def decodeDeposit : List Byte → Option DepositBody
  | position :: n :: rest => (decodeKeys n.toNat rest).map (⟨position, ·⟩)
  | _ => none

/-- A body that is one word. -/
def decodeIndex : List Byte → Option Word
  | [hi, lo] => some (wordOf hi lo)
  | _ => none

/-- A body that is one octet. -/
def decodeOctet : List Byte → Option Byte
  | [o] => some o
  | _ => none

/-- The request a frame spells, by its kind and its body's layout (spec/12, "Request kinds and body lengths"); none when
the kind names no request or the body's octets do not fit the layout (R193, R201). -/
def decodeRequest (f : Frame) : Option Instr :=
  match f.kind.toNat with
  | 1 => (decodeEnter f.body).map (.enterExtension f.tag)
  | 2 => (decodeIndex f.body).map (.eraseExtension f.tag)
  | 3 => (decodeIndex f.body).map (.unlockExtension f.tag)
  | 4 => (decodeIndex f.body).map (.readExtension f.tag)
  | 5 => match f.body with | [] => some (.readDevice f.tag) | _ => none
  | 6 => some (.setDevice f.tag f.body)
  | 7 => match f.body with
    | [k] => if k = 0 then some (.restartCold f.tag) else if k = 1 then some (.restartWarm f.tag) else none
    | _ => none
  | 8 => (decodeClass f.body).map (.setClass f.tag)
  | 9 => (decodeOctet f.body).map (.readClass f.tag)
  | 10 => (decodeScreen f.body).map (.setScreen f.tag)
  | 11 => (decodeOctet f.body).map (.readScreen f.tag)
  | 16 => (decodeLoop f.body).map (.setLoop f.tag)
  | 17 => (decodeOctet f.body).map (.readPort f.tag)
  | 18 => match f.body with | port :: rest => some (.sendToStation f.tag port rest) | [] => none
  | 24 => match f.body with
    | [action, first, last] =>
      if action = 0 then some (.setInterceptClear f.tag first last)
      else if action = 1 then some (.setInterceptSet f.tag first last) else none
    | _ => none
  | 32 => (decodeDeposit f.body).map (.depositKeys f.tag)
  | 33 => match f.body with
    | [slot, a, b, c, d, e, g, h, i] => some (.holdKey f.tag slot (keyOf a b c d e g h i))
    | _ => none
  | 34 => (decodeOctet f.body).map (.dropKey f.tag)
  | 35 => match f.body with | [] => some (.startDraw f.tag) | _ => none
  | 36 => match f.body with | [] => some (.stopDraw f.tag) | _ => none
  | 37 => match f.body with | [] => some (.resumeDraw f.tag) | _ => none
  | 38 => match f.body with | [] => some (.readKeys f.tag) | _ => none
  | 40 => match f.body with | [hi, lo, v] => some (.openCall f.tag (wordOf hi lo) v) | _ => none
  | 41 => (decodeConnect f.body).map (.connectCall f.tag)
  | 42 => (decodeOctet f.body).map (.holdCall f.tag)
  | 43 => (decodeOctet f.body).map (.retrieveCall f.tag)
  | 44 => (decodeOctet f.body).map (.refuseCall f.tag)
  | 45 => (decodeOctet f.body).map (.clearCall f.tag)
  | 46 => (decodeOctet f.body).map (.readCall f.tag)
  | 47 => (decodeOctet f.body).map (.readContext f.tag)
  | _ => none

/-- A kind from 1 to 125 is a request kind (R192). -/
def Frame.isRequestKind (f : Frame) : Bool := decide (1 ≤ f.kind.toNat) && decide (f.kind.toNat ≤ 125)

/-- The two check octets of a frame whose length is `len` octets: the sum of both length octets, the kind, the tag and
every body octet, modulo 65536 (R190). -/
def frameCheck (len : Word) (rest : List Byte) : Word :=
  BitVec.ofNat 16 (octetSum (wordOctets len) + octetSum rest)

/-- The octets of a frame on the line (R190). -/
def Frame.octets (f : Frame) : List Byte :=
  let len : Word := BitVec.ofNat 16 (f.body.length + 2)
  let rest := f.kind :: f.tag :: f.body
  90 :: wordOctets len ++ rest ++ wordOctets (frameCheck len rest)

/-- The block of a received kind and body, when a station may send the kind and the body fits it (R49, spec/12). -/
def decodeStationBlock (kind : Byte) (body : List Byte) : Option StationBlock :=
  match kind.toNat with
  | 1 => if 3 ≤ body.length ∧ body.length ≤ 6 then (readAll numeralOf body).map .register else none
  | 2 => match body with | [a, b, c, d] => some (.answer (longOfOctets a b c d)) | _ => none
  | 3 => match body with | [] => some .checkIn | _ => none
  | 4 => match body with | [] => some .offHook | _ => none
  | 5 => match body with | [] => some .onHook | _ => none
  | 6 => match body with
    | e :: codes =>
      if 1 ≤ codes.length ∧ codes.length ≤ 16 then
        match flagOf e, readAll digitOf codes with
        | some endFlag, some ds => some (.digits endFlag ds)
        | _, _ => none
      else none
    | [] => none
  | 7 => if body.length ≤ 32 then some (.feature body) else none
  | _ => none

/-- The command of a word of the opcode table's bits: none, since no row gives bits. -/
def decodeTableWord (nbits w : Nat) : Option Instr :=
  let _ := nbits
  let _ := w
  none

end Sys2Proof
end

