-- ==== Sys2Proof/Machine/State.lean ====
section
/-!
DEFINITION. The state of the block as plain data: every object the spec gives the part, its cold values, the state right
after power-up, and the reasons a step can stop.
-/

namespace Sys2Proof.Machine

/-! ## Extensions, classes and ports (spec/01) -/

/-- Admission State (R2, R3). -/
inductive AdmissionState where
  | unbound | challenged | admitted | moving | locked
  deriving DecidableEq, Repr

/-- Lock Remaining when present: seconds, or "until unlocked" (R2). -/
inductive LockRemaining where
  | seconds (n : Nat)
  | untilUnlocked
  deriving DecidableEq, Repr

/-- The cause of a lapse; TAKEOVER is named in reports only (R2, R81). -/
inductive LapseCause where
  | refresh | absent | homePort | takeover
  deriving DecidableEq, Repr

/-- Pending Challenge: its port, its nonce, and its remaining answer time, absent until the CHALLENGE block has left the
loop (R2). -/
structure Challenge where
  port : Port
  nonce : Long
  remaining : Option Nat
  deriving DecidableEq, Repr

/-- An extension entry: the stored fields of R1, then the dynamic fields of R2. -/
structure Entry where
  number : List Digit
  secret : Key
  cls : ClassNo
  secure : Bool
  home : Option Port
  state : AdmissionState
  bound : Option Port
  challenge : Option Challenge
  failures : Nat
  lock : Option LockRemaining
  refresh : Option Nat
  /-- The model's own mark: the refresh count has reached zero and its expiry has not been taken (assumption 4). -/
  refreshDue : Bool
  /-- Overdue and Overdue Cause in one field: present exactly while Overdue is set (R2; assumption 15). -/
  overdue : Option LapseCause
  liveCall : Option CallId
  deriving DecidableEq, Repr

/-- A verdict (R13, R92, R117). -/
inductive Verdict where
  | bar | allow | scramble | clear
  deriving DecidableEq, Repr

/-- Key-Wait Policy (R13). -/
inductive KeyWaitPolicy where
  | fallClear | drop
  deriving DecidableEq, Repr

/-- A class record (R13). -/
structure ClassRec where
  defaultVerdict : Verdict
  policy : KeyWaitPolicy
  keyWaitLimit : Nat
  threshold : Nat
  lockPeriod : Nat
  refreshInterval : Nat
  answerLimit : Nat
  deriving DecidableEq, Repr

/-- The cold values of a class record (R13, R18). -/
def ClassRec.cold : ClassRec := ⟨.allow, .fallClear, 1000, 3, 300, 600, 500⟩

/-- Presence of a station (R16). -/
inductive Presence where
  | absent | present
  deriving DecidableEq, Repr

/-- Hook (R16). -/
inductive Hook where
  | on | off
  deriving DecidableEq, Repr

/-- Dial State (R16). -/
inductive DialState where
  | idle | dialling | waiting | alerted | inCall | blocked
  deriving DecidableEq, Repr

/-- A port record (R16). -/
structure PortRec where
  presence : Presence
  miss : Nat
  bound : Option ExtIx
  hook : Hook
  dial : DialState
  buffer : List Digit
  interdigit : Option Nat
  call : Option CallId
  deriving DecidableEq, Repr

/-- The cold values of a port record (R18). -/
def PortRec.cold : PortRec := ⟨.absent, 0, none, .on, .idle, [], none, none⟩

/-! ## Station loops (spec/03) -/

/-- DENY reasons (R62). -/
inductive DenyReason where
  | unknown | locked | wrongPort | badAnswer | timeout | busy | inCallElsewhere | noChallenge | notAdmitted | moving
  deriving DecidableEq, Repr

/-- NOTICE reasons (R62). -/
inductive NoticeReason where
  | barred | congestion | refused | dialTimeout | reregister | moved | alert | keyShort
  deriving DecidableEq, Repr

/-- A block the part sends, with its body as formed when it was offered (R62). -/
inductive OutBlock where
  | challenge (nonce : Long)
  | admission (interval : Nat)
  | deny (reason : DenyReason)
  | notice (reason : NoticeReason)
  | callKey (nk : Long) (wrapped : Key)
  | relay (body : List Byte)
  deriving DecidableEq, Repr

/-- Origin of a block record: RELAY for the host's relay blocks, DEVICE for the part's own (R57). -/
inductive Origin where
  | device | relay
  deriving DecidableEq, Repr

/-- The origin of a block, which its kind decides (R57). -/
def OutBlock.origin : OutBlock → Origin
  | .relay _ => .relay
  | .challenge _ | .admission _ | .deny _ | .notice _ | .callKey _ _ => .device

/-- A record of an outbound queue (R57). -/
structure QueueRec where
  station : Station
  block : OutBlock
  deriving DecidableEq, Repr

/-- Loop State (R39). -/
inductive LoopState where
  | disabled | idleCycle | fault
  deriving DecidableEq, Repr

/-- How far a turn has come: the part transmits, or the reply window is open (R46, R47). -/
inductive TurnPhase where
  | sending | window
  deriving DecidableEq, Repr

/-- A turn in progress: its station, the block it took from the queue (none for a poll), the characters transmitted and
its phase (R45 to R47). -/
structure Turn where
  station : Station
  block : Option OutBlock
  sent : List LoopChar
  phase : TurnPhase
  deriving DecidableEq, Repr

/-- A loop record (R39) and its turn in progress. -/
structure LoopRec where
  enable : Bool
  pollList : Table Bool 32
  state : LoopState
  position : Option Station
  queue : List QueueRec
  relayCount : Nat
  turn : Option Turn
  deriving DecidableEq, Repr

/-- The cold values of a loop record (R39). -/
def LoopRec.cold : LoopRec := ⟨false, Table.replicate 32 false, .disabled, none, [], 0, none⟩

/-! ## Dialling and screening (spec/05) -/

/-- A screen record; a pattern position is a digit code or ANY (none) (R92). -/
structure ScreenRec where
  enabled : Bool
  classSet : Table Bool 8
  offset : Nat
  pattern : List (Option Digit)
  minLength : Nat
  maxLength : Nat
  inverse : Bool
  join : Bool
  verdict : Verdict
  deriving DecidableEq, Repr

/-- The cold values of a screen record (R92). -/
def ScreenRec.cold : ScreenRec := ⟨false, Table.replicate 8 false, 0, [none], 1, 24, false, false, .allow⟩

/-! ## Calls and connection memory (spec/06, spec/07) -/

/-- Call states (R117). -/
inductive CallState where
  | requested | offered | connecting | connected | held
  deriving DecidableEq, Repr

/-- Call origins (R117). -/
inductive CallOrigin where
  | station | trunk
  deriving DecidableEq, Repr

/-- A call (R117). -/
structure Call where
  id : CallId
  state : CallState
  origin : CallOrigin
  port : Port
  ext : ExtIx
  digits : List Digit
  verdict : Verdict
  paths : List SlotNo
  contexts : List CtxId
  requested : Nat
  connectedTime : Option Nat
  deriving DecidableEq, Repr

/-- The transform of a path (R109). -/
inductive Transform where
  | pass
  | mute
  | scramble (ctx : CtxId)
  | descramble (ctx : CtxId)
  deriving DecidableEq, Repr

/-- A path of connection memory (R109). -/
structure Path where
  source : SlotNo
  transform : Transform
  owner : CallId
  deriving DecidableEq, Repr

/-! ## Key store (spec/08) -/

/-- Owner of a draw-ring slot (R141). -/
inductive Owner where
  | host | device
  deriving DecidableEq, Repr

/-- A draw-ring slot (R141). -/
structure RingSlot where
  owner : Owner
  key : Key
  deriving DecidableEq, Repr

/-- A HOST-owned slot, which holds the zero key (R141). -/
def RingSlot.empty : RingSlot := ⟨.host, Key.zero⟩

/-- Supplier state (R143). -/
inductive Supplier where
  | stopped | running | suspended
  deriving DecidableEq, Repr

/-- An item of the wait queue: a context and its remaining key-wait time (R150). -/
structure WaitItem where
  ctx : CtxId
  remaining : Nat
  deriving DecidableEq, Repr

/-! ## Scramble contexts (spec/09, spec/10) -/

/-- Context states (R157). -/
inductive CtxState where
  | free | keyWait | active | held
  deriving DecidableEq, Repr

/-- Far End (R157). -/
inductive FarEnd where
  | station | trunk
  deriving DecidableEq, Repr

/-- Mode (R157). -/
inductive Mode where
  | mask | shuffle
  deriving DecidableEq, Repr

/-- Beacon Interval B: one of four numbers of frames (R126, R157). -/
inductive Interval where
  | b256 | b512 | b1024 | b2048
  deriving DecidableEq, Repr

/-- The interval in frames. -/
def Interval.frames : Interval → Nat
  | .b256 => 256
  | .b512 => 512
  | .b1024 => 1024
  | .b2048 => 2048

/-- Key Source when present (R157). -/
inductive KeySource where
  | drawn (nk : Long)
  | heldSlot (slot : HeldSlot) (salt : Long)
  deriving DecidableEq, Repr

/-- Far End, Mode, B and L, present while the context is not FREE (R157). -/
structure CtxConfig where
  farEnd : FarEnd
  mode : Mode
  interval : Interval
  loss : Nat
  deriving DecidableEq, Repr

/-- Transmit Part (R157). -/
structure TxPart where
  epoch : Word
  key : Key
  n : Nat
  collected : List Byte
  emitting : Option (Table Byte 8)
  deriving DecidableEq, Repr

/-- Receive states (R175). -/
inductive RxState where
  | hunt | locked | flywheel | failed
  deriving DecidableEq, Repr

/-- Beacon Parse Progress (R175). -/
inductive Parse where
  | none
  | seen150
  | seen150105
  | seenQ (q : Byte)
  | seenInfo (q info : Byte)
  deriving DecidableEq, Repr

/-- Receive Part (R175), with two fields the spec implies (assumption 18): `window`, the octets received at the own
positions 0 to 3 of the beacon block in progress, which R180 judges at position 4, and `stepped`, set once a served frame
has been processed since keying, which R171 asks for. -/
structure RxPart where
  state : RxState
  virgin : Bool
  n : Nat
  epoch : Word
  key : Key
  previous : Option Key
  miss : Nat
  parse : Parse
  rebuild : Table (Option Byte) 8
  ready : Option (Table Byte 8)
  window : List Byte
  stepped : Bool
  deriving DecidableEq, Repr

/-- A scramble context (R157). -/
structure Context where
  state : CtxState
  call : Option CallId
  config : Option CtxConfig
  keySource : Option KeySource
  key0 : Key
  tx : Option TxPart
  rx : Option RxPart
  deriving DecidableEq, Repr

/-- A FREE context (R172). -/
def Context.free : Context := ⟨.free, none, none, none, Key.zero, none, none⟩

/-! ## Time base (spec/06) -/

/-- Frame Source (R103). -/
inductive FrameSource where
  | highway | holdover
  deriving DecidableEq, Repr

/-- The time base (R103). -/
structure TimeBase where
  source : FrameSource
  missCount : Nat
  restoreCount : Nat
  tickDivider : Nat
  secondDivider : Nat
  holdoverLength : Nat
  deriving DecidableEq, Repr

/-- The cold values of the time base (R103). -/
def TimeBase.cold : TimeBase := ⟨.holdover, 0, 0, 0, 0, 0⟩

/-! ## Control link (spec/11) -/

/-- Completion codes (R193). -/
inductive Code where
  | done | adjusted | badRequest | noSuch | busy | state | full | policy | noKey | slotBusy | occupied | duplicate
  | notAdmitted
  deriving DecidableEq, Repr

/-- A reply: the request's kind and tag, the completion code and the octets that follow it (R193). -/
structure Reply where
  kind : Byte
  tag : Byte
  code : Code
  data : List Byte
  deriving DecidableEq, Repr

/-- A reply that R115 holds back, and whether a frame has begun since the request was taken. -/
structure HeldReply where
  reply : Reply
  frameBegun : Bool
  deriving DecidableEq, Repr

/-- Report types (R196). -/
inductive ReportType where
  | admitted | locked | unlocked | lapsed | moved | denied | stationPresent | stationAbsent | stationBlock | callBarred
  | congested | callRequest | answered | hungUp | callConnected | callFailed | syncLocked | syncLost | syncFailed
  | keysShort | clockLost | clockRestored | loopFault | loopRestored | linkError | restarted
  deriving DecidableEq, Repr

/-- An item of the attention set: report type, subject, and detail as the octets the report will carry (R195). -/
structure Item where
  type : ReportType
  subject : Nat
  detail : List Byte
  deriving DecidableEq, Repr

/-- What the transmitter is sending (R194). -/
inductive Sending where
  | reply (r : Reply)
  | report (item : Item) (lostFlag : Bool)
  deriving DecidableEq, Repr

/-! ## The whole block -/

/-- The state of the block. -/
structure State where
  /-- Extension directory (R1). -/
  directory : Table (Option Entry) 320
  /-- Class table (R13). -/
  classes : Table ClassRec 8
  /-- Challenge Counter (R24). -/
  challengeCounter : Long
  /-- Nonce Key (R24). -/
  nonceKey : Key
  /-- Port table (R16). -/
  ports : Table PortRec 256
  /-- Loop records (R39). -/
  loops : Table LoopRec 8
  /-- Absence limit (R53). -/
  absenceLimit : Nat
  /-- Blocks handed on by the loop controller and not yet taken by their units (R49; assumption 2). -/
  handed : List (Port × StationBlock)
  /-- Interdigit limit in milliseconds (R91). -/
  interdigitLimit : Nat
  /-- Screen table (R92). -/
  screens : Table ScreenRec 24
  /-- Call table (R117). -/
  calls : Table (Option Call) 128
  /-- Next-Id Position (R118). -/
  nextId : CallId
  /-- Connection memory (R109). -/
  connections : Table (Option Path) 192
  /-- Intercept set (R114). -/
  intercept : Table Bool 192
  /-- Idle octet (R113). -/
  idleOctet : Byte
  /-- What each output slot carries in the frame in progress; none is undriven (R105, R111; assumption 20). -/
  outputs : Table (Option Byte) 192
  /-- Time base (R103). -/
  timeBase : TimeBase
  /-- Draw ring (R141). -/
  ring : Table RingSlot 128
  /-- Draw Pointer (R141). -/
  pointer : RingPos
  /-- Supplier state (R143). -/
  supplier : Supplier
  /-- Wait queue, head first (R150). -/
  waitQueue : List WaitItem
  /-- Held slots (R153). -/
  heldKeys : Table (Option Key) 32
  /-- Scramble contexts (R157). -/
  contexts : Table Context 96
  /-- The octets received of the control frame being assembled (R191). -/
  assembling : List Byte
  /-- Receive holding, oldest first (R192). -/
  holding : List Frame
  /-- The reply R115 holds back; while present, its request is being handled and its frame heads the holding. -/
  handling : Option HeldReply
  /-- The reply that waits in the transmit arbiter (R194). -/
  reply : Option Reply
  /-- The frame on the transmit line; none is a line at rest (R194). -/
  line : Option Sending
  /-- Attention set, oldest first (R195). -/
  attention : List Item
  /-- Lost flag (R195, R196). -/
  lost : Bool
  /-- The model's own: how many READ EXTENSION replies were formed, argument of a free value (assumption 14). -/
  freeReads : Nat
  /-- The commands that are waiting, first in, first out. -/
  pending : List Instr
  deriving DecidableEq, Repr

/-- Every object at its cold value, the link cleared and nothing pending (R18, R24, R39, R53, R91, R92, R103, R113, R114,
R116, R118, R140, R156, R173, R200). -/
def State.cold : State where
  directory := Table.replicate 320 none
  classes := Table.replicate 8 ClassRec.cold
  challengeCounter := 0
  nonceKey := Key.zero
  ports := Table.replicate 256 PortRec.cold
  loops := Table.replicate 8 LoopRec.cold
  absenceLimit := 8
  handed := []
  interdigitLimit := 8000
  screens := Table.replicate 24 ScreenRec.cold
  calls := Table.replicate 128 none
  nextId := 0
  connections := Table.replicate 192 none
  intercept := Table.replicate 192 false
  idleOctet := 255
  outputs := Table.replicate 192 none
  timeBase := TimeBase.cold
  ring := Table.replicate 128 RingSlot.empty
  pointer := 0
  supplier := .stopped
  waitQueue := []
  heldKeys := Table.replicate 32 none
  contexts := Table.replicate 96 Context.free
  assembling := []
  holding := []
  handling := none
  reply := none
  line := none
  attention := []
  lost := false
  freeReads := 0
  pending := []

/-- The machine right after power-up: cold values, and the RESTARTED item of R200 (kind COLD 0, cause POWER 1), which the free
transmitter sends (R194). -/
def State.reset : State := { State.cold with line := some (.report ⟨.restarted, 0, [0, 1]⟩ false) }

/-- Why a step could fault: no command of this block does. Requests that cannot be carried out are answered with a
completion code (R193), so the type has no constructor. -/
inductive Fault where
  deriving DecidableEq, Repr

/-- Why a step could be refused. -/
inductive Refusal where
  /-- A command without a meaning in this model: raised by exec's arm of that command only; safe, since the machine stops
  where the hardware goes on. -/
  | notModelled (mnemonic : String)
  deriving DecidableEq, Repr

end Sys2Proof.Machine
end

