-- ==== Sys2Proof/Machine/Codes.lean ====
section
/-!
DEFINITION. The numbers of the named codes (R202 and the code tables of spec/12), and the named values of received codes.
-/

namespace Sys2Proof.Machine

/-- Completion codes. -/
def Code.octet : Code → Byte
  | .done => 0 | .adjusted => 1 | .badRequest => 2 | .noSuch => 3 | .busy => 4 | .state => 5 | .full => 6
  | .policy => 7 | .noKey => 8 | .slotBusy => 9 | .occupied => 10 | .duplicate => 11 | .notAdmitted => 12

/-- Admission states. -/
def AdmissionState.octet : AdmissionState → Byte
  | .unbound => 0 | .challenged => 1 | .admitted => 2 | .moving => 3 | .locked => 4

/-- Presence. -/
def Presence.octet : Presence → Byte
  | .absent => 0 | .present => 1

/-- Hook. -/
def Hook.octet : Hook → Byte
  | .on => 0 | .off => 1

/-- Dial states. -/
def DialState.octet : DialState → Byte
  | .idle => 0 | .dialling => 1 | .waiting => 2 | .alerted => 3 | .inCall => 4 | .blocked => 5

/-- Loop states. -/
def LoopState.octet : LoopState → Byte
  | .disabled => 0 | .idleCycle => 1 | .fault => 2

/-- Call states. -/
def CallState.octet : CallState → Byte
  | .requested => 0 | .offered => 1 | .connecting => 2 | .connected => 3 | .held => 4

/-- Call origins. -/
def CallOrigin.octet : CallOrigin → Byte
  | .station => 0 | .trunk => 1

/-- Context states. -/
def CtxState.octet : CtxState → Byte
  | .free => 0 | .keyWait => 1 | .active => 2 | .held => 3

/-- Receive states. -/
def RxState.octet : RxState → Byte
  | .hunt => 0 | .locked => 1 | .flywheel => 2 | .failed => 3

/-- Supplier states. -/
def Supplier.octet : Supplier → Byte
  | .stopped => 0 | .running => 1 | .suspended => 2

/-- Ring slot owners. -/
def Owner.octet : Owner → Byte
  | .host => 0 | .device => 1

/-- Frame sources. -/
def FrameSource.octet : FrameSource → Byte
  | .highway => 0 | .holdover => 1

/-- LAPSED causes and overdue causes. -/
def LapseCause.octet : LapseCause → Byte
  | .refresh => 0 | .absent => 1 | .homePort => 2 | .takeover => 3

/-- Verdicts (spec/12, "SET CLASS"). -/
def Verdict.octet : Verdict → Byte
  | .bar => 0 | .allow => 1 | .scramble => 2 | .clear => 3

/-- The verdict of a code, when known. -/
def verdictOf (o : Byte) : Option Verdict :=
  match o.toNat with
  | 0 => some .bar
  | 1 => some .allow
  | 2 => some .scramble
  | 3 => some .clear
  | _ => none

/-- Key-wait policies (spec/12, "SET CLASS"). -/
def KeyWaitPolicy.octet : KeyWaitPolicy → Byte
  | .fallClear => 0 | .drop => 1

/-- The key-wait policy of a code, when known. -/
def policyOf (o : Byte) : Option KeyWaitPolicy :=
  match o.toNat with
  | 0 => some .fallClear
  | 1 => some .drop
  | _ => none

/-- Far ends (spec/12, "CONNECT CALL"). -/
def FarEnd.octet : FarEnd → Byte
  | .station => 0 | .trunk => 1

/-- Modes (spec/12, "CONNECT CALL"). -/
def Mode.octet : Mode → Byte
  | .mask => 0 | .shuffle => 1

/-- The mode of a code, when known. -/
def modeOf (o : Byte) : Option Mode :=
  match o.toNat with
  | 0 => some .mask
  | 1 => some .shuffle
  | _ => none

/-- Transforms (spec/12, "CONNECT CALL"). -/
def Transform.octet : Transform → Byte
  | .pass => 0 | .mute => 1 | .scramble _ => 2 | .descramble _ => 3

/-- DENY reasons. -/
def DenyReason.octet : DenyReason → Byte
  | .unknown => 1 | .locked => 2 | .wrongPort => 3 | .badAnswer => 4 | .timeout => 5 | .busy => 6
  | .inCallElsewhere => 7 | .noChallenge => 8 | .notAdmitted => 9 | .moving => 10

/-- NOTICE reasons. -/
def NoticeReason.octet : NoticeReason → Byte
  | .barred => 1 | .congestion => 2 | .refused => 3 | .dialTimeout => 4 | .reregister => 5 | .moved => 6
  | .alert => 7 | .keyShort => 8

/-- The kind code and body octets of a block the part sends (R62, spec/12). -/
def OutBlock.kindBody : OutBlock → Byte × List Byte
  | .challenge nonce => (8, longOctets nonce)
  | .admission interval => (9, numWord interval)
  | .deny reason => (10, [reason.octet])
  | .notice reason => (11, [reason.octet])
  | .callKey nk w => (12, longOctets nk ++ keyOctets w)
  | .relay body => (13, body)

/-- Report types (spec/12, "The report body"). -/
def ReportType.octet : ReportType → Byte
  | .admitted => 1 | .locked => 2 | .unlocked => 3 | .lapsed => 4 | .moved => 5 | .denied => 8
  | .stationPresent => 9 | .stationAbsent => 10 | .stationBlock => 11 | .callBarred => 12 | .congested => 13
  | .callRequest => 16 | .answered => 17 | .hungUp => 18 | .callConnected => 19 | .callFailed => 20
  | .syncLocked => 24 | .syncLost => 25 | .syncFailed => 26 | .keysShort => 28 | .clockLost => 29
  | .clockRestored => 30 | .loopFault => 31 | .loopRestored => 32 | .linkError => 33 | .restarted => 34

end Sys2Proof.Machine
end

