-- ==== Sys2Proof/Machine/Flags.lean ====
section
/-!
DEFINITION. The event flags of the block: the attention set with its lost flag (R195, R196), the transmit arbiter (R194), the
items each rule raises, with their detail octets (R196, R204), and the octets of replies and reports on the line (R193, R196).
-/

namespace Sys2Proof.Machine

/-! ## Raising an item -/

/-- An item names the same event: same report type and same subject (R195). -/
def Item.same (a b : Item) : Bool := decide (a.type = b.type) && decide (a.subject = b.subject)

/-- The attention set and lost flag after an item is offered (R195): the detail of a pending item of the same type and
subject is replaced in its place; otherwise the item joins the tail while fewer than 128 are held; otherwise it is not
kept and the lost flag is set. -/
def offerItem (item : Item) (set : List Item) (lost : Bool) : List Item × Bool :=
  if set.any (item.same ·) then (set.map (fun i => if item.same i then item else i), lost)
  else if set.length < 128 then (set ++ [item], lost)
  else (set, true)

/-! ## The transmit arbiter (R194, R196) -/

/-- What the transmitter is sending, and what waits for it. -/
structure Outgoing where
  line : Option Sending
  reply : Option Reply
  attention : List Item
  lost : Bool
  deriving DecidableEq, Repr

/-- The arbiter chooses the next frame: a waiting reply; otherwise the oldest item, taken out as a report with the lost flag,
which is then cleared; otherwise the line rests (R194, R196). -/
def Outgoing.choose (o : Outgoing) : Outgoing :=
  match o.reply with
  | some r => { o with line := some (.reply r), reply := none }
  | none =>
    match o.attention with
    | item :: rest => ⟨some (.report item o.lost), none, rest, false⟩
    | [] => { o with line := none }

/-- An item or a reply has arrived: the arbiter chooses at once while the transmitter is free (R194; assumption 6). -/
def Outgoing.arrive (o : Outgoing) : Outgoing := if o.line.isNone then o.choose else o

/-- The outgoing side of the control link. -/
def State.outgoing (s : State) : Outgoing := ⟨s.line, s.reply, s.attention, s.lost⟩

/-- The outgoing side replaced. -/
def State.withOutgoing (o : Outgoing) (s : State) : State :=
  { s with line := o.line, reply := o.reply, attention := o.attention, lost := o.lost }

/-- A block raises an item (R195), which arrives at the arbiter (R194). -/
def State.raise (item : Item) (s : State) : State :=
  s.withOutgoing (Outgoing.arrive { s.outgoing with
    attention := (offerItem item s.attention s.lost).1
    lost := (offerItem item s.attention s.lost).2 })

/-- A reply arrives at the arbiter (R194). -/
def State.postReply (r : Reply) (s : State) : State :=
  s.withOutgoing (Outgoing.arrive { s.outgoing with reply := some r })

/-! ## The items -/

/-- ADMITTED: the extension, with its port (R76). -/
def Item.admitted (ix : ExtIx) (p : Port) : Item := ⟨.admitted, ix, numWord p⟩

/-- MOVED: the extension, with its old and new ports (R77). -/
def Item.moved (ix : ExtIx) (q p : Port) : Item := ⟨.moved, ix, numWord q ++ numWord p⟩

/-- LOCKED: the extension, with the lock period loaded, 0 for "until unlocked" (R66, R204). -/
def Item.locked (ix : ExtIx) (period : Nat) : Item := ⟨.locked, ix, numWord period⟩

/-- UNLOCKED: the extension (R5, R11). -/
def Item.unlocked (ix : ExtIx) : Item := ⟨.unlocked, ix, []⟩

/-- LAPSED: the extension, with the port and the cause (R69, R81). -/
def Item.lapsed (ix : ExtIx) (p : Port) (cause : LapseCause) : Item := ⟨.lapsed, ix, numWord p ++ [cause.octet]⟩

/-- DENIED: the port, with the reason and the extension's index or the mark "none" (R63, R85). -/
def Item.denied (p : Port) (reason : DenyReason) (ix : Option ExtIx) : Item :=
  ⟨.denied, p, reason.octet :: idWord (ix.map Fin.val)⟩

/-- STATION PRESENT (R50). -/
def Item.stationPresent (p : Port) : Item := ⟨.stationPresent, p, []⟩

/-- STATION ABSENT (R40, R41, R51). -/
def Item.stationAbsent (p : Port) : Item := ⟨.stationAbsent, p, []⟩

/-- STATION BLOCK: the port, with the body as a list (R49, R204; assumption 13). -/
def Item.stationBlock (p : Port) (body : List Byte) : Item :=
  ⟨.stationBlock, p, BitVec.ofNat 8 body.length :: body⟩

/-- The deciding screen, 255 for "default" (R95, R204). -/
def decidingOctet (deciding : Option ScreenNo) : Byte :=
  match deciding with
  | some n => BitVec.ofNat 8 n.val
  | none => 255

/-- CALL BARRED: the port, with the index, the deciding screen, the dialled length and the digits (R99; assumption 13). -/
def Item.callBarred (p : Port) (ix : ExtIx) (deciding : Option ScreenNo) (ds : List Digit) : Item :=
  ⟨.callBarred, p, numWord ix ++ decidingOctet deciding :: digitOctets ds⟩

/-- CONGESTED: the port, with the index, the verdict, the dialled length and the digits (R101; assumption 13). -/
def Item.congested (p : Port) (ix : ExtIx) (v : Verdict) (ds : List Digit) : Item :=
  ⟨.congested, p, numWord ix ++ v.octet :: digitOctets ds⟩

/-- CALL REQUEST: the call, with the port, the index, the verdict, the deciding screen, the dialled length and the digits
(R100; assumption 13). -/
def Item.callRequest (id : CallId) (p : Port) (ix : ExtIx) (v : Verdict) (deciding : Option ScreenNo)
    (ds : List Digit) : Item :=
  ⟨.callRequest, id.toNat, numWord p ++ numWord ix ++ v.octet :: decidingOctet deciding :: digitOctets ds⟩

/-- ANSWERED: the call, with the port (R123). -/
def Item.answered (id : CallId) (p : Port) : Item := ⟨.answered, id.toNat, numWord p⟩

/-- HUNG UP: the call, with the port (R88). -/
def Item.hungUp (id : CallId) (p : Port) : Item := ⟨.hungUp, id.toNat, numWord p⟩

/-- CALL CONNECTED: the call, with the clear-fallback mark and the number of contexts that fell back (R129, R130;
assumption 13). -/
def Item.callConnected (id : CallId) (fellBack : Bool) (count : Nat) : Item :=
  ⟨.callConnected, id.toNat, flagOctet fellBack ++ numOctet count⟩

/-- CALL FAILED: the call, with the cause KEY_SHORT, the port and the index (R131). -/
def Item.callFailed (id : CallId) (p : Port) (ix : ExtIx) : Item :=
  ⟨.callFailed, id.toNat, NoticeReason.keyShort.octet :: numWord p ++ numWord ix⟩

/-- The manner of a SYNC LOCKED (R186). -/
inductive Manner where
  | first | same | forward | back
  deriving DecidableEq, Repr

/-- Manner codes (spec/12). -/
def Manner.octet : Manner → Byte
  | .first => 0 | .same => 1 | .forward => 2 | .back => 3

/-- The cause of a SYNC FAILED (R186). -/
inductive SyncCause where
  | parity | noPreviousKey
  deriving DecidableEq, Repr

/-- SYNC FAILED cause codes (spec/12). -/
def SyncCause.octet : SyncCause → Byte
  | .parity => 0 | .noPreviousKey => 1

/-- The call id at the head of a sync report's detail (R186). -/
def callWord (call : Option CallId) : List Byte := idWord (call.map BitVec.toNat)

/-- SYNC LOCKED (R186). -/
def Item.syncLocked (c : CtxId) (call : Option CallId) (m : Manner) (slip : Bool) (epoch : Word) (q : Byte) : Item :=
  ⟨.syncLocked, c, callWord call ++ m.octet :: flagOctet slip ++ wordOctets epoch ++ [q]⟩

/-- SYNC LOST (R186). -/
def Item.syncLost (c : CtxId) (call : Option CallId) (epoch : Word) (q : Nat) : Item :=
  ⟨.syncLost, c, callWord call ++ wordOctets epoch ++ numOctet q⟩

/-- SYNC FAILED (R186). -/
def Item.syncFailed (c : CtxId) (call : Option CallId) (cause : SyncCause) (epoch : Word) (ownQ : Nat)
    (ownParity : Nat) (q : Byte) (parity : Nat) : Item :=
  ⟨.syncFailed, c,
    callWord call ++ cause.octet :: wordOctets epoch ++ numOctet ownQ ++ numOctet ownParity ++ [q] ++ numOctet parity⟩

/-- KEYS SHORT: the device, with the number waiting, the draw pointer, one octet (assumption 13), and the fresh count
(R149). -/
def Item.keysShort (waiting : Nat) (pointer : RingPos) (fresh : Nat) : Item :=
  ⟨.keysShort, 0, numOctet waiting ++ numOctet pointer ++ numOctet fresh⟩

/-- CLOCK LOST (R104). -/
def Item.clockLost : Item := ⟨.clockLost, 0, []⟩

/-- CLOCK RESTORED, with the holdover length (R106). -/
def Item.clockRestored (length : Nat) : Item := ⟨.clockRestored, 0, numLong length⟩

/-- LOOP FAULT (R54). -/
def Item.loopFault (l : LoopNo) : Item := ⟨.loopFault, l, []⟩

/-- LOOP RESTORED (R55). -/
def Item.loopRestored (l : LoopNo) : Item := ⟨.loopRestored, l, []⟩

/-- Kinds of LINK ERROR (R191, R192). -/
inductive LinkErrorKind where
  | gap | framing | length | check | overrun | kind
  deriving DecidableEq, Repr

/-- LINK ERROR kind codes (spec/12). -/
def LinkErrorKind.octet : LinkErrorKind → Byte
  | .gap => 0 | .framing => 1 | .length => 2 | .check => 3 | .overrun => 4 | .kind => 5

/-- LINK ERROR, with its kind (R191, R192). -/
def Item.linkError (k : LinkErrorKind) : Item := ⟨.linkError, 0, [k.octet]⟩

/-- Kinds of restart (R199). -/
inductive RestartKind where
  | cold | warm
  deriving DecidableEq, Repr

/-- RESTARTED kind codes (spec/12). -/
def RestartKind.octet : RestartKind → Byte
  | .cold => 0 | .warm => 1

/-- Causes of a restart (R199, R200). -/
inductive RestartCause where
  | request | power | reset
  deriving DecidableEq, Repr

/-- RESTARTED cause codes (spec/12). -/
def RestartCause.octet : RestartCause → Byte
  | .request => 0 | .power => 1 | .reset => 2

/-- RESTARTED, with its kind and cause (R199, R200). -/
def Item.restarted (k : RestartKind) (c : RestartCause) : Item := ⟨.restarted, 0, [k.octet, c.octet]⟩

/-! ## Frames the part sends -/

/-- A reply's frame: the request's kind plus 128, its tag, the completion code and the octets after it (R193). -/
def Reply.frame (r : Reply) : Frame := ⟨r.kind + 128, r.tag, r.code.octet :: r.data⟩

/-- A report's frame: kind 254, tag 0, and the report body with the lost flag (R196, spec/12). -/
def Item.frame (i : Item) (lostFlag : Bool) : Frame :=
  ⟨254, 0, i.type.octet :: numWord i.subject ++ flagOctet lostFlag ++ i.detail⟩

/-- The octets of what the transmitter is sending (R190). -/
def Sending.octets : Sending → List Byte
  | .reply r => r.frame.octets
  | .report i lostFlag => (i.frame lostFlag).octets

end Sys2Proof.Machine
end

