-- ==== Sys2Proof/Machine/Mix.lean ====
section
/-!
DEFINITION. The mixing function and its uses (spec/02): the mix, the nonce, the admission response, key wrapping, key
derivation, the frame mask, the shuffle, and the beacon check.
-/

namespace Sys2Proof.Machine

/-- The mix of `t` under `k`, in its five stages (R21, R22). -/
def mix (t : Long) (k : Key) : Word :=
  let a := lowWord t ^^^ k.k0
  let a := a * 40503 + k.k1
  let a := a ^^^ highWord t ^^^ k.k2
  let a := a * 40503 + k.k3
  a ^^^ a >>> 8

/-- The long of the mixes of `t` and `t + 1`: a nonce from the counter under the nonce key (R26), and the response to a
nonce under a secret (R28). -/
def mixPair (t : Long) (k : Key) : Long := longOf (mix t k) (mix (t + 1) k)

/-- The four mixes of `t` to `t + 3` under `k` (R22). -/
def mixFour (t : Long) (k : Key) : Key := ⟨mix t k, mix (t + 1) k, mix (t + 2) k, mix (t + 3) k⟩

/-- The four wrapped words of a drawn key (R29). -/
def wrapKey (nk : Long) (secret drawn : Key) : Key :=
  let m := mixFour nk secret
  ⟨drawn.k0 ^^^ m.k0, drawn.k1 ^^^ m.k1, drawn.k2 ^^^ m.k2, drawn.k3 ^^^ m.k3⟩

/-- The epoch-0 key of a trunk context (R30). -/
def trunkKey (salt : Long) (held : Key) : Key := mixFour salt held

/-- The key of the next epoch (R31). -/
def nextKey (k : Key) : Key := mixFour 4294967040 k

/-- The parity of an epoch number (R32). -/
def parity (epoch : Word) : Nat := epoch.toNat % 2

/-- The frame mask of frame counter `n` (R33). -/
def frameMask (n : Nat) (k : Key) : Byte := BitVec.ofNat 8 (mix (BitVec.ofNat 32 n) k).toNat

/-- The shuffle word of block `c` (R34). -/
def shuffleWord (c : Nat) (k : Key) : Word := mix (BitVec.ofNat 32 (2147483648 + c)) k

/-- The multiplier of a shuffle word (R34). -/
def multiplier (w : Word) : Nat := 2 * (w.toNat % 4) + 1

/-- The offset of a shuffle word (R34). -/
def offset (w : Word) : Nat := w.toNat / 4 % 8

/-- The position in the collected block of the octet that stands at position `j` of the emitted block (R35, R36). -/
def shufflePosition (w : Word) (j : Nat) : Fin 8 :=
  ⟨(multiplier w * j + offset w) % 8, Nat.mod_lt _ (by decide)⟩

/-- The info octet of a beacon (R37). -/
def infoOctet (parity : Nat) (shuffle : Bool) : Byte := BitVec.ofNat 8 (parity + if shuffle then 2 else 0)

/-- The check of a beacon's block number and info octet (R37). -/
def beaconCheck (q info : Byte) : Byte := 255 - BitVec.ofNat 8 ((q.toNat + info.toNat) % 256)

end Sys2Proof.Machine
end

