-- ==== Sys2Proof/Machine/Ops.lean ====
section
/-!
DEFINITION. The named operations that the meanings share: reading and writing one record of a table, taking a request and
answering it, the outbound queues, the binding, lapse, failure and lock procedures, and taking a nonce.
-/

namespace Sys2Proof.Machine

/-! ## One record of a table -/

/-- The directory entry at an index, when the position is occupied (R1). -/
def State.entry? (s : State) (ix : ExtIx) : Option Entry := s.directory.get ix

/-- The directory position at an index written. -/
def State.putEntry (ix : ExtIx) (e : Option Entry) (s : State) : State :=
  { s with directory := s.directory.set ix e }

/-- An occupied directory position changed. -/
def State.modEntry (ix : ExtIx) (f : Entry → Entry) (s : State) : State :=
  s.putEntry ix ((s.entry? ix).map f)

/-- The class record that governs an entry (R1, R13). -/
def State.classOf (s : State) (e : Entry) : ClassRec := s.classes.get e.cls

/-- The record of a port (R16). -/
def State.port (s : State) (p : Port) : PortRec := s.ports.get p

/-- The record of a port written. -/
def State.putPort (p : Port) (r : PortRec) (s : State) : State := { s with ports := s.ports.set p r }

/-- The record of a loop (R39). -/
def State.loop (s : State) (l : LoopNo) : LoopRec := s.loops.get l

/-- The record of a loop written. -/
def State.putLoop (l : LoopNo) (r : LoopRec) (s : State) : State := { s with loops := s.loops.set l r }

/-- The record of a context (R157). -/
def State.context (s : State) (c : CtxId) : Context := s.contexts.get c

/-- The record of a context written. -/
def State.putContext (c : CtxId) (r : Context) (s : State) : State := { s with contexts := s.contexts.set c r }

/-- The call-table entry that holds the call of an id (R117). -/
def State.findCall (s : State) (id : CallId) : Option (Fin 128) :=
  s.calls.find? (fun o => match o with | some c => decide (c.id = id) | none => false)

/-- The call of an id (R117). -/
def State.call? (s : State) (id : CallId) : Option Call :=
  match s.findCall id with
  | some slot => s.calls.get slot
  | none => none

/-- A call-table entry written. -/
def State.putCall (slot : Fin 128) (c : Option Call) (s : State) : State := { s with calls := s.calls.set slot c }

/-- The call of an id changed. -/
def State.modCall (id : CallId) (f : Call → Call) (s : State) : State :=
  match s.findCall id with
  | some slot => s.putCall slot ((s.calls.get slot).map f)
  | none => s

/-! ## Requests and replies (R192, R193) -/

/-- What a request's owner answers: the completion code, the octets after it, and whether R115 holds the reply back. -/
structure Answer where
  code : Code
  data : List Byte := []
  held : Bool := false
  deriving DecidableEq, Repr

/-- A refusal: the completion code alone, released at once (R193, R115). -/
def Answer.refuse (code : Code) : Answer := { code := code }

/-- The link takes this frame's request now: no request is being handled, no reply waits in the arbiter (R193), the body
fits a frame (R190), and the frame is the oldest in the holding, or the holding is empty and no other frame is being
assembled, so that the frame arrives and is taken at once (assumption 1). -/
def State.takes (f : Frame) (s : State) : Bool :=
  s.handling.isNone && s.reply.isNone && f.fits &&
    match s.holding with
    | g :: _ => decide (g = f)
    | [] => s.assembling.isEmpty

/-- A reply is released to the transmit arbiter and its request's frame leaves the holding (R192 to R194). -/
def State.release (r : Reply) (s : State) : State :=
  { s with holding := s.holding.tail, handling := none }.postReply r

/-- A reply goes out: at once, or held until a frame has begun (R115, R193). -/
def State.respond (f : Frame) (a : Answer) (s : State) : State :=
  let r : Reply := ⟨f.kind, f.tag, a.code, a.data⟩
  if a.held then { s with handling := some ⟨r, false⟩ } else s.release r

/-- The receive holding while a frame's request is handled: the frame stands at its head (R192). -/
def State.admitFrame (f : Frame) (s : State) : State :=
  { s with holding := if s.holding.isEmpty then [f] else s.holding }

/-- A request is taken for handling and answered (R193); when the link does not take it now, nothing changes
(assumption 1). -/
def State.request (f : Frame) (act : State → State × Answer) (s : State) : State :=
  if s.takes f then
    let r := act (s.admitFrame f)
    r.1.respond f r.2
  else s

/-- A command that is a request is handled in its own frame (R193); any other command is not a request. -/
def State.serve (i : Instr) (act : State → State × Answer) (s : State) : State :=
  match i.frame? with
  | some f => s.request f act
  | none => s

/-- A reading: the completion code DONE followed by the octets read, and nothing changed (R193). -/
def State.report (data : List Byte) (s : State) : State × Answer := (s, { code := .done, data := data })

/-- A refused request: its completion code, and nothing changed (R193). -/
def State.refuse (code : Code) (s : State) : State × Answer := (s, Answer.refuse code)

/-- A request carried out: the state it leaves, and DONE alone (R193). -/
def State.done (s : State) : State × Answer := (s, { code := .done })

/-- The port an octet names. -/
def octetPort (o : Byte) : Port := ⟨o.toNat, o.isLt⟩

/-- A number raised to the lower end or lowered to the upper end of its range (R14, R53, R91, R93, R126). -/
def clamp (lo hi v : Nat) : Nat := max lo (min hi v)

/-! ## Loops, stations and the outbound queues (spec/03) -/

/-- The port of a loop's station (spec/00, "Ports and slots"). -/
def portOf (l : LoopNo) (st : Station) : Port := ⟨l.val * 32 + st.val, by omega⟩

/-- The loop of a port. -/
def loopOf (p : Port) : LoopNo := ⟨p.val / 32, by omega⟩

/-- The station of a port. -/
def stationOf (p : Port) : Station := ⟨p.val % 32, by omega⟩

/-- The station address of a station, 1 to 32. -/
def addressOf (st : Station) : Byte := BitVec.ofNat 8 (st.val + 1)

/-- The entry whose pending challenge names a port; at most one does (R2). -/
def State.challengeAt (s : State) (p : Port) : Option ExtIx :=
  s.directory.find? (fun o =>
    match o with
    | some e => match e.challenge with | some c => decide (c.port = p) | none => false
    | none => false)

/-- An entry whose pending challenge is removed and which returns to the state it held before (R52, R67, R78). -/
def Entry.revert (e : Entry) : Entry :=
  { e with
    challenge := none
    state := match e.state with
      | .challenged => .unbound
      | .moving => .admitted
      | .unbound | .admitted | .locked => e.state }

/-- The record is a device block for the station (R57). -/
def QueueRec.deviceFor (st : Station) (r : QueueRec) : Bool :=
  decide (r.station = st) && decide (r.block.origin = .device)

/-- The record is the CHALLENGE that carries a nonce to the station (R60). -/
def QueueRec.challengeFor (st : Station) (nonce : Long) (r : QueueRec) : Bool :=
  decide (r.station = st) && decide (r.block = .challenge nonce)

/-- A replaced CHALLENGE abandons the challenge it carried, when it is still pending at the port with that nonce (R59). -/
def State.loseChallenge (p : Port) (nonce : Long) (s : State) : State :=
  match s.challengeAt p with
  | some ix =>
    s.modEntry ix (fun e =>
      match e.challenge with
      | some c => if c.nonce = nonce then e.revert else e
      | none => e)
  | none => s

/-- What becomes of a device block taken out by replacement (R59): only a CHALLENGE has an effect here. -/
def State.loseBlock (p : Port) (lost : Option QueueRec) (s : State) : State :=
  match lost with
  | some ⟨_, .challenge nonce⟩ => s.loseChallenge p nonce
  | _ => s

/-- A unit offers a device block for a port (R58, R59): discarded for an ABSENT port; otherwise it joins the tail, and an
older device block for the same address is taken out. -/
def State.offer (p : Port) (b : OutBlock) (s : State) : State :=
  match (s.port p).presence with
  | .absent => s
  | .present =>
    let r := s.loop (loopOf p)
    let old := r.queue.find? (·.deviceFor (stationOf p))
    (s.putLoop (loopOf p)
      { r with queue := r.queue.filter (fun q => !q.deviceFor (stationOf p)) ++ [⟨stationOf p, b⟩] }).loseBlock p old

/-- A challenge's CHALLENGE block is taken out of the queue unsent (R60). -/
def State.withdraw (p : Port) (nonce : Long) (s : State) : State :=
  let r := s.loop (loopOf p)
  s.putLoop (loopOf p) { r with queue := r.queue.filter (fun q => !q.challengeFor (stationOf p) nonce) }

/-- A pending challenge is abandoned: removed, its CHALLENGE block withdrawn, its entry back in the state before it
(R8, R60, R67). -/
def State.abandon (ix : ExtIx) (s : State) : State :=
  match s.entry? ix with
  | some e =>
    match e.challenge with
    | some c => (s.withdraw c.port c.nonce).putEntry ix (some e.revert)
    | none => s
  | none => s

/-- A DENY queued by the admission or dial unit, with its DENIED report; for an ABSENT port neither (R63, R85). -/
def State.deny (p : Port) (reason : DenyReason) (ix : Option ExtIx) (s : State) : State :=
  match (s.port p).presence with
  | .absent => s
  | .present => (s.offer p (.deny reason)).raise (.denied p reason ix)

/-- Relay records of a queue (R39). -/
def relays (q : List QueueRec) : Nat := q.countP (fun r => decide (r.block.origin = .relay))

/-- The queue and Relay Count without the records addressed to a station (R40, R52, R61). -/
def LoopRec.discard (st : Station) (r : LoopRec) : LoopRec :=
  { r with
    queue := r.queue.filter (fun q => decide (q.station ≠ st))
    relayCount := r.relayCount - relays (r.queue.filter (fun q => decide (q.station = st))) }

/-! ## Bindings, lapses, failures and locks (spec/04) -/

/-- A port that loses its bound extension; a DIALLING attempt is abandoned, other dial states and the hook stay (R64). -/
def PortRec.unbind (r : PortRec) : PortRec :=
  if r.dial = .dialling then { r with bound := none, dial := .idle, buffer := [], interdigit := none }
  else { r with bound := none }

/-- Releasing a binding (R64): both sides, Refresh Remaining and Overdue cleared as one change. The admission state is the
caller's. -/
def State.releaseBinding (ix : ExtIx) (s : State) : State :=
  match s.entry? ix with
  | some e =>
    match e.bound with
    | some q =>
      (s.putEntry ix (some { e with bound := none, refresh := none, refreshDue := false, overdue := none })).putPort q
        (s.port q).unbind
    | none => s
  | none => s

/-- The admission state an entry takes when its binding lapses: ADMITTED becomes UNBOUND, MOVING becomes CHALLENGED and
keeps its challenge (R69, R81). -/
def AdmissionState.lapsed : AdmissionState → AdmissionState
  | .admitted => .unbound
  | .moving => .challenged
  | .unbound => .unbound
  | .challenged => .challenged
  | .locked => .locked

/-- The lapse procedure (R81): deferred by Overdue while a call is live, otherwise the binding is released, NOTICE
REREGISTER queued to a PRESENT port, and LAPSED raised. -/
def State.lapse (ix : ExtIx) (cause : LapseCause) (s : State) : State :=
  match s.entry? ix with
  | none => s
  | some e =>
    if e.liveCall.isSome then s.putEntry ix (some { e with overdue := some cause })
    else
      match e.bound with
      | none => s
      | some q =>
        (((s.releaseBinding ix).modEntry ix (fun e => { e with state := e.state.lapsed })).offer q
          (.notice .reregister)).raise (.lapsed ix q cause)

/-- The Lock Remaining a lock period loads (R66, R13). -/
def lockOf (period : Nat) : LockRemaining := if period = 0 then .untilUnlocked else .seconds period

/-- Step 1 of the locking procedure (R66): a pending challenge is removed and withdrawn, and its port denied LOCKED. -/
def State.lockChallenge (ix : ExtIx) (s : State) : State :=
  match s.entry? ix with
  | some e =>
    match e.challenge with
    | some c =>
      ((s.withdraw c.port c.nonce).putEntry ix (some { e with challenge := none })).deny c.port .locked (some ix)
    | none => s
  | none => s

/-- Step 2 of the locking procedure (R66): a binding is released and its port sent NOTICE REREGISTER. -/
def State.lockBinding (ix : ExtIx) (s : State) : State :=
  match s.entry? ix with
  | some e =>
    match e.bound with
    | some q => (s.releaseBinding ix).offer q (.notice .reregister)
    | none => s
  | none => s

/-- Steps 3 and 4 of the locking procedure (R66): the entry becomes LOCKED with its lock loaded, and LOCKED is raised. -/
def State.lockEntry (ix : ExtIx) (s : State) : State :=
  match s.entry? ix with
  | some e =>
    (s.putEntry ix (some { e with state := .locked, lock := some (lockOf (s.classOf e).lockPeriod) })).raise
      (.locked ix (s.classOf e).lockPeriod)
  | none => s

/-- The locking procedure (R66). -/
def State.lockOut (ix : ExtIx) (s : State) : State := ((s.lockChallenge ix).lockBinding ix).lockEntry ix

/-- A counted failure (R65): the count rises up to 15, and without a live call it is compared with the class threshold in
force. -/
def State.countFailure (ix : ExtIx) (s : State) : State :=
  match s.entry? ix with
  | none => s
  | some e =>
    let count := min 15 (e.failures + 1)
    let s := s.putEntry ix (some { e with failures := count })
    if e.liveCall.isNone && decide ((s.classOf e).threshold ≤ count) then s.lockOut ix else s

/-! ## Nonces (R26) -/

/-- The nonce of the challenge counter as it stands (R26). -/
def State.nonce (s : State) : Long := mixPair s.challengeCounter s.nonceKey

/-- A nonce is taken: the counter advances by 2 (R26). -/
def State.spendNonce (s : State) : State := { s with challengeCounter := s.challengeCounter + 2 }

end Sys2Proof.Machine
end

