-- ==== Sys2Proof/Machine/Directory.lean ====
section
/-!
DEFINITION. Requests on extensions, classes and ports (spec/01): entering, erasing, unlocking and reading extensions,
writing and reading class records, and reading ports.
-/

namespace Sys2Proof.Machine

/-! ## ENTER EXTENSION (R6 to R9) -/

/-- The stored fields of an entry (R1). -/
structure Stored where
  number : List Digit
  secret : Key
  cls : ClassNo
  secure : Bool
  home : Option Port
  deriving DecidableEq, Repr

/-- The extension number a body carries, when its count is 3 to 6 and every counted digit 0 to 9 (R203). -/
def enterNumber? (b : EnterBody) : Option (List Digit) :=
  if 3 ≤ b.count.toNat ∧ b.count.toNat ≤ 6 then readAll numeralOf (b.digits.cells.take b.count.toNat) else none

/-- Steps 1 to 3 of R6 and the marks of R201: the index and the stored fields, or none for BAD_REQUEST. -/
def enterFields? (b : EnterBody) : Option (ExtIx × Stored) :=
  match below 320 b.index.toNat, enterNumber? b, below 8 b.cls.toNat, flagOf b.secure, flagOf b.homeMark with
  | some ix, some number, some cls, some secure, some marked =>
    some (ix, ⟨number, b.secret, cls, secure, if marked then some (octetPort b.home) else none⟩)
  | _, _, _, _, _ => none

/-- The entry created at a free index: the stored fields and the initial dynamic fields of R2. -/
def Stored.fresh (f : Stored) : Entry where
  number := f.number
  secret := f.secret
  cls := f.cls
  secure := f.secure
  home := f.home
  state := .unbound
  bound := none
  challenge := none
  failures := 0
  lock := none
  refresh := none
  refreshDue := false
  overdue := none
  liveCall := none

/-- The stored fields replaced and the dynamic fields kept (R7). -/
def Entry.restock (e : Entry) (f : Stored) : Entry :=
  { e with number := f.number, secret := f.secret, cls := f.cls, secure := f.secure, home := f.home }

/-- An occupied position holds the number (R1). -/
def Entry.holds (number : List Digit) (e : Option Entry) : Bool :=
  match e with
  | some e => decide (e.number = number)
  | none => false

/-- Step 4 of R6: another occupied position holds the number. -/
def State.duplicated (s : State) (ix : ExtIx) (number : List Digit) : Bool :=
  (List.finRange 320).any (fun j => decide (j ≠ ix) && Entry.holds number (s.entry? j))

/-- R8: the replacement abandons a pending challenge, for a home port away from its port or for a new secret, and queues
its DENY without a report. `old` is the secret before the replacement. -/
def State.enterAbandon (ix : ExtIx) (old : Key) (s : State) : State :=
  match s.entry? ix with
  | none => s
  | some e =>
    match e.challenge with
    | none => s
    | some c =>
      if e.home.any (fun h => decide (h ≠ c.port)) then (s.abandon ix).offer c.port (.deny .wrongPort)
      else if e.secret ≠ old then (s.abandon ix).offer c.port (.deny .busy)
      else s

/-- R9: a home port away from the bound port starts the lapse procedure. -/
def State.enterLapse (ix : ExtIx) (s : State) : State :=
  match s.entry? ix with
  | none => s
  | some e =>
    match e.home, e.bound with
    | some h, some q => if h ≠ q then s.lapse ix .homePort else s
    | _, _ => s

/-- The entry created or its stored fields replaced, with what follows from the replacement (R6 to R9). -/
def State.enter (ix : ExtIx) (f : Stored) (s : State) : State :=
  match s.entry? ix with
  | none => s.putEntry ix (some f.fresh)
  | some e => ((s.putEntry ix (some (e.restock f))).enterAbandon ix e.secret).enterLapse ix

/-- What ENTER EXTENSION does once taken (R6 to R9). -/
def enterAct (b : EnterBody) (s : State) : State × Answer :=
  match enterFields? b with
  | none => s.refuse .badRequest
  | some (ix, f) => if s.duplicated ix f.number then s.refuse .duplicate else (s.enter ix f).done

/-- ENTER_EXTENSION. -/
def execEnterExtension (tag : Byte) (b : EnterBody) (s : State) : Host.Outcome State Fault Refusal :=
  .next (s.serve (.enterExtension tag b) (enterAct b))

/-! ## ERASE EXTENSION (R10) -/

/-- A request on an occupied directory position: BAD_REQUEST for an index outside 0 to 319, NO_SUCH for a free one. -/
def State.onEntry (index : Word) (act : ExtIx → Entry → State → State × Answer) (s : State) : State × Answer :=
  match below 320 index.toNat with
  | none => s.refuse .badRequest
  | some ix =>
    match s.entry? ix with
    | none => s.refuse .noSuch
    | some e => act ix e s

/-- The port an erased entry was bound at: unbound, and IDLE when it was DIALLING or BLOCKED (R10, step 2). -/
def PortRec.erased (r : PortRec) : PortRec :=
  if r.dial = .dialling ∨ r.dial = .blocked then
    { r with bound := none, dial := .idle, buffer := [], interdigit := none }
  else { r with bound := none }

/-- Step 1 of R10. -/
def State.eraseChallenge (ix : ExtIx) (e : Entry) (s : State) : State :=
  match e.challenge with
  | some c =>
    ((s.withdraw c.port c.nonce).putEntry ix (some { e with challenge := none })).offer c.port (.deny .unknown)
  | none => s

/-- Step 2 of R10. -/
def State.eraseBinding (e : Entry) (s : State) : State :=
  match e.bound with
  | some q => (s.putPort q (s.port q).erased).offer q (.notice .reregister)
  | none => s

/-- What ERASE EXTENSION does with an occupied entry (R10). -/
def eraseEntry (ix : ExtIx) (e : Entry) (s : State) : State × Answer :=
  if e.liveCall.isSome then s.refuse .busy
  else (((s.eraseChallenge ix e).eraseBinding e).putEntry ix none).done

/-- ERASE_EXTENSION. -/
def execEraseExtension (tag : Byte) (index : Word) (s : State) : Host.Outcome State Fault Refusal :=
  .next (s.serve (.eraseExtension tag index) (State.onEntry index eraseEntry))

/-! ## UNLOCK EXTENSION and lock expiry (R5, R11, R83) -/

/-- An entry whose lock ends: UNBOUND, failure count 0, lock cleared (R5, R11). -/
def Entry.unlocked (e : Entry) : Entry := { e with state := .unbound, failures := 0, lock := none }

/-- A lock ends, and UNLOCKED is raised (R5, R11, R83). -/
def State.unlock (ix : ExtIx) (e : Entry) (s : State) : State :=
  (s.putEntry ix (some e.unlocked)).raise (.unlocked ix)

/-- What UNLOCK EXTENSION does with an occupied entry (R11). -/
def unlockEntry (ix : ExtIx) (e : Entry) (s : State) : State × Answer :=
  if e.state = .locked then (s.unlock ix e).done else s.refuse .state

/-- UNLOCK_EXTENSION. -/
def execUnlockExtension (tag : Byte) (index : Word) (s : State) : Host.Outcome State Fault Refusal :=
  .next (s.serve (.unlockExtension tag index) (State.onEntry index unlockEntry))

/-! ## READ EXTENSION (R12) -/

/-- An extension number as a count octet and six digit octets; the octets beyond the count are a free value of the reply
(R203; assumption 14). -/
def numberOctets (reply : Nat) (number : List Digit) : List Byte :=
  BitVec.ofNat 8 number.length ::
    (number.map (fun d => BitVec.ofNat 8 d.val) ++
      (List.range (6 - number.length)).map (fun i => Config.numberPadding reply (number.length + i)))

/-- A pending challenge: its port, its nonce, and its remaining answer time or "not yet sent" (R12, R204). -/
def Challenge.octets (c : Challenge) : List Byte :=
  numWord c.port ++ longOctets c.nonce ++ optOctets 2 (c.remaining.map numWord)

/-- A lock remaining; "until unlocked" is the value 0 (R204). -/
def LockRemaining.octets : LockRemaining → List Byte
  | .seconds n => numWord n
  | .untilUnlocked => numWord 0

/-- The fields of an entry in the order of R12, without the secret. -/
def Entry.octets (reply : Nat) (e : Entry) : List Byte :=
  numberOctets reply e.number ++ numOctet e.cls ++ flagOctet e.secure ++ idWord (e.home.map Fin.val) ++
    [e.state.octet] ++ idWord (e.bound.map Fin.val) ++ optOctets 9 (e.challenge.map Challenge.octets) ++
    numOctet e.failures ++ optOctets 2 (e.lock.map LockRemaining.octets) ++ optOctets 2 (e.refresh.map numWord) ++
    flagOctet e.overdue.isSome ++ optOctets 1 (e.overdue.map (fun c => [c.octet])) ++
    idWord (e.liveCall.map BitVec.toNat)

/-- What READ EXTENSION does with an occupied entry (R12); the part changes nothing, the model counts the reply. -/
def readEntry (_ : ExtIx) (e : Entry) (s : State) : State × Answer :=
  ({ s with freeReads := s.freeReads + 1 }, { code := .done, data := e.octets s.freeReads })

/-- READ_EXTENSION. -/
def execReadExtension (tag : Byte) (index : Word) (s : State) : Host.Outcome State Fault Refusal :=
  .next (s.serve (.readExtension tag index) (State.onEntry index readEntry))

/-! ## Classes (R13 to R15) -/

/-- The class number and the clamped record of a body; none for BAD_REQUEST (R14). -/
def classFields? (b : ClassBody) : Option (ClassNo × ClassRec) :=
  match below 8 b.cls.toNat, verdictOf b.verdict, policyOf b.policy with
  | some cls, some verdict, some policy =>
    some (cls, {
      defaultVerdict := verdict
      policy := policy
      keyWaitLimit := clamp 50 5000 b.keyWaitLimit.toNat
      threshold := clamp 1 15 b.threshold.toNat
      lockPeriod := b.lockPeriod.toNat
      refreshInterval := clamp 10 3600 b.refreshInterval.toNat
      answerLimit := clamp 100 2000 b.answerLimit.toNat })
  | _, _, _ => none

/-- Every numeric field of the record stands as the body gave it (R14). -/
def classExact (b : ClassBody) (r : ClassRec) : Bool :=
  decide (r.keyWaitLimit = b.keyWaitLimit.toNat) && decide (r.threshold = b.threshold.toNat) &&
    decide (r.refreshInterval = b.refreshInterval.toNat) && decide (r.answerLimit = b.answerLimit.toNat)

/-- What SET CLASS does once taken (R14). -/
def setClassAct (b : ClassBody) (s : State) : State × Answer :=
  match classFields? b with
  | none => s.refuse .badRequest
  | some (cls, r) =>
    ({ s with classes := s.classes.set cls r }, { code := if classExact b r then .done else .adjusted })

/-- SET_CLASS. -/
def execSetClass (tag : Byte) (b : ClassBody) (s : State) : Host.Outcome State Fault Refusal :=
  .next (s.serve (.setClass tag b) (setClassAct b))

/-- The seven fields of a class record (R13, R15). -/
def ClassRec.octets (r : ClassRec) : List Byte :=
  [r.defaultVerdict.octet, r.policy.octet] ++ numWord r.keyWaitLimit ++ numOctet r.threshold ++ numWord r.lockPeriod ++
    numWord r.refreshInterval ++ numWord r.answerLimit

/-- What READ CLASS does once taken (R15). -/
def readClassAct (cls : Byte) (s : State) : State × Answer :=
  match below 8 cls.toNat with
  | none => s.refuse .badRequest
  | some c => s.report (s.classes.get c).octets

/-- READ_CLASS. -/
def execReadClass (tag cls : Byte) (s : State) : Host.Outcome State Fault Refusal :=
  .next (s.serve (.readClass tag cls) (readClassAct cls))

/-! ## READ PORT (R17) -/

/-- The fields of R16. -/
def PortRec.octets (r : PortRec) : List Byte :=
  [r.presence.octet] ++ numOctet r.miss ++ idWord (r.bound.map Fin.val) ++ [r.hook.octet, r.dial.octet] ++
    digitOctets r.buffer ++ optOctets 2 (r.interdigit.map numWord) ++ idWord (r.call.map BitVec.toNat)

/-- What READ PORT does once taken (R17). -/
def readPortAct (port : Byte) (s : State) : State × Answer :=
  let p := octetPort port
  s.report ((s.port p).octets ++ flagOctet ((s.loop (loopOf p)).pollList.get (stationOf p)) ++
    [(s.loop (loopOf p)).state.octet] ++ idWord ((s.challengeAt p).map Fin.val))

/-- READ_PORT. -/
def execReadPort (tag port : Byte) (s : State) : Host.Outcome State Fault Refusal :=
  .next (s.serve (.readPort tag port) (readPortAct port))

end Sys2Proof.Machine
end

