-- ==== Sys2Proof/Machine/Loops.lean ====
section
/-!
DEFINITION. The station loops (spec/03): setting up a loop, sending to a station, turns and their outcomes, presence and
absence, breaks and restores, and the hand-over of a received block to its unit.
-/

namespace Sys2Proof.Machine

/-! ## Characters and blocks (R43, R44) -/

/-- An address character (R43). -/
def addressChar (st : Station) : LoopChar := ⟨addressOf st, true, false⟩

/-- A data character (R43). -/
def dataChar (o : Byte) : LoopChar := ⟨o, false, false⟩

/-- The check of a block: 255 less the remainder of the sum of kind, length and body on division by 256 (R44). -/
def blockCheck (kind : Byte) (body : List Byte) : Byte :=
  255 - BitVec.ofNat 8 ((kind.toNat + body.length + octetSum body) % 256)

/-- The characters of a block on the line: address, kind, length, body, check (R44). -/
def blockChars (st : Station) (b : OutBlock) : List LoopChar :=
  let (kind, body) := b.kindBody
  addressChar st ::
    (kind :: BitVec.ofNat 8 body.length :: (body ++ [blockCheck kind body])).map dataChar

/-! ## Absence (R52) -/

/-- Step 3 of R52: the hook becomes ON, and DIALLING or BLOCKED becomes IDLE with its buffer and timer cleared. -/
def PortRec.gone (r : PortRec) : PortRec :=
  if r.dial = .dialling ∨ r.dial = .blocked then
    { r with hook := .on, dial := .idle, buffer := [], interdigit := none }
  else { r with hook := .on }

/-- Step 2 of R52: a pending challenge at the port is abandoned. -/
def State.dropChallengeAt (p : Port) (s : State) : State :=
  match s.challengeAt p with
  | some ix => s.modEntry ix Entry.revert
  | none => s

/-- Step 4 of R52: the extension bound at the port goes through the lapse procedure. -/
def State.lapseAt (p : Port) (s : State) : State :=
  match (s.port p).bound with
  | some ix => s.lapse ix .absent
  | none => s

/-- The queued blocks of a port discarded (R40, R52). -/
def State.discardBlocks (p : Port) (s : State) : State :=
  s.putLoop (loopOf p) ((s.loop (loopOf p)).discard (stationOf p))

/-- The absence procedure (R52). -/
def State.absenceProcedure (p : Port) (s : State) : State :=
  let s := (s.discardBlocks p).dropChallengeAt p
  (s.putPort p (s.port p).gone).lapseAt p

/-- A PRESENT port becomes ABSENT: STATION ABSENT is raised, then the absence procedure runs (R40, R41, R51). -/
def State.goAbsent (p : Port) (s : State) : State :=
  ((s.putPort p { s.port p with presence := .absent }).raise (.stationAbsent p)).absenceProcedure p

/-- The port becomes ABSENT when it is PRESENT (R40, R41). -/
def State.ensureAbsent (p : Port) (s : State) : State :=
  match (s.port p).presence with
  | .present => s.goAbsent p
  | .absent => s

/-- A port's Miss Count becomes 0. -/
def State.clearMiss (p : Port) (s : State) : State := s.putPort p { s.port p with miss := 0 }

/-! ## SET LOOP (R40 to R42) -/

/-- The poll list of four octets: address a in octet (a - 1) div 8 with weight 2 to the (a - 1) mod 8 (spec/12). -/
def pollListOf (octets : Table Byte 4) : Table Bool 32 :=
  Table.tabulate (fun st => octetBit (octets.get ⟨st.val / 8, by omega⟩) (st.val % 8))

/-- The four octets of a poll list (R204). -/
def pollListOctets (poll : Table Bool 32) : List Byte := bitMapOctets 4 poll.cells

/-- An address taken off the poll list (R40). -/
def State.removeStation (p : Port) (s : State) : State := ((s.ensureAbsent p).discardBlocks p).clearMiss p

/-- The turn in progress, unless it belongs to an address that the list leaves out (R40, R56). -/
def LoopRec.keepTurn (poll : Table Bool 32) (r : LoopRec) : Option Turn :=
  match r.turn with
  | some t => if poll.get t.station then some t else none
  | none => none

/-- A list change on a loop that stays enabled (R40). The Poll Position is kept, also where R42 could be read to start a list
filled again from its lowest address: the model's choice (assumption 33). -/
def State.changeList (l : LoopNo) (poll : Table Bool 32) (s : State) : State :=
  let r := s.loop l
  ((List.finRange 32).filter (fun st => r.pollList.get st && !poll.get st)).foldl
    (fun s st => s.removeStation (portOf l st))
    (s.putLoop l { r with pollList := poll, turn := r.keepTurn poll })

/-- A loop disabled by the host (R41). -/
def State.disableLoop (l : LoopNo) (poll : Table Bool 32) (s : State) : State :=
  let r := s.loop l
  let s := s.putLoop l
    { enable := false, pollList := poll, state := .disabled, position := none, queue := [], relayCount := 0, turn := none }
  let s := ((List.finRange 32).filter r.pollList.get).foldl (fun s st => s.ensureAbsent (portOf l st)) s
  (List.finRange 32).foldl (fun s st => s.clearMiss (portOf l st)) s

/-- A loop enabled by the host (R42). -/
def State.enableLoop (l : LoopNo) (poll : Table Bool 32) (s : State) : State :=
  s.putLoop l { s.loop l with enable := true, pollList := poll, state := .idleCycle, position := none }

/-- A taken SET LOOP applied (R40 to R42). -/
def State.setLoop (l : LoopNo) (enable : Bool) (poll : Table Bool 32) (s : State) : State :=
  match (s.loop l).enable, enable with
  | true, true => s.changeList l poll
  | true, false => s.disableLoop l poll
  | false, true => s.enableLoop l poll
  | false, false => s.putLoop l { s.loop l with pollList := poll }

/-- What SET LOOP does once taken (R40). -/
def setLoopAct (b : LoopBody) (s : State) : State × Answer :=
  match below 8 b.loop.toNat, flagOf b.enable with
  | some l, some enable => (s.setLoop l enable (pollListOf b.poll)).done
  | _, _ => s.refuse .badRequest

/-- SET_LOOP. -/
def execSetLoop (tag : Byte) (b : LoopBody) (s : State) : Host.Outcome State Fault Refusal :=
  .next (s.serve (.setLoop tag b) (setLoopAct b))

/-! ## SEND TO STATION (R61) -/

/-- A relay record joins the tail of its loop's queue (R61). -/
def LoopRec.enqueueRelay (st : Station) (body : List Byte) (r : LoopRec) : LoopRec :=
  { r with queue := r.queue ++ [⟨st, .relay body⟩], relayCount := r.relayCount + 1 }

/-- What SEND TO STATION does once taken (R61). -/
def sendToStationAct (port : Byte) (body : List Byte) (s : State) : State × Answer :=
  let p := octetPort port
  let r := s.loop (loopOf p)
  if 32 < body.length then s.refuse .badRequest
  else if !(r.enable && r.pollList.get (stationOf p)) then s.refuse .state
  else if (s.port p).presence = .absent then s.refuse .state
  else if 8 ≤ r.relayCount then s.refuse .full
  else (s.putLoop (loopOf p) (r.enqueueRelay (stationOf p) body)).done

/-- SEND_TO_STATION. -/
def execSendToStation (tag port : Byte) (body : List Byte) (s : State) : Host.Outcome State Fault Refusal :=
  .next (s.serve (.sendToStation tag port body) (sendToStationAct port body))

/-! ## Turns (R45 to R47) -/

/-- The address of the next turn: the lowest listed above the Poll Position, else the lowest listed (R45). -/
def LoopRec.nextStation (r : LoopRec) : Option Station :=
  let listed := (List.finRange 32).filter r.pollList.get
  match r.position with
  | some p =>
    match listed.find? (fun st => decide (p < st)) with
    | some st => some st
    | none => listed.head?
  | none => listed.head?

/-- The oldest queued record for a station (R46). -/
def LoopRec.oldestFor (st : Station) (r : LoopRec) : Option QueueRec :=
  r.queue.find? (fun q => decide (q.station = st))

/-- A turn begins at an address: its oldest record leaves the queue and is transmitted, or a poll is (R46). -/
def LoopRec.beginTurn (st : Station) (r : LoopRec) : LoopRec :=
  match r.oldestFor st with
  | some q =>
    { r with
      position := some st
      queue := r.queue.erase q
      relayCount := r.relayCount - relays [q]
      turn := some ⟨st, some q.block, blockChars st q.block, .sending⟩ }
  | none =>
    { r with position := some st, turn := some ⟨st, none, [addressChar st], .sending⟩ }

/-- A loop in IDLE-CYCLE between turns begins its next one (R45, R46). -/
def LoopRec.startTurn (r : LoopRec) : LoopRec :=
  match r.state, r.turn, r.nextStation with
  | .idleCycle, none, some st => r.beginTurn st
  | _, _, _ => r

/-- LOOP_TURN_START. -/
def execLoopTurnStart (l : LoopNo) (s : State) : Host.Outcome State Fault Refusal :=
  .next (s.putLoop l (s.loop l).startTurn)

/-- The answer timer of a challenge whose CHALLENGE block has been sent is loaded (R46, R74). -/
def State.startAnswerTimer (p : Port) (nonce : Long) (s : State) : State :=
  match s.challengeAt p with
  | none => s
  | some ix =>
    match s.entry? ix with
    | none => s
    | some e =>
      match e.challenge with
      | none => s
      | some c =>
        if c.nonce = nonce ∧ c.remaining = none then
          s.putEntry ix (some { e with challenge := some { c with remaining := some (s.classOf e).answerLimit } })
        else s

/-- What follows from a block having been sent: only a CHALLENGE has an effect (R46). -/
def State.noteSent (p : Port) (b : Option OutBlock) (s : State) : State :=
  match b with
  | some (.challenge nonce) => s.startAnswerTimer p nonce
  | _ => s

/-- The transmission of the turn ends and its reply window opens (R46, R47); the event that ends a bare poll's transmission
is this one too (assumption 30). -/
def State.blockSent (l : LoopNo) (s : State) : State :=
  match (s.loop l).turn with
  | some t =>
    if t.phase = .sending then
      (s.putLoop l { s.loop l with turn := some { t with phase := .window } }).noteSent (portOf l t.station) t.block
    else s
  | none => s

/-- BLOCK_SENT, for a block and for a bare poll (assumption 30). -/
def execBlockSent (l : LoopNo) (s : State) : Host.Outcome State Fault Refusal := .next (s.blockSent l)

/-! ## Outcomes of a turn (R48 to R51) -/

/-- A turn ends. -/
def State.endTurn (l : LoopNo) (s : State) : State := s.putLoop l { s.loop l with turn := none }

/-- A NONE or GARBLED outcome at a port: the miss counts up to 32, and a PRESENT port at the absence limit becomes
ABSENT (R51). -/
def State.miss (p : Port) (s : State) : State :=
  let r := s.port p
  let count := min 32 (r.miss + 1)
  let t := s.putPort p { r with miss := count }
  match r.presence with
  | .present => if s.absenceLimit ≤ count then t.goAbsent p else t
  | .absent => t

/-- A VALID outcome at a port: Miss Count 0, and an ABSENT port becomes PRESENT with its report (R50). -/
def State.present (p : Port) (s : State) : State :=
  let r := s.port p
  match r.presence with
  | .present => s.putPort p { r with miss := 0 }
  | .absent => (s.putPort p { r with presence := .present, miss := 0 }).raise (.stationPresent p)

/-- A turn whose reply window is open (R47). -/
def State.openWindow (s : State) (l : LoopNo) : Option Turn :=
  match (s.loop l).turn with
  | some t => if t.phase = .window then some t else none
  | none => none

/-- The reply window closes with no reply started: the outcome is NONE (R47). -/
def State.windowTimeout (l : LoopNo) (s : State) : State :=
  match s.openWindow l with
  | some t => (s.endTurn l).miss (portOf l t.station)
  | none => s

/-- REPLY_WINDOW_TIMEOUT. -/
def execReplyWindowTimeout (l : LoopNo) (s : State) : Host.Outcome State Fault Refusal := .next (s.windowTimeout l)

/-- The judgement of a reply of characters followed by 10 bit times of mark: none when it is GARBLED, otherwise the kind
and body of the block it carried, if any (R47, R48). -/
def judge (st : Station) (chars : List LoopChar) : Option (Option (Byte × List Byte)) :=
  match chars with
  | [] => none
  | a :: rest =>
    if a.framingError || !a.marker || decide (a.data ≠ addressOf st) then none
    else if rest.any (fun c => c.framingError || c.marker) then none
    else
      match rest.map LoopChar.data with
      | [] => some none
      | kind :: len :: more =>
        if len.toNat ≤ 32 ∧ more.length = len.toNat + 1 ∧
            more.getLast? = some (blockCheck kind more.dropLast) then
          some (some (kind, more.dropLast))
        else none
      | _ => none

/-- A block carried by a VALID reply is handed on to the unit of its kind; one that fits no kind a station sends is
discarded (R49). -/
def State.handOn (p : Port) (block : Option (Byte × List Byte)) (s : State) : State :=
  match block with
  | some (kind, body) =>
    match decodeStationBlock kind body with
    | some b => { s with handed := s.handed ++ [(p, b)] }
    | none => s
  | none => s

/-- A reply is judged, and its outcome is applied (R48 to R51). -/
def State.stationReply (l : LoopNo) (chars : List LoopChar) (s : State) : State :=
  match s.openWindow l with
  | some t =>
    let p := portOf l t.station
    match judge t.station chars with
    | some block => ((s.endTurn l).present p).handOn p block
    | none => (s.endTurn l).miss p
  | none => s

/-- STATION_REPLY. -/
def execStationReply (l : LoopNo) (chars : List LoopChar) (s : State) : Host.Outcome State Fault Refusal :=
  .next (if chars.isEmpty then s else s.stationReply l chars)

/-! ## Breaks and restores (R54, R55) -/

/-- The entry's pending challenge has its port on the loop (R54). -/
def Entry.challengedOn (l : LoopNo) (e : Entry) : Bool :=
  match e.challenge with
  | some c => decide (loopOf c.port = l)
  | none => false

/-- The nonce of the challenge pending at a port. -/
def State.pendingNonce (s : State) (p : Port) : Option Long :=
  match s.challengeAt p with
  | some ix =>
    match s.entry? ix with
    | some e => e.challenge.map Challenge.nonce
    | none => none
  | none => none

/-- The record is the CHALLENGE of the challenge pending at its port (R54, R60). -/
def State.carriesPending (s : State) (l : LoopNo) (r : QueueRec) : Bool :=
  match r.block with
  | .challenge nonce => decide (s.pendingNonce (portOf l r.station) = some nonce)
  | _ => false

/-- Every pending challenge of the loop is abandoned and its CHALLENGE withdrawn (R54, R60). -/
def State.abandonLoop (l : LoopNo) (s : State) : State :=
  let r := s.loop l
  { s.putLoop l { r with queue := r.queue.filter (fun q => !s.carriesPending l q) } with
    directory := s.directory.map (fun o => o.map (fun e => if e.challengedOn l then e.revert else e)) }

/-- A break on the return line of a loop in IDLE-CYCLE (R54). -/
def State.loopBreak (l : LoopNo) (s : State) : State :=
  let r := s.loop l
  match r.state with
  | .idleCycle =>
    ((s.putLoop l { r with state := .fault, position := none, turn := none }).raise (.loopFault l)).abandonLoop l
  | .disabled => s
  | .fault => s

/-- LOOP_BREAK. -/
def execLoopBreak (l : LoopNo) (s : State) : Host.Outcome State Fault Refusal := .next (s.loopBreak l)

/-- The return line of a loop in FAULT has stayed at mark (R55). -/
def State.loopRestore (l : LoopNo) (s : State) : State :=
  let r := s.loop l
  match r.state with
  | .fault => (s.putLoop l { r with state := .idleCycle }).raise (.loopRestored l)
  | .disabled => s
  | .idleCycle => s

/-- LOOP_RESTORE. -/
def execLoopRestore (l : LoopNo) (s : State) : Host.Outcome State Fault Refusal := .next (s.loopRestore l)

/-! ## Blocks handed on (R49) -/

/-- A unit takes a block that came from a port which is PRESENT (R63, R85). -/
def State.atPresent (p : Port) (act : State → State) (s : State) : State :=
  match (s.port p).presence with
  | .present => act s
  | .absent => s

/-- A block is taken by its unit as an event of its own (R49, R63, R85): the oldest block handed on, or, when none waits, a
block that arrives and is taken at once (assumption 2). -/
def State.takeBlock (p : Port) (b : StationBlock) (act : State → State) (s : State) : State :=
  match s.handed with
  | [] => s.atPresent p act
  | h :: rest => if h = (p, b) then { s with handed := rest }.atPresent p act else s

/-- FEATURE (R49). -/
def execFeature (p : Port) (body : List Byte) (s : State) : Host.Outcome State Fault Refusal :=
  .next (s.takeBlock p (.feature body) (State.raise (.stationBlock p body)))

end Sys2Proof.Machine
end

