-- ==== Sys2Proof/Machine/Admission.lean ====
section
/-!
DEFINITION. Admission (spec/04): REGISTER and its cases, answers, CHECK-IN, and the three expiries of the admission unit.
-/

namespace Sys2Proof.Machine

/-! ## REGISTER (R67 to R73) -/

/-- The entry that holds a number (R1, spec/04 "Registration"). -/
def State.findNumber (s : State) (number : List Digit) : Option ExtIx := s.directory.find? (Entry.holds number)

/-- R67: a pending challenge at the port that belongs to an entry other than the named one is abandoned. -/
def State.clearWay (p : Port) (x : Option ExtIx) (s : State) : State :=
  match s.challengeAt p with
  | some y => if some y = x then s else s.abandon y
  | none => s

/-- R73: a challenge is issued to an entry at a port; an older one at the port is replaced. -/
def State.issueChallenge (p : Port) (x : ExtIx) (s : State) : State :=
  match s.entry? x with
  | none => s
  | some e =>
    let nonce := s.nonce
    let s := match e.challenge with
      | some c => s.withdraw c.port c.nonce
      | none => s
    ((s.spendNonce).putEntry x (some { e with
      challenge := some ⟨p, nonce, none⟩
      state := if e.state = .moving then .moving else .challenged })).offer p (.challenge nonce)

/-- R72 and R73: a challenge out at another port denies BUSY; otherwise a challenge is issued. -/
def State.registerChallenge (p : Port) (x : ExtIx) (s : State) : State :=
  match s.entry? x with
  | none => s
  | some e =>
    if e.challenge.any (fun c => decide (c.port ≠ p)) then s.deny p .busy (some x) else s.issueChallenge p x

/-- R71: the entry becomes MOVING, or is denied IN_CALL_ELSEWHERE. -/
def State.registerMove (p q : Port) (x : ExtIx) (e : Entry) (s : State) : State :=
  if e.liveCall.isSome ∨ (s.port q).dial ≠ .idle then s.deny p .inCallElsewhere (some x)
  else (s.putEntry x (some { e with state := .moving })).issueChallenge p x

/-- R70: a re-registration at the entry's own port. -/
def State.registerAgain (p : Port) (x : ExtIx) (s : State) : State :=
  if (s.port p).dial ≠ .idle then s.deny p .busy (some x)
  else ((s.releaseBinding x).modEntry x (fun e => { e with state := .unbound })).issueChallenge p x

/-- R70 to R73 for an entry whose way at the port is clear. -/
def State.registerEntry (p : Port) (x : ExtIx) (s : State) : State :=
  match s.entry? x with
  | none => s
  | some e =>
    match e.state, e.bound with
    | .admitted, some q => if q = p then s.registerAgain p x else s.registerMove p q x e
    | _, _ => s.registerChallenge p x

/-- R69: the release of the extension that a port takeover ends. -/
def State.takeOver (p : Port) (y : ExtIx) (s : State) : State :=
  ((s.releaseBinding y).modEntry y (fun e => { e with state := e.state.lapsed })).raise (.lapsed y p .takeover)

/-- R69 to R73. -/
def State.registerAt (p : Port) (x : ExtIx) (s : State) : State :=
  match (s.port p).bound with
  | some y =>
    if y = x then s.registerEntry p x
    else if (s.port p).dial ≠ .idle then s.deny p .busy (some x)
    else (s.takeOver p y).registerEntry p x
  | none => s.registerEntry p x

/-- R68, then R69 to R73: the cases of a REGISTER that names an entry, or none. -/
def State.registerCases (p : Port) (x : Option ExtIx) (s : State) : State :=
  match x with
  | none => s.deny p .unknown none
  | some x =>
    match s.entry? x with
    | none => s
    | some e =>
      if e.state = .locked then s.deny p .locked (some x)
      else if e.home.any (fun h => decide (h ≠ p)) then (s.deny p .wrongPort (some x)).countFailure x
      else s.registerAt p x

/-- A REGISTER taken at a port (R67 to R73). -/
def State.registerBlock (p : Port) (number : List Digit) (s : State) : State :=
  (s.clearWay p (s.findNumber number)).registerCases p (s.findNumber number)

/-- REGISTER. -/
def execRegister (p : Port) (number : List Digit) (s : State) : Host.Outcome State Fault Refusal :=
  .next (s.takeBlock p (.register number) (State.registerBlock p number))

/-! ## Answers (R74 to R78) -/

/-- The response expected to a nonce under a secret (R28). -/
def expectedResponse (nonce : Long) (secret : Key) : Long := mixPair nonce secret

/-- A binding made: both sides as one change, the entry ADMITTED with its refresh loaded, and ADMIT queued (R76, R77). -/
def State.bind (p : Port) (x : ExtIx) (s : State) : State :=
  match s.entry? x with
  | none => s
  | some e =>
    let interval := (s.classOf e).refreshInterval
    let s := s.putEntry x (some { e with
      state := .admitted, bound := some p, refresh := some interval, refreshDue := false, overdue := none })
    (s.putPort p { s.port p with bound := some x }).offer p (.admission interval)

/-- The failure count cleared and the pending challenge removed with its timer (R76, R77). -/
def Entry.answered (e : Entry) : Entry := { e with failures := 0, challenge := none }

/-- R77: the old binding of a MOVING entry is released, and its port sent NOTICE MOVED. -/
def State.leaveOldPort (x : ExtIx) (q : Port) (s : State) : State := (s.releaseBinding x).offer q (.notice .moved)

/-- R76 and R77: a matching ANSWER. -/
def State.matchingAnswer (p : Port) (x : ExtIx) (e : Entry) (s : State) : State :=
  let s := s.putEntry x (some e.answered)
  match e.state, e.bound with
  | .moving, some q => (((s.leaveOldPort x q).bind p x).raise (.moved x q p)).raise (.admitted x p)
  | _, _ => (s.bind p x).raise (.admitted x p)

/-- R78: a mismatching ANSWER, and R74: the expiry of the answer time; they differ in the DENY reason. -/
def State.mismatch (p : Port) (reason : DenyReason) (x : ExtIx) (e : Entry) (s : State) : State :=
  ((((s.putEntry x (some { e with challenge := none })).deny p reason (some x)).modEntry x Entry.revert)).countFailure x

/-- R75: an ANSWER is compared with the response expected for the challenge at the port. -/
def State.answerBlock (p : Port) (response : Long) (s : State) : State :=
  match s.challengeAt p with
  | none => s.deny p .noChallenge none
  | some x =>
    match s.entry? x with
    | none => s
    | some e =>
      match e.challenge with
      | none => s
      | some c =>
        if c.remaining = none then s.deny p .noChallenge none
        else if response = expectedResponse c.nonce e.secret then s.matchingAnswer p x e
        else s.mismatch p .badAnswer x e

/-- ANSWER. -/
def execAnswer (p : Port) (response : Long) (s : State) : Host.Outcome State Fault Refusal :=
  .next (s.takeBlock p (.answer response) (State.answerBlock p response))

/-- R74: the answer time of an entry's challenge has reached zero. -/
def State.answerExpiry (x : ExtIx) (s : State) : State :=
  match s.entry? x with
  | none => s
  | some e =>
    match e.challenge with
    | none => s
    | some c => if c.remaining = some 0 then s.mismatch c.port .timeout x e else s

/-- ANSWER_TIME_EXPIRY: the answer time has reached zero (R74); otherwise nothing is due (assumption 3). -/
def execAnswerTimeExpiry (x : ExtIx) (s : State) : Host.Outcome State Fault Refusal := .next (s.answerExpiry x)

/-! ## Keeping a binding (R79, R80) -/

/-- The refresh of an ADMITTED entry is reloaded by CHECK-IN at a port; Overdue is cleared unless the entry has a home
port away from the port (R79). -/
def Entry.checkIn (p : Port) (interval : Nat) (e : Entry) : Entry :=
  { e with
    refresh := some interval
    refreshDue := false
    overdue := if e.home.any (fun h => decide (h ≠ p)) then e.overdue else none }

/-- R79: a CHECK-IN taken at a port; the extension mark of a denial is the extension bound there, if any
(assumption 24). -/
def State.checkInBlock (p : Port) (s : State) : State :=
  match (s.port p).bound with
  | none => s.deny p .notAdmitted none
  | some x =>
    match s.entry? x with
    | none => s.deny p .notAdmitted none
    | some e =>
      if e.state = .admitted then s.putEntry x (some (e.checkIn p (s.classOf e).refreshInterval))
      else s.deny p .notAdmitted (some x)

/-- CHECK_IN. -/
def execCheckIn (p : Port) (s : State) : Host.Outcome State Fault Refusal :=
  .next (s.takeBlock p .checkIn (State.checkInBlock p))

/-- R80: an entry's refresh has reached zero and its lapse procedure starts; it does not expire again at zero. -/
def State.refreshEnd (x : ExtIx) (s : State) : State :=
  match s.entry? x with
  | none => s
  | some e => if e.refreshDue then (s.putEntry x (some { e with refreshDue := false })).lapse x .refresh else s

/-- REFRESH_EXPIRY: the refresh count has reached zero (R80); otherwise nothing is due (assumptions 3 and 4). -/
def execRefreshExpiry (x : ExtIx) (s : State) : Host.Outcome State Fault Refusal := .next (s.refreshEnd x)

/-- R5: a numeric lock remaining has reached zero. -/
def State.lockEnd (x : ExtIx) (s : State) : State :=
  match s.entry? x with
  | none => s
  | some e => if e.lock = some (.seconds 0) then s.unlock x e else s

/-- LOCK_EXPIRY: a numeric lock remaining has reached zero (R5); otherwise nothing is due (assumption 3). -/
def execLockExpiry (x : ExtIx) (s : State) : Host.Outcome State Fault Refusal := .next (s.lockEnd x)

end Sys2Proof.Machine
end

