-- ==== Sys2Proof/Machine/KeyStore.lean ====
section
/-!
DEFINITION. The key store (spec/08) and the keying of scramble contexts (R29, R30, R159 to R161): the draw ring, the wait
queue, serving passes, the supplier requests and the held slots.
-/

namespace Sys2Proof.Machine

/-! ## Keying a context (R159 to R161, R175) -/

/-- The transmit part of a context just keyed (R161). -/
def TxPart.start (key : Key) : TxPart := ⟨0, key, 0, [], none⟩

/-- The receive part of a context just keyed: HUNT, virgin, with its own copy of the key (R161, R175). -/
def RxPart.start (key : Key) : RxPart where
  state := .hunt
  virgin := true
  n := 0
  epoch := 0
  key := key
  previous := none
  miss := 0
  parse := .none
  rebuild := Table.replicate 8 none
  ready := none
  window := []
  stepped := false

/-- A context keyed: ACTIVE with its source, its epoch-0 key and both parts started (R159 to R161). -/
def Context.keyed (source : KeySource) (key : Key) (c : Context) : Context :=
  { c with
    state := .active
    keySource := some source
    key0 := key
    tx := some (TxPart.start key)
    rx := some (RxPart.start key) }

/-- A station context is keyed with a drawn key: a nonce Nk is taken, the key is wrapped under the secret of the call's
extension, and CALL KEY is queued to the call's port (R29, R160). -/
def State.keyStation (c : CtxId) (drawn : Key) (s : State) : State :=
  match (s.context c).call with
  | none => s
  | some id =>
    match s.call? id with
    | none => s
    | some call =>
      match s.entry? call.ext with
      | none => s
      | some e =>
        let nk := s.nonce
        ((s.spendNonce).putContext c ((s.context c).keyed (.drawn nk) drawn)).offer call.port
          (.callKey nk (wrapKey nk e.secret drawn))

/-- The call of a context served after its CONNECT becomes CONNECTED, and CALL CONNECTED is raised (R129). -/
def State.completeServed (c : CtxId) (s : State) : State :=
  match (s.context c).call with
  | none => s
  | some id =>
    (s.modCall id (fun k => { k with state := .connected, connectedTime := some 0 })).raise (.callConnected id false 0)

/-! ## The ring and the serving pass (R141, R144, R149) -/

/-- The ring position a number of slots ahead of another, from 127 to 0 (R141). -/
def ringAhead (p : RingPos) (i : Nat) : RingPos := ⟨(p.val + i) % 128, Nat.mod_lt _ (by decide)⟩

/-- The slot holds a key not yet delivered (R141). -/
def RingSlot.fresh (r : RingSlot) : Bool := decide (r.owner = .device)

/-- Fresh Count (R141). -/
def State.freshCount (s : State) : Nat := s.ring.count RingSlot.fresh

/-- Reachable Count (R141). -/
def State.reachableCount (s : State) : Nat :=
  (((List.range 128).map (fun i => s.ring.get (ringAhead s.pointer i))).takeWhile RingSlot.fresh).length

/-- Steps 1 to 5 of R144 for the context at the head of the queue, `rest` standing behind it; a context served within its
own CONNECT CALL is completed by that request. -/
def State.deliver (own : Option CtxId) (c : CtxId) (rest : List WaitItem) (s : State) : State :=
  let drawn := (s.ring.get s.pointer).key
  let s := { s with
    ring := s.ring.set s.pointer RingSlot.empty
    pointer := ringAhead s.pointer 1
    waitQueue := rest }
  let s := s.keyStation c drawn
  if own = some c then s else s.completeServed c

/-- The repeated steps of a serving pass over the wait queue, head first (R144). -/
def State.serveQueue (own : Option CtxId) : List WaitItem → State → State
  | [], s => s
  | w :: rest, s =>
    if (s.ring.get s.pointer).fresh then (s.deliver own w.ctx rest).serveQueue own rest else s

/-- The end of a serving pass: RUNNING, or SUSPENDED with KEYS SHORT (R144, R149). -/
def State.endPass (s : State) : State :=
  if s.waitQueue.isEmpty then { s with supplier := .running }
  else { s with supplier := .suspended }.raise (.keysShort s.waitQueue.length s.pointer s.freshCount)

/-- A serving pass (R144); `own` is the context of the CONNECT CALL that began it, if one did. -/
def State.servingPass (own : Option CtxId) (s : State) : State := (s.serveQueue own s.waitQueue).endPass

/-- A draw demand: the context joins the tail of the wait queue in KEY_WAIT with its timer loaded, and a pass follows
unless the supplier is STOPPED (R145, R150, R151). -/
def State.drawDemand (c : CtxId) (limit : Nat) (s : State) : State :=
  let s := { s.putContext c { s.context c with state := .keyWait } with waitQueue := s.waitQueue ++ [WaitItem.mk c limit] }
  match s.supplier with
  | .stopped => s
  | .running => s.servingPass (some c)
  | .suspended => s.servingPass (some c)

/-- A context leaves the wait queue from any position, without a pass (R150, R152). -/
def State.leaveQueue (c : CtxId) (s : State) : State :=
  { s with waitQueue := s.waitQueue.filter (fun w => decide (w.ctx ≠ c)) }

/-- A context becomes FREE, out of the wait queue first (R172). -/
def State.freeContext (c : CtxId) (s : State) : State := (s.leaveQueue c).putContext c Context.free

/-! ## DEPOSIT KEYS (R142) -/

/-- The slots a deposit writes, each with its key, wrapping from 127 to 0 (R142). -/
def depositTargets (position : Byte) (keys : List Key) : List (RingPos × Key) :=
  keys.zipIdx.map (fun k => ((⟨(position.toNat + k.2) % 128, Nat.mod_lt _ (by decide)⟩ : RingPos), k.1))

/-- The keys of a deposit written, their slots DEVICE-owned (R142). -/
def State.deposit (targets : List (RingPos × Key)) (s : State) : State :=
  { s with ring := targets.foldl (fun ring t => ring.set t.1 ⟨.device, t.2⟩) s.ring }

/-- What DEPOSIT KEYS does once taken (R142). -/
def depositKeysAct (b : DepositBody) (s : State) : State × Answer :=
  if 127 < b.position.toNat ∨ b.keys.length < 1 ∨ 8 < b.keys.length then s.refuse .badRequest
  else if (depositTargets b.position b.keys).any (fun t => (s.ring.get t.1).fresh) then s.refuse .occupied
  else (s.deposit (depositTargets b.position b.keys)).done

/-- DEPOSIT_KEYS. -/
def execDepositKeys (tag : Byte) (b : DepositBody) (s : State) : Host.Outcome State Fault Refusal :=
  .next (s.serve (.depositKeys tag b) (depositKeysAct b))

/-! ## START, STOP and RESUME DRAW (R146 to R148) -/

/-- What START DRAW does once taken (R146). -/
def startDrawAct (s : State) : State × Answer :=
  match s.supplier with
  | .stopped => ({ s with supplier := .running }.servingPass none).done
  | .running => (s.servingPass none).done
  | .suspended => (s.servingPass none).done

/-- START_DRAW. -/
def execStartDraw (tag : Byte) (s : State) : Host.Outcome State Fault Refusal :=
  .next (s.serve (.startDraw tag) startDrawAct)

/-- What STOP DRAW does once taken (R147). -/
def stopDrawAct (s : State) : State × Answer := { s with supplier := .stopped }.done

/-- STOP_DRAW. -/
def execStopDraw (tag : Byte) (s : State) : Host.Outcome State Fault Refusal :=
  .next (s.serve (.stopDraw tag) stopDrawAct)

/-- What RESUME DRAW does once taken (R148). -/
def resumeDrawAct (s : State) : State × Answer :=
  match s.supplier with
  | .stopped => s.refuse .state
  | .running => (s.servingPass none).done
  | .suspended => (s.servingPass none).done

/-- RESUME_DRAW. -/
def execResumeDraw (tag : Byte) (s : State) : Host.Outcome State Fault Refusal :=
  .next (s.serve (.resumeDraw tag) resumeDrawAct)

/-! ## The held slots (R153, R154) -/

/-- What HOLD KEY does once taken (R153). -/
def holdKeyAct (slot : Byte) (key : Key) (s : State) : State × Answer :=
  match below 32 slot.toNat with
  | none => s.refuse .badRequest
  | some i => { s with heldKeys := s.heldKeys.set i (some key) }.done

/-- HOLD_KEY. -/
def execHoldKey (tag slot : Byte) (key : Key) (s : State) : Host.Outcome State Fault Refusal :=
  .next (s.serve (.holdKey tag slot key) (holdKeyAct slot key))

/-- What DROP KEY does once taken (R154). -/
def dropKeyAct (slot : Byte) (s : State) : State × Answer :=
  match below 32 slot.toNat with
  | none => s.refuse .badRequest
  | some i => { s with heldKeys := s.heldKeys.set i none }.done

/-- DROP_KEY. -/
def execDropKey (tag slot : Byte) (s : State) : Host.Outcome State Fault Refusal :=
  .next (s.serve (.dropKey tag slot) (dropKeyAct slot))

/-! ## READ KEYS (R155) -/

/-- An item of the wait queue in READ KEYS: context id, call id, remaining time (R155). -/
def State.waitOctets (s : State) (w : WaitItem) : List Byte :=
  numWord w.ctx ++ callWord (s.context w.ctx).call ++ numWord w.remaining

/-- The values of READ KEYS, in order (R155); the draw pointer is one octet (assumption 13). -/
def State.keysOctets (s : State) : List Byte :=
  [s.supplier.octet] ++ numOctet s.pointer ++ numOctet s.freshCount ++ numOctet s.reachableCount ++
    s.ring.cells.map (fun r => r.owner.octet) ++ listOctets (s.waitQueue.map s.waitOctets) ++
    s.heldKeys.cells.flatMap (fun k => flagOctet k.isSome)

/-- What READ KEYS does once taken (R155). -/
def readKeysAct (s : State) : State × Answer := s.report s.keysOctets

/-- READ_KEYS. -/
def execReadKeys (tag : Byte) (s : State) : Host.Outcome State Fault Refusal :=
  .next (s.serve (.readKeys tag) readKeysAct)

end Sys2Proof.Machine
end

