-- ==== Sys2Proof/Machine/Calls.lean ====
section
/-!
DEFINITION. Calls (spec/07): creation, OPEN CALL, CONNECT CALL with its checks, holding, retrieving, refusing, clearing and
reading calls, the end of a call, and the expiry of a key wait.
-/

namespace Sys2Proof.Machine

/-! ## Creation (R118, R119) -/

/-- The id above a position, wrapping from 255 to 1 (R118). -/
def nextCallId (id : CallId) : CallId := if id = 255 then 1 else id + 1

/-- The first id from `id` upwards that no call holds; at most `fuel` ids in use are passed (R118). -/
def State.searchId (s : State) : Nat → CallId → CallId
  | 0, id => id
  | fuel + 1, id => if (s.findCall id).isNone then id else s.searchId fuel (nextCallId id)

/-- The id of the next call (R118). -/
def State.freshId (s : State) : CallId := s.searchId 128 (nextCallId s.nextId)

/-- A free call entry; the lowest one (assumption 12). -/
def State.freeSlot (s : State) : Option (Fin 128) := s.calls.find? Option.isNone

/-- A call just created (R119). -/
def Call.fresh (id : CallId) (state : CallState) (origin : CallOrigin) (port : Port) (ext : ExtIx)
    (digits : List Digit) (verdict : Verdict) : Call where
  id := id
  state := state
  origin := origin
  port := port
  ext := ext
  digits := digits
  verdict := verdict
  paths := []
  contexts := []
  requested := 0
  connectedTime := none

/-- A call is created in a free entry, and the Live Call of its extension and the Port Call of its port are set to its id
(R118, R119). -/
def State.createCall (slot : Fin 128) (c : Call) (s : State) : State :=
  let s := { s.putCall slot (some c) with nextId := c.id }
  (s.modEntry c.ext (fun e => { e with liveCall := some c.id })).putPort c.port { s.port c.port with call := some c.id }

/-! ## The end of a call (R137) -/

/-- Step 1 of R137: the connection-memory entries owned by the call are removed (R110). -/
def State.removePaths (id : CallId) (s : State) : State :=
  { s with connections := s.connections.map (fun o => o.filter (fun p => decide (p.owner ≠ id))) }

/-- Step 2 of R137: the call's contexts become FREE. -/
def State.freeContexts (cs : List CtxId) (s : State) : State := cs.foldl (fun s c => s.freeContext c) s

/-- Step 3 of R137: the port loses its call, and is BLOCKED or IDLE by its hook. -/
def PortRec.callEnded (r : PortRec) : PortRec :=
  { r with call := none, dial := match r.hook with | .off => .blocked | .on => .idle }

/-- Step 4 of R137: the notice of an end under R131 or R135. -/
def State.endNotice (p : Port) (notice : Option NoticeReason) (s : State) : State :=
  match notice with
  | some reason => s.offer p (.notice reason)
  | none => s

/-- Step 5 of R137, R82: a deferred lapse completes. -/
def State.deferredLapse (ix : ExtIx) (s : State) : State :=
  match s.entry? ix with
  | some e =>
    match e.overdue with
    | some cause => s.lapse ix cause
    | none => s
  | none => s

/-- Step 6 of R137: the call's entry becomes free. -/
def State.freeCall (id : CallId) (s : State) : State :=
  match s.findCall id with
  | some slot => s.putCall slot none
  | none => s

/-- The end of a call (R137). -/
def State.endCall (c : Call) (notice : Option NoticeReason) (s : State) : State :=
  let s := (s.removePaths c.id).freeContexts c.contexts
  let s := s.putPort c.port (s.port c.port).callEnded
  let s := s.modEntry c.ext (fun e => { e with liveCall := none })
  ((s.endNotice c.port notice).deferredLapse c.ext).freeCall c.id

/-! ## OPEN CALL (R121, R122) -/

/-- Steps 2 to 6 of R121 and the offer of R122. -/
def State.openTo (ix : ExtIx) (verdict : Verdict) (s : State) : State × Answer :=
  match s.entry? ix with
  | none => s.refuse .noSuch
  | some e =>
    if e.state = .moving then s.refuse .busy
    else
      match e.state, e.bound with
      | .admitted, some q =>
        if (s.port q).dial ≠ .idle then s.refuse .busy
        else
          match s.freeSlot with
          | none => s.refuse .full
          | some slot =>
            let id := s.freshId
            let s := s.createCall slot (.fresh id .offered .trunk q ix [] verdict)
            ((s.putPort q { s.port q with dial := .alerted }).offer q (.notice .alert), { code := .done, data := [id] })
      | _, _ => s.refuse .notAdmitted

/-- What OPEN CALL does once taken (R121, R122). -/
def openCallAct (index : Word) (verdict : Byte) (s : State) : State × Answer :=
  match below 320 index.toNat, verdictOf verdict with
  | some ix, some v => if v = .bar then s.refuse .badRequest else s.openTo ix v
  | _, _ => s.refuse .badRequest

/-- OPEN_CALL. -/
def execOpenCall (tag : Byte) (index : Word) (verdict : Byte) (s : State) : Host.Outcome State Fault Refusal :=
  .next (s.serve (.openCall tag index verdict) (openCallAct index verdict))

/-! ## The form of CONNECT CALL (R124 to R126) -/

/-- A transform as the request gives it, with the number of a context specification (R124). -/
inductive TransformSpec where
  | pass
  | mute
  | scramble (ref : Nat)
  | descramble (ref : Nat)
  deriving DecidableEq, Repr

/-- A path specification of good form (R124). -/
structure PathPlan where
  dest : SlotNo
  source : SlotNo
  transform : TransformSpec
  deriving DecidableEq, Repr

/-- The far end of a context specification of good form; a TRUNK names its held slot and salt (R124). -/
inductive FarPlan where
  | station
  | trunk (slot : HeldSlot) (salt : Long)
  deriving DecidableEq, Repr

/-- The far end as the context stores it. -/
def FarPlan.farEnd : FarPlan → FarEnd
  | .station => .station
  | .trunk _ _ => .trunk

/-- A context specification of good form, its B and L as given (R124). -/
structure CtxPlan where
  far : FarPlan
  mode : Mode
  interval : Nat
  loss : Nat
  deriving DecidableEq, Repr

/-- The transform of a code, when known. -/
def transformOf (code ref : Byte) : Option TransformSpec :=
  match code.toNat with
  | 0 => some .pass
  | 1 => some .mute
  | 2 => some (.scramble ref.toNat)
  | 3 => some (.descramble ref.toNat)
  | _ => none

/-- A path specification's form (R125, step 3). -/
def pathPlan? (p : PathSpec) : Option PathPlan :=
  match below 192 p.dest.toNat, below 192 p.source.toNat, transformOf p.transform p.ctxRef with
  | some dest, some source, some t => some ⟨dest, source, t⟩
  | _, _, _ => none

/-- The far end of a context specification's form (R125, step 3). -/
def farPlan? (c : CtxSpec) : Option FarPlan :=
  match c.farEnd.toNat with
  | 0 => some .station
  | 1 => (below 32 c.heldSlot.toNat).map (FarPlan.trunk · c.salt)
  | _ => none

/-- A context specification's form (R125, step 3). -/
def ctxPlan? (c : CtxSpec) : Option CtxPlan :=
  match farPlan? c, modeOf c.mode with
  | some far, some mode => some ⟨far, mode, c.interval.toNat, c.loss.toNat⟩
  | _, _ => none

/-- A path plan names a context specification in its SCRAMBLE. -/
def PathPlan.scrambles (i : Nat) (p : PathPlan) : Bool := decide (p.transform = .scramble i)

/-- A path plan names a context specification in its DESCRAMBLE. -/
def PathPlan.descrambles (i : Nat) (p : PathPlan) : Bool := decide (p.transform = .descramble i)

/-- The references of a path plan name context specifications of the body (R125, step 3). -/
def PathPlan.refsBelow (count : Nat) (p : PathPlan) : Bool :=
  match p.transform with
  | .pass => true
  | .mute => true
  | .scramble i => decide (i < count)
  | .descramble i => decide (i < count)

/-- The plan is for a STATION context. -/
def CtxPlan.isStation (c : CtxPlan) : Bool := decide (c.far = .station)

/-- The last four conditions of the form of the body: references in range, at most one STATION context, and every context
specification named by exactly one SCRAMBLE and one DESCRAMBLE path (R125, step 3). -/
def plansAgree (paths : List PathPlan) (ctxs : List CtxPlan) : Bool :=
  paths.all (PathPlan.refsBelow ctxs.length) && decide (ctxs.countP CtxPlan.isStation ≤ 1) &&
    (List.range ctxs.length).all
      (fun i => decide (paths.countP (PathPlan.scrambles i) = 1) && decide (paths.countP (PathPlan.descrambles i) = 1))

/-- The plans of a body of good form (R125, step 3). -/
def connectPlans? (b : ConnectBody) : Option (List PathPlan × List CtxPlan) :=
  if 1 ≤ b.paths.length ∧ b.paths.length ≤ 4 ∧ b.contexts.length ≤ 2 then
    match readAll pathPlan? b.paths, readAll ctxPlan? b.contexts with
    | some paths, some ctxs => if plansAgree paths ctxs then some (paths, ctxs) else none
    | _, _ => none
  else none

/-- The interval stored for a requested B: the largest of the four that is not above it, 256 at least (R126). -/
def adjustInterval (b : Nat) : Interval :=
  if 2048 ≤ b then .b2048 else if 1024 ≤ b then .b1024 else if 512 ≤ b then .b512 else .b256

/-- The loss limit stored for a requested L (R126). -/
def adjustLoss (l : Nat) : Nat := clamp 2 16 l

/-- B and L of the plan are stored as given (R126). -/
def CtxPlan.exact (c : CtxPlan) : Bool :=
  decide ((adjustInterval c.interval).frames = c.interval) && decide (adjustLoss c.loss = c.loss)

/-! ## The checks of CONNECT CALL (R125) -/

/-- Step 4 of R125 fails: CLEAR with a context, or SCRAMBLE with none. -/
def policyRefuses (v : Verdict) (contexts : Nat) : Bool :=
  match v with
  | .clear => decide (0 < contexts)
  | .scramble => decide (contexts = 0)
  | .allow => false
  | .bar => false

/-- Step 5 of R125 fails: a STATION context for an extension that is not secure-capable. -/
def State.insecure (s : State) (c : Call) (ctxs : List CtxPlan) : Bool :=
  ctxs.any CtxPlan.isStation && !((s.entry? c.ext).any Entry.secure)

/-- Step 6 of R125 fails: a TRUNK context names a held slot without a key. -/
def State.keyMissing (s : State) (ctxs : List CtxPlan) : Bool :=
  ctxs.any (fun c =>
    match c.far with
    | .station => false
    | .trunk slot _ => (s.heldKeys.get slot).isNone)

/-- Step 7 of R125 fails: destinations that are not distinct, or one that a path of another call holds. -/
def State.slotTaken (s : State) (id : CallId) (paths : List PathPlan) : Bool :=
  !decide ((paths.map PathPlan.dest).Nodup) ||
    paths.any (fun p => (s.connections.get p.dest).any (fun q => decide (q.owner ≠ id)))

/-- The FREE contexts in ascending order of id (R127, R158). -/
def State.freeIds (s : State) : List CtxId :=
  (List.finRange 96).filter (fun c => decide ((s.context c).state = .free))

/-- Step 8 of R125 fails: too few FREE contexts, or no room in the wait queue. -/
def State.noRoom (s : State) (ctxs : List CtxPlan) : Bool :=
  decide (s.freeIds.length < ctxs.length) || decide (16 < s.waitQueue.length + ctxs.countP CtxPlan.isStation)

/-- The first failing check of steps 4 to 8 of R125. -/
def State.connectRefusal (s : State) (c : Call) (paths : List PathPlan) (ctxs : List CtxPlan) : Option Code :=
  if policyRefuses c.verdict ctxs.length then some .policy
  else if s.insecure c ctxs then some .policy
  else if s.keyMissing ctxs then some .noKey
  else if s.slotTaken c.id paths then some .slotBusy
  else if s.noRoom ctxs then some .full
  else none

/-! ## Setting up a call (R127, R128) -/

/-- Step 1 of R127 for one context: it takes its call, its far end, mode, B and L. Key source and parts stay absent
(R158). -/
def Context.allocated (id : CallId) (plan : CtxPlan) : Context :=
  { Context.free with
    state := .keyWait
    call := some id
    config := some ⟨plan.far.farEnd, plan.mode, adjustInterval plan.interval, adjustLoss plan.loss⟩ }

/-- Steps 1 and 2 of R127 for one context: a TRUNK context is keyed from its held slot and salt (R30, R159); a STATION
context waits for its demand. -/
def State.allocate (id : CallId) (c : CtxId) (plan : CtxPlan) (s : State) : State :=
  match plan.far with
  | .station => s.putContext c (.allocated id plan)
  | .trunk slot salt =>
    s.putContext c ((Context.allocated id plan).keyed (.heldSlot slot salt)
      (trunkKey salt ((s.heldKeys.get slot).getD Key.zero)))

/-- The transform installed for a path plan: a reference becomes the id of the context allocated for it (R124, R127). -/
def TransformSpec.install (ids : List CtxId) : TransformSpec → Transform
  | .pass => .pass
  | .mute => .mute
  | .scramble i => match ids[i]? with | some c => .scramble c | none => .mute
  | .descramble i => match ids[i]? with | some c => .descramble c | none => .mute

/-- Step 3 of R127: the paths are installed, owned by the call (R110). -/
def State.installPaths (id : CallId) (ids : List CtxId) (paths : List PathPlan) (s : State) : State :=
  { s with
    connections :=
      paths.foldl (fun t p => t.set p.dest (some ⟨p.source, p.transform.install ids, id⟩)) s.connections }

/-- The Key-Wait Limit of the class of an extension (R13, R151). -/
def State.keyWaitLimitOf (s : State) (ix : ExtIx) : Nat :=
  match s.entry? ix with
  | some e => (s.classOf e).keyWaitLimit
  | none => 0

/-- Step 4 of R128: each STATION context makes its draw demand. -/
def State.demandAll (ix : ExtIx) (plans : List (CtxId × CtxPlan)) (s : State) : State :=
  plans.foldl (fun s p => if p.2.isStation then s.drawDemand p.1 (s.keyWaitLimitOf ix) else s) s

/-- A context waits for a key. -/
def State.waiting (s : State) (c : CtxId) : Bool := decide ((s.context c).state = .keyWait)

/-- Step 5 of R128: CONNECTED with its time at 0 when no context waits, CONNECTING otherwise. -/
def State.settleCall (id : CallId) (ids : List CtxId) (s : State) : State :=
  if ids.any s.waiting then s.modCall id (fun k => { k with state := .connecting })
  else s.modCall id (fun k => { k with state := .connected, connectedTime := some 0 })

/-- An accepted CONNECT CALL set up (R127, R128). -/
def State.connect (c : Call) (paths : List PathPlan) (ctxs : List CtxPlan) (s : State) : State :=
  let plans := s.freeIds.zip ctxs
  let ids := plans.map Prod.fst
  let s := plans.foldl (fun s p => s.allocate c.id p.1 p.2) s
  let s := s.modCall c.id (fun k =>
    { k with contexts := ids, requested := ctxs.length, paths := paths.map PathPlan.dest })
  let s := ((s.installPaths c.id ids paths).demandAll c.ext plans).settleCall c.id ids
  s.putPort c.port { s.port c.port with dial := .inCall }

/-- What CONNECT CALL does once taken (R125 to R128). -/
def connectCallAct (b : ConnectBody) (s : State) : State × Answer :=
  match s.call? b.call with
  | none => s.refuse .noSuch
  | some c =>
    if c.state ≠ .requested ∧ c.state ≠ .offered then s.refuse .state
    else
      match connectPlans? b with
      | none => s.refuse .badRequest
      | some (paths, ctxs) =>
        match s.connectRefusal c paths ctxs with
        | some code => s.refuse code
        | none =>
          (s.connect c paths ctxs, { code := if ctxs.all CtxPlan.exact then .done else .adjusted, held := true })

/-- CONNECT_CALL. -/
def execConnectCall (tag : Byte) (b : ConnectBody) (s : State) : Host.Outcome State Fault Refusal :=
  .next (s.serve (.connectCall tag b) (connectCallAct b))

/-! ## Holding and retrieving (R133, R134) -/

/-- A request on a call of the table: NO_SUCH for an id no call holds. -/
def State.onCall (id : CallId) (act : Call → State → State × Answer) (s : State) : State × Answer :=
  match s.call? id with
  | none => s.refuse .noSuch
  | some c => act c s

/-- The call and each of its contexts take new states (R133, R134). -/
def State.moveCall (c : Call) (state : CallState) (ctxState : CtxState) (s : State) : State :=
  c.contexts.foldl (fun s x => s.putContext x { s.context x with state := ctxState })
    (s.modCall c.id (fun k => { k with state := state }))

/-- What HOLD CALL does with a call (R133). -/
def holdCallAct (c : Call) (s : State) : State × Answer :=
  if c.state = .connected then (s.moveCall c .held .held, { code := .done, held := true }) else s.refuse .state

/-- HOLD_CALL. -/
def execHoldCall (tag : Byte) (id : CallId) (s : State) : Host.Outcome State Fault Refusal :=
  .next (s.serve (.holdCall tag id) (State.onCall id holdCallAct))

/-- What RETRIEVE CALL does with a call (R134). -/
def retrieveCallAct (c : Call) (s : State) : State × Answer :=
  if c.state = .held then (s.moveCall c .connected .active, { code := .done, held := true }) else s.refuse .state

/-- RETRIEVE_CALL. -/
def execRetrieveCall (tag : Byte) (id : CallId) (s : State) : Host.Outcome State Fault Refusal :=
  .next (s.serve (.retrieveCall tag id) (State.onCall id retrieveCallAct))

/-! ## Refusing and clearing (R135, R136) -/

/-- What REFUSE CALL does with a call (R135). -/
def refuseCallAct (c : Call) (s : State) : State × Answer :=
  if c.state = .requested ∨ c.state = .offered then
    (s.endCall c (some .refused), { code := .done, held := true })
  else s.refuse .state

/-- REFUSE_CALL. -/
def execRefuseCall (tag : Byte) (id : CallId) (s : State) : Host.Outcome State Fault Refusal :=
  .next (s.serve (.refuseCall tag id) (State.onCall id refuseCallAct))

/-- What CLEAR CALL does with a call (R136). -/
def clearCallAct (c : Call) (s : State) : State × Answer :=
  (s.endCall c none, { code := .done, data := optOctets 4 (c.connectedTime.map numLong), held := true })

/-- CLEAR_CALL. -/
def execClearCall (tag : Byte) (id : CallId) (s : State) : Host.Outcome State Fault Refusal :=
  .next (s.serve (.clearCall tag id) (State.onCall id clearCallAct))

/-! ## READ CALL (R139) -/

/-- The context of a transform, when it has one (R109). -/
def Transform.context? : Transform → Option CtxId
  | .pass => none
  | .mute => none
  | .scramble c => some c
  | .descramble c => some c

/-- A path in READ CALL: destination, source, transform, and the context id for SCRAMBLE and DESCRAMBLE (R139). -/
def State.pathOctets (s : State) (dest : SlotNo) : List Byte :=
  match s.connections.get dest with
  | some p =>
    numWord dest ++ numWord p.source ++ [p.transform.octet] ++
      (match p.transform.context? with | some c => numWord c | none => [])
  | none => numWord dest

/-- A context in READ CALL: its id and its state (R139). -/
def State.ctxStateOctets (s : State) (c : CtxId) : List Byte := numWord c ++ [(s.context c).state.octet]

/-- The fields of a call in the order of R139. -/
def State.callOctets (s : State) (c : Call) : List Byte :=
  [c.state.octet, c.origin.octet] ++ numWord c.port ++ numWord c.ext ++ [c.verdict.octet] ++ digitOctets c.digits ++
    listOctets (c.paths.map s.pathOctets) ++ listOctets (c.contexts.map s.ctxStateOctets) ++ numOctet c.requested ++
    optOctets 4 (c.connectedTime.map numLong)

/-- What READ CALL does with a call (R139). -/
def readCallAct (c : Call) (s : State) : State × Answer := s.report (s.callOctets c)

/-- READ_CALL. -/
def execReadCall (tag : Byte) (id : CallId) (s : State) : Host.Outcome State Fault Refusal :=
  .next (s.serve (.readCall tag id) (State.onCall id readCallAct))

/-! ## Key-wait expiry (R130, R131, R151) -/

/-- A path that named a context turned to PASS; the others as they are (R110, R130). -/
def Path.clearOf (c : CtxId) (p : Path) : Path :=
  if p.transform.context? = some c then { p with transform := .pass } else p

/-- The paths that named a context turned to PASS (R110, R130). -/
def State.retransform (c : CtxId) (s : State) : State :=
  { s with connections := s.connections.map (fun o => o.map (Path.clearOf c)) }

/-- R130: the context falls back to clear and its call becomes CONNECTED. -/
def State.fallBack (x : CtxId) (c : Call) (s : State) : State :=
  (((s.freeContext x).retransform x).modCall c.id (fun k =>
    { k with contexts := k.contexts.filter (fun y => decide (y ≠ x)), state := .connected, connectedTime := some 0 })).raise
      (.callConnected c.id true 1)

/-- R131: CALL FAILED is raised and the call ended with NOTICE KEY_SHORT. -/
def State.failCall (c : Call) (s : State) : State :=
  (s.raise (.callFailed c.id c.port c.ext)).endCall c (some .keyShort)

/-- The Key-Wait Policy of the class of an extension (R13, R130). -/
def State.keyWaitPolicyOf (s : State) (ix : ExtIx) : KeyWaitPolicy :=
  match s.entry? ix with
  | some e => (s.classOf e).policy
  | none => .drop

/-- The call table acts on the expiry of a context's key wait (R130, R131). -/
def State.applyPolicy (x : CtxId) (s : State) : State :=
  match (s.context x).call with
  | none => s
  | some id =>
    match s.call? id with
    | none => s
    | some c =>
      match s.keyWaitPolicyOf c.ext, c.verdict with
      | .fallClear, .allow => s.fallBack x c
      | _, _ => s.failCall c

/-- The context's key-wait timer has reached zero (R151). -/
def State.keyWaitDue (s : State) (x : CtxId) : Bool :=
  s.waitQueue.any (fun w => decide (w.ctx = x) && decide (w.remaining = 0))

/-- KEY_WAIT_EXPIRY: the context's timer has reached zero, so it leaves the queue and the class policy is applied (R130,
R131, R151); otherwise nothing is due (assumption 3). -/
def execKeyWaitExpiry (x : CtxId) (s : State) : Host.Outcome State Fault Refusal :=
  .next (if s.keyWaitDue x then (s.leaveQueue x).applyPolicy x else s)

end Sys2Proof.Machine
end

