-- ==== Sys2Proof/Machine/Dial.lean ====
section
/-!
DEFINITION. Dialling and screening (spec/05): hook changes, digits and their evaluation, interdigit expiry, and the screen
table's requests.
-/

namespace Sys2Proof.Machine

/-! ## Hook (R85 to R88) -/

/-- R86: an OFF-HOOK at an IDLE port, its hook already OFF. -/
def State.startDialling (p : Port) (s : State) : State :=
  match (s.port p).bound with
  | none => s.deny p .notAdmitted none
  | some ix =>
    match (s.entry? ix).map Entry.state with
    | some .admitted =>
      s.putPort p { s.port p with dial := .dialling, buffer := [], interdigit := some s.interdigitLimit }
    | some .moving => s.deny p .moving (some ix)
    | _ => s.deny p .notAdmitted (some ix)

/-- R123: the call alerting at the port is answered. -/
def State.answerCall (p : Port) (s : State) : State :=
  let s' := s.putPort p { s.port p with dial := .inCall }
  match (s.port p).call with
  | some id => s'.raise (.answered id p)
  | none => s'

/-- An OFF-HOOK taken at a port (R85 to R87). -/
def State.offHookBlock (p : Port) (s : State) : State :=
  let s' := s.putPort p { s.port p with hook := .off }
  match (s.port p).dial with
  | .idle => s'.startDialling p
  | .alerted => s'.answerCall p
  | .dialling => s'
  | .waiting => s'
  | .inCall => s'
  | .blocked => s'

/-- OFF_HOOK. -/
def execOffHook (p : Port) (s : State) : Host.Outcome State Fault Refusal :=
  .next (s.takeBlock p .offHook (State.offHookBlock p))

/-- A dialling attempt or a blocked wait that ends in IDLE, its buffer and timer cleared (R88). -/
def PortRec.rest (r : PortRec) : PortRec := { r with dial := .idle, buffer := [], interdigit := none }

/-- R88: HUNG UP is raised for the port's call. -/
def State.hangUp (p : Port) (s : State) : State :=
  match (s.port p).call with
  | some id => s.raise (.hungUp id p)
  | none => s

/-- An ON-HOOK taken at a port (R85, R88). -/
def State.onHookBlock (p : Port) (s : State) : State :=
  let r := { s.port p with hook := .on }
  match r.dial with
  | .dialling => s.putPort p r.rest
  | .blocked => s.putPort p { r with dial := .idle }
  | .waiting => (s.putPort p r).hangUp p
  | .inCall => (s.putPort p r).hangUp p
  | .idle => s.putPort p r
  | .alerted => s.putPort p r

/-- ON_HOOK. -/
def execOnHook (p : Port) (s : State) : Host.Outcome State Fault Refusal :=
  .next (s.takeBlock p .onHook (State.onHookBlock p))

/-! ## Evaluation (R95 to R98) -/

/-- A digit matches a pattern position; ANY matches every digit (R96). -/
def matchesPosition (d : Digit) (position : Option Digit) : Bool :=
  match position with
  | some e => decide (d = e)
  | none => true

/-- The pattern lies on the digits from the offset on, and matches there (R96). -/
def patternHits (ds : List Digit) : List (Option Digit) → Bool
  | [] => true
  | position :: rest =>
    match ds with
    | d :: more => matchesPosition d position && patternHits more rest
    | [] => false

/-- The plain result of a screen (R96). -/
def ScreenRec.plainHit (r : ScreenRec) (ds : List Digit) : Bool :=
  decide (r.minLength ≤ ds.length) && decide (ds.length ≤ r.maxLength) && patternHits (ds.drop r.offset) r.pattern

/-- A screen is inert for a class (R96). -/
def ScreenRec.inert (cls : ClassNo) (r : ScreenRec) : Bool := !r.enabled || !r.classSet.get cls

/-- The result of a screen that is not inert (R97). -/
def ScreenRec.hit (r : ScreenRec) (ds : List Digit) : Bool :=
  if r.inverse then !r.plainHit ds else r.plainHit ds

/-- The screens in groups, in index order; a screen whose Join is yes belongs to the group before it (R98). -/
def screenGroups (t : Table ScreenRec 24) : List (List ScreenNo) :=
  (List.finRange 24).foldr
    (fun n groups =>
      match groups with
      | [] => [[n]]
      | g :: rest =>
        match g.head? with
        | some m => if (t.get m).join then (n :: g) :: rest else [n] :: g :: rest
        | none => [n] :: rest)
    []

/-- A group matches: no member is inert, and every member hits (R98). -/
def groupMatches (t : Table ScreenRec 24) (cls : ClassNo) (ds : List Digit) (g : List ScreenNo) : Bool :=
  g.all (fun n => !(t.get n).inert cls && (t.get n).hit ds)

/-- The deciding screen: the first screen of the first group that matches (R98). -/
def decidingScreen (t : Table ScreenRec 24) (cls : ClassNo) (ds : List Digit) : Option ScreenNo :=
  match (screenGroups t).find? (groupMatches t cls ds) with
  | some g => g.head?
  | none => none

/-- The verdict of an evaluation (R98). -/
def State.verdict (s : State) (cls : ClassNo) (ds : List Digit) : Verdict :=
  match decidingScreen s.screens cls ds with
  | some n => (s.screens.get n).verdict
  | none => (s.classes.get cls).defaultVerdict

/-! ## Outcomes (R99 to R101) -/

/-- A port whose attempt has ended in a dial state, its buffer emptied and its timer cleared. -/
def PortRec.ended (dial : DialState) (r : PortRec) : PortRec := { r with dial := dial, buffer := [], interdigit := none }

/-- R99: the verdict is BAR. -/
def State.barCall (p : Port) (ix : ExtIx) (deciding : Option ScreenNo) (ds : List Digit) (s : State) : State :=
  ((s.offer p (.notice .barred)).putPort p ((s.port p).ended .blocked)).raise (.callBarred p ix deciding ds)

/-- R101: the call table is full. -/
def State.congest (p : Port) (ix : ExtIx) (v : Verdict) (ds : List Digit) (s : State) : State :=
  ((s.offer p (.notice .congestion)).putPort p ((s.port p).ended .blocked)).raise (.congested p ix v ds)

/-- R100: a call entry is asked for, with R101 when none is free. -/
def State.requestCall (p : Port) (ix : ExtIx) (v : Verdict) (deciding : Option ScreenNo) (ds : List Digit)
    (s : State) : State :=
  match s.freeSlot with
  | none => s.congest p ix v ds
  | some slot =>
    let id := s.freshId
    let s := s.createCall slot (.fresh id .requested .station p ix ds v)
    (s.putPort p ((s.port p).ended .waiting)).raise (.callRequest id p ix v deciding ds)

/-- An evaluation of digits at a port (R95 to R101). -/
def State.evaluate (p : Port) (ds : List Digit) (s : State) : State :=
  match (s.port p).bound with
  | none => s
  | some ix =>
    match s.entry? ix with
    | none => s
    | some e =>
      let deciding := decidingScreen s.screens e.cls ds
      match s.verdict e.cls ds with
      | .bar => s.barCall p ix deciding ds
      | .allow => s.requestCall p ix .allow deciding ds
      | .scramble => s.requestCall p ix .scramble deciding ds
      | .clear => s.requestCall p ix .clear deciding ds

/-! ## DIGITS and the interdigit timer (R89, R90) -/

/-- The buffer after a block's codes are appended, up to 24 (R89, step 2). -/
def collect (buffer codes : List Digit) : List Digit := (buffer ++ codes).take 24

/-- A DIGITS block taken at a port (R89). -/
def State.digitsBlock (p : Port) (endFlag : Bool) (codes : List Digit) (s : State) : State :=
  let r := s.port p
  if r.dial = .dialling then
    let buffer := collect r.buffer codes
    let s := s.putPort p { r with buffer := buffer, interdigit := some s.interdigitLimit }
    if buffer.length = 24 ∨ endFlag then s.evaluate p buffer else s
  else s

/-- DIGITS. -/
def execDigits (p : Port) (endFlag : Bool) (codes : List Digit) (s : State) : Host.Outcome State Fault Refusal :=
  .next (s.takeBlock p (.digits endFlag codes) (State.digitsBlock p endFlag codes))

/-- R90: no digit was dialled in time. -/
def State.dialTimeout (p : Port) (s : State) : State :=
  (s.offer p (.notice .dialTimeout)).putPort p ((s.port p).ended .blocked)

/-- R90: the interdigit count of a DIALLING port has reached zero. -/
def State.interdigitEnd (p : Port) (s : State) : State :=
  let r := s.port p
  if r.dial = .dialling ∧ r.interdigit = some 0 then
    if r.buffer.isEmpty then s.dialTimeout p
    else (s.putPort p { r with interdigit := none }).evaluate p r.buffer
  else s

/-- INTERDIGIT_EXPIRY: the interdigit count has reached zero (R90); otherwise nothing is due (assumption 3). -/
def execInterdigitExpiry (p : Port) (s : State) : Host.Outcome State Fault Refusal := .next (s.interdigitEnd p)

/-! ## SET SCREEN and READ SCREEN (R93, R94) -/

/-- A pattern position of an octet: a digit code, or ANY for 12 (R203). -/
def positionOf (o : Byte) : Option (Option Digit) :=
  if o.toNat = 12 then some none else (digitOf o).map some

/-- The pattern of a body: 1 to 12 positions, those beyond the length not read (R93, step 2; R203). -/
def patternOf (b : ScreenBody) : Option (List (Option Digit)) :=
  if 1 ≤ b.patternLength.toNat ∧ b.patternLength.toNat ≤ 12 then
    readAll positionOf (b.pattern.cells.take b.patternLength.toNat)
  else none

/-- The screen number and the adjusted record of a body; none for BAD_REQUEST (R93). -/
def screenFields? (b : ScreenBody) : Option (ScreenNo × ScreenRec) :=
  match below 24 b.screen.toNat, patternOf b, below 24 b.offset.toNat, verdictOf b.verdict with
  | some n, some pattern, some offset, some verdict =>
    match flagOf b.enabled, flagOf b.inverse, flagOf b.join with
    | some enabled, some inverse, some join =>
      let minLength := clamp 1 24 b.minLength.toNat
      some (n, {
        enabled := enabled
        classSet := Table.tabulate (fun c => octetBit b.classSet c.val)
        offset := offset.val
        pattern := pattern
        minLength := minLength
        maxLength := max minLength (clamp 1 24 b.maxLength.toNat)
        inverse := inverse
        join := join
        verdict := verdict })
    | _, _, _ => none
  | _, _, _, _ => none

/-- Both lengths of the record stand as the body gave them (R93). -/
def screenExact (b : ScreenBody) (r : ScreenRec) : Bool :=
  decide (r.minLength = b.minLength.toNat) && decide (r.maxLength = b.maxLength.toNat)

/-- What SET SCREEN does once taken (R93). -/
def setScreenAct (b : ScreenBody) (s : State) : State × Answer :=
  match screenFields? b with
  | none => s.refuse .badRequest
  | some (n, r) =>
    ({ s with screens := s.screens.set n r }, { code := if screenExact b r then .done else .adjusted })

/-- SET_SCREEN. -/
def execSetScreen (tag : Byte) (b : ScreenBody) (s : State) : Host.Outcome State Fault Refusal :=
  .next (s.serve (.setScreen tag b) (setScreenAct b))

/-- A pattern position in a reply: a digit code, or 12 for ANY (R203). -/
def positionOctet (position : Option Digit) : Byte :=
  match position with
  | some d => BitVec.ofNat 8 d.val
  | none => 12

/-- The fields of R92 in order (R94). -/
def ScreenRec.octets (r : ScreenRec) : List Byte :=
  flagOctet r.enabled ++ [bitsOctet r.classSet.cells] ++ numOctet r.offset ++
    listOctets (r.pattern.map (fun position => [positionOctet position])) ++ numOctet r.minLength ++
    numOctet r.maxLength ++ flagOctet r.inverse ++ flagOctet r.join ++ [r.verdict.octet]

/-- What READ SCREEN does once taken (R94). -/
def readScreenAct (screen : Byte) (s : State) : State × Answer :=
  match below 24 screen.toNat with
  | none => s.refuse .badRequest
  | some n => s.report (s.screens.get n).octets

/-- READ_SCREEN. -/
def execReadScreen (tag screen : Byte) (s : State) : Host.Outcome State Fault Refusal :=
  .next (s.serve (.readScreen tag screen) (readScreenAct screen))

end Sys2Proof.Machine
end

