-- ==== Sys2Proof/Machine/Link.lean ====
section
/-!
DEFINITION. The control link (spec/11): assembling and judging frames, the transmit arbiter, held replies, requests of
unknown kind, and the device settings.
-/

namespace Sys2Proof.Machine

/-! ## Receiving (R190 to R192) -/

/-- The length that the octets of a frame carry, once both length octets stand there (R190). -/
def carriedLength : List Byte → Nat
  | _ :: hi :: lo :: _ => (wordOf hi lo).toNat
  | _ => 0

/-- A length of kind, tag and body that no frame has (R190). -/
def badLength (n : Nat) : Bool := decide (n < 2) || decide (514 < n)

/-- The frame that complete octets carry, when their check is correct (R190). -/
def checkedFrame (octets : List Byte) : Option Frame :=
  match octets with
  | _ :: hi :: lo :: kind :: tag :: rest =>
    let body := rest.take ((wordOf hi lo).toNat - 2)
    if rest.drop ((wordOf hi lo).toNat - 2) = wordOctets (frameCheck (wordOf hi lo) (kind :: tag :: body)) then
      some ⟨kind, tag, body⟩
    else none
  | _ => none

/-- The frame being assembled is discarded, and LINK ERROR is raised (R191). -/
def State.dropFrame (k : LinkErrorKind) (s : State) : State := { s with assembling := [] }.raise (.linkError k)

/-- A frame that completed without error: OVERRUN when both positions are full, KIND when it is no request, otherwise it
joins the receive holding (R192). -/
def State.hold (f : Frame) (s : State) : State :=
  if 2 ≤ s.holding.length then s.raise (.linkError .overrun)
  else if f.isRequestKind then { s with holding := s.holding ++ [f] }
  else s.raise (.linkError .kind)

/-- A frame whose second check octet has been received (R191, R192). -/
def State.completeFrame (octets : List Byte) (s : State) : State :=
  match checkedFrame octets with
  | some f => { s with assembling := [] }.hold f
  | none => s.dropFrame .check

/-- An octet received without a gap or a framing error (R191). -/
def State.receiveOctet (s : State) (o : Byte) : State :=
  let octets := s.assembling ++ [o]
  if s.assembling.isEmpty then if o = 90 then { s with assembling := [o] } else s
  else if octets.length = 3 ∧ badLength (carriedLength octets) then s.dropFrame .length
  else if 3 < octets.length ∧ octets.length = 5 + carriedLength octets then s.completeFrame octets
  else { s with assembling := octets }

/-- CONTROL_FRAME_RECEIVED (R191, R192): the octets arrive one after another (assumption 7). -/
def execControlFrameReceived (octets : List Byte) (s : State) : Host.Outcome State Fault Refusal :=
  .next (octets.foldl State.receiveOctet s)

/-- An error that ends a frame being assembled (R191); with none being assembled it does nothing, so an octet received with
a framing error then neither begins a frame nor is reported (assumption 32). -/
def State.lineError (k : LinkErrorKind) (s : State) : State := if s.assembling.isEmpty then s else s.dropFrame k

/-- LINK_GAP (R191). -/
def execLinkGap (s : State) : Host.Outcome State Fault Refusal := .next (s.lineError .gap)

/-- LINK_FRAMING_ERROR (R191). -/
def execLinkFramingError (s : State) : Host.Outcome State Fault Refusal := .next (s.lineError .framing)

/-- LINK_LENGTH_ERROR (R191): the second length octet of a frame gives a length out of range; an octet that is no second
length octet, or that gives a good length, is no such error (assumption 3). -/
def execLinkLengthError (o : Byte) (s : State) : Host.Outcome State Fault Refusal :=
  .next (if s.assembling.length = 2 ∧ badLength (carriedLength (s.assembling ++ [o])) then s.dropFrame .length else s)

/-! ## Replies and reports (R115, R193, R194, R196) -/

/-- REPLY_RELEASED: a reply held back is released once a frame has begun (R115). -/
def execReplyReleased (s : State) : Host.Outcome State Fault Refusal :=
  .next (match s.handling with
    | some h => if h.frameBegun then s.release h.reply else s
    | none => s)

/-- TRANSMITTER_FREE: the frame on the line has ended, and the arbiter chooses the next one (R194). -/
def execTransmitterFree (s : State) : Host.Outcome State Fault Refusal := .next (s.withOutgoing s.outgoing.choose)

/-- UNKNOWN_REQUEST_KIND: a taken frame that spells no request is answered BAD_REQUEST (R193, R201). -/
def execUnknownRequestKind (kind tag : Byte) (body : List Byte) (s : State) : Host.Outcome State Fault Refusal :=
  .next (if (Frame.mk kind tag body).isRequestKind ∧ decodeRequest ⟨kind, tag, body⟩ = none then
      s.serve (.unknownRequestKind kind tag body) (State.refuse .badRequest)
    else s)

/-! ## SET DEVICE (R25, R53, R91, R113, R197) -/

/-- The settings a SET DEVICE carries; one marked absent is none (R197). -/
structure Settings where
  absence : Option Byte
  interdigit : Option Word
  idle : Option Byte
  nonceKey : Option Key
  deriving DecidableEq, Repr

/-- One marked setting of `n` octets and the octets after it (R197, spec/12). -/
def readSetting (n : Nat) : List Byte → Option (Option (List Byte) × List Byte)
  | [] => none
  | mark :: rest =>
    match flagOf mark with
    | some false => some (none, rest)
    | some true => if n ≤ rest.length then some (some (rest.take n), rest.drop n) else none
    | none => none

/-- A word of exactly two octets. -/
def wordOfList (os : List Byte) : Word :=
  match os with
  | [hi, lo] => wordOf hi lo
  | _ => 0

/-- A key of exactly eight octets. -/
def keyOfList (os : List Byte) : Key :=
  match os with
  | [a, b, c, d, e, f, g, h] => keyOf a b c d e f g h
  | _ => Key.zero

/-- The settings of a SET DEVICE body, when it carries exactly those its marks declare (R197). -/
def settings? (body : List Byte) : Option Settings :=
  match readSetting 1 body with
  | none => none
  | some (absence, b) =>
    match readSetting 2 b with
    | none => none
    | some (interdigit, c) =>
      match readSetting 1 c with
      | none => none
      | some (idle, d) =>
        match readSetting 8 d with
        | some (nonceKey, []) =>
          some ⟨absence.bind List.head?, interdigit.map wordOfList, idle.bind List.head?, nonceKey.map keyOfList⟩
        | _ => none

/-- The stored absence limit for a requested one (R53). -/
def clampAbsence (o : Byte) : Nat := clamp 2 32 o.toNat

/-- The stored interdigit limit for a requested one (R91). -/
def clampInterdigit (w : Word) : Nat := clamp 2000 20000 w.toNat

/-- Both limits stand as given (R197). -/
def Settings.exact (x : Settings) : Bool :=
  x.absence.all (fun o => decide (clampAbsence o = o.toNat)) &&
    x.interdigit.all (fun w => decide (clampInterdigit w = w.toNat))

/-- The present settings written (R197). -/
def State.applySettings (x : Settings) (s : State) : State :=
  { s with
    absenceLimit := match x.absence with | some o => clampAbsence o | none => s.absenceLimit
    interdigitLimit := match x.interdigit with | some w => clampInterdigit w | none => s.interdigitLimit
    idleOctet := x.idle.getD s.idleOctet
    nonceKey := x.nonceKey.getD s.nonceKey }

/-- What SET DEVICE does once taken (R197). -/
def setDeviceAct (body : List Byte) (s : State) : State × Answer :=
  match settings? body with
  | none => s.refuse .badRequest
  | some x =>
    (s.applySettings x, { code := if x.exact then .done else .adjusted, held := x.idle.isSome })

/-- SET_DEVICE. -/
def execSetDevice (tag : Byte) (body : List Byte) (s : State) : Host.Outcome State Fault Refusal :=
  .next (s.serve (.setDevice tag body) (setDeviceAct body))

/-! ## READ DEVICE (R198) -/

/-- A loop's values in READ DEVICE (R198). -/
def LoopRec.octets (r : LoopRec) : List Byte :=
  flagOctet r.enable ++ [r.state.octet] ++ pollListOctets r.pollList ++ numOctet r.queue.length ++
    numOctet r.relayCount

/-- The values of READ DEVICE, in order (R198, R204); the eight loops follow one another without a count (assumption 13). -/
def State.deviceOctets (s : State) : List Byte :=
  numOctet s.absenceLimit ++ numWord s.interdigitLimit ++ [s.idleOctet] ++ longOctets s.challengeCounter ++
    flagOctet (decide (s.nonceKey ≠ Key.zero)) ++ [s.timeBase.source.octet] ++ numOctet s.timeBase.missCount ++
    numOctet s.timeBase.restoreCount ++ numLong s.timeBase.holdoverLength ++ s.loops.cells.flatMap LoopRec.octets ++
    bitMapOctets 24 s.intercept.cells ++ numOctet s.attention.length ++ flagOctet s.lost ++
    numOctet s.holding.length

/-- What READ DEVICE does once taken (R198). -/
def readDeviceAct (s : State) : State × Answer := s.report s.deviceOctets

/-- READ_DEVICE. -/
def execReadDevice (tag : Byte) (s : State) : Host.Outcome State Fault Refusal :=
  .next (s.serve (.readDevice tag) readDeviceAct)

end Sys2Proof.Machine
end

