-- ==== Sys2Proof/Machine/Restart.lean ====
section
/-!
DEFINITION. The restarts (R199, R200): power-up, the reset line, and RESTART naming COLD or WARM, with what a warm restart
keeps of each object (R19, R20, R39, R116, R140, R156, R173).
-/

namespace Sys2Proof.Machine

/-! ## Cold restarts -/

/-- A cold restart that no request asked for: every object takes its cold value, the link is cleared, and the RESTARTED
item is raised, which the free transmitter sends (R194, R200). It begins no frame: the first holdover frame of R103 is the
next HOLDOVER_FRAME (assumption 31). The commands that wait outside the part stay in their queue. -/
def State.coldStart (cause : RestartCause) (s : State) : State :=
  { State.cold with pending := s.pending, freeReads := s.freeReads }.raise (.restarted .cold cause)

/-- POWER_UP (R200). -/
def execPowerUp (s : State) : Host.Outcome State Fault Refusal := .next (s.coldStart .power)

/-- RESET_LINE (R200). -/
def execResetLine (s : State) : Host.Outcome State Fault Refusal := .next (s.coldStart .reset)

/-- What RESTART naming COLD does once taken (R199): the frame of the request itself is being handled, and a report on the
line is finished. It begins no frame, so its reply waits for the next HOLDOVER_FRAME (R103, R115; assumption 31). -/
def restartColdAct (s : State) : State × Answer :=
  ({ State.cold with
      holding := s.holding.take 1
      line := s.line
      pending := s.pending
      freeReads := s.freeReads }.raise (.restarted .cold .request), { code := .done, held := true })

/-- RESTART_COLD. -/
def execRestartCold (tag : Byte) (s : State) : Host.Outcome State Fault Refusal :=
  .next (s.serve (.restartCold tag) restartColdAct)

/-! ## Warm restart -/

/-- An entry after a warm restart; `interval` is the Refresh Interval of its class (R19). -/
def Entry.warm (interval : Nat) (e : Entry) : Entry :=
  if e.overdue.isSome then
    { e with
      state := .unbound
      bound := none
      challenge := none
      refresh := none
      refreshDue := false
      overdue := none
      liveCall := none }
  else
    match e.state with
    | .admitted => { e with refresh := some interval, refreshDue := false, liveCall := none }
    | .moving => { e with state := .admitted, challenge := none, refresh := some interval, refreshDue := false, liveCall := none }
    | .challenged => { e with state := .unbound, challenge := none, liveCall := none }
    | .unbound => { e with liveCall := none }
    | .locked => { e with liveCall := none }

/-- The extension bound at a port has its lapse complete at the warm restart (R19). -/
def State.releasedWarm (s : State) (r : PortRec) : Bool :=
  match r.bound with
  | some ix => (s.entry? ix).any (fun e => e.overdue.isSome)
  | none => false

/-- A port after a warm restart (R20). -/
def State.warmPort (s : State) (r : PortRec) : PortRec where
  presence := r.presence
  miss := 0
  bound := if s.releasedWarm r then none else r.bound
  hook := .on
  dial := .idle
  buffer := []
  interdigit := none
  call := none

/-- The notices of a loop's released ports that are PRESENT, in ascending port order (R19). -/
def State.warmQueue (s : State) (l : LoopNo) : List QueueRec :=
  ((List.finRange 32).filter (fun st =>
    s.releasedWarm (s.port (portOf l st)) && decide ((s.port (portOf l st)).presence = .present))).map
      (fun st => ⟨st, .notice .reregister⟩)

/-- A loop after a warm restart (R39). -/
def State.warmLoop (s : State) (l : LoopNo) (r : LoopRec) : LoopRec where
  enable := r.enable
  pollList := r.pollList
  state := if r.enable then .idleCycle else .disabled
  position := none
  queue := s.warmQueue l
  relayCount := 0
  turn := none

/-- The supplier after a warm restart (R156). -/
def Supplier.warm : Supplier → Supplier
  | .stopped => .stopped
  | .running => .running
  | .suspended => .running

/-- Every block after a warm restart (R19, R20, R39, R53, R91, R92, R103, R113, R114, R116, R118, R140, R156, R173). -/
def State.warmBlocks (s : State) : State :=
  { s with
    directory := s.directory.map (Option.map (fun e => e.warm (s.classOf e).refreshInterval))
    ports := s.ports.map s.warmPort
    loops := s.loops.imap s.warmLoop
    handed := []
    calls := Table.replicate 128 none
    connections := Table.replicate 192 none
    supplier := s.supplier.warm
    waitQueue := []
    contexts := Table.replicate 96 Context.free }

/-- What RESTART naming WARM does once taken (R199). -/
def restartWarmAct (s : State) : State × Answer :=
  ({ s.warmBlocks with
      assembling := []
      holding := s.holding.take 1
      attention := []
      lost := false }.raise (.restarted .warm .request), { code := .done, held := true })

/-- RESTART_WARM. -/
def execRestartWarm (tag : Byte) (s : State) : Host.Outcome State Fault Refusal :=
  .next (s.serve (.restartWarm tag) restartWarmAct)

end Sys2Proof.Machine
end

