-- ==== Sys2Proof/Machine/Scramble.lean ====
section
/-!
DEFINITION. The transmit side of a scramble context (spec/09): its output, its shuffle blocks and its counter in one served
frame.
-/

namespace Sys2Proof.Machine

/-- The last counter value of an epoch (R157). -/
def Interval.lastFrame (b : Interval) : Nat := 256 * b.frames - 1

/-- The interval position of a frame (spec/09, "The transmit side"). -/
def intervalPos (b : Interval) (n : Nat) : Nat := n % b.frames

/-- The block number q of a frame's beacon interval within the epoch (R163). -/
def intervalNumber (b : Interval) (n : Nat) : Nat := n / b.frames

/-- The frame ends a block (R165, R184). -/
def endsBlock (n : Nat) : Bool := decide (n % 8 = 7)

/-- The block after a frame is a beacon block, at a wrap the first of the next epoch (R165, R184). -/
def beaconNext (b : Interval) (n : Nat) : Bool := decide ((n + 1) % b.frames = 0)

/-- The mode is SHUFFLE. -/
def Mode.isShuffle (m : Mode) : Bool := decide (m = .shuffle)

/-- The octet emitted at an interval position of a beacon block (R163). -/
def beaconOctet (idle : Byte) (q info : Byte) (pos : Nat) : Byte :=
  match pos with
  | 0 => 150
  | 1 => 105
  | 2 => q
  | 3 => info
  | 4 => beaconCheck q info
  | _ => idle

/-- The octet of an emitting block at the frame's block position, permuted and masked (R35, R166). -/
def TxPart.shuffled (t : TxPart) (block : Table Byte 8) : Byte :=
  block.get (shufflePosition (shuffleWord (t.n / 8) t.key) (t.n % 8)) ^^^ frameMask t.n t.key

/-- The transmit output outside a beacon block (R164, R166, R168). -/
def TxPart.voice (t : TxPart) (mode : Mode) (held : Bool) (idle input : Byte) : Byte :=
  if held then idle
  else
    match mode with
    | .mask => input ^^^ frameMask t.n t.key
    | .shuffle => match t.emitting with | some block => t.shuffled block | none => idle

/-- The transmit output of a served frame (R163 to R166). -/
def TxPart.output (t : TxPart) (b : Interval) (mode : Mode) (held : Bool) (idle input : Byte) : Byte :=
  if intervalPos b t.n < 8 then
    beaconOctet idle (BitVec.ofNat 8 (intervalNumber b t.n)) (infoOctet (parity t.epoch) mode.isShuffle)
      (intervalPos b t.n)
  else t.voice mode held idle input

/-- The blocks after the frame's input has been gathered or discarded (R165); MASK mode gathers nothing. -/
def TxPart.gather (t : TxPart) (b : Interval) (mode : Mode) (held : Bool) (input : Byte) : TxPart :=
  match mode with
  | .mask => t
  | .shuffle =>
    if intervalPos b t.n < 8 then t
    else if held then { t with collected := [], emitting := none }
    else { t with collected := t.collected ++ [input] }

/-- The eight octets of a full collected block. -/
def fullBlock (octets : List Byte) : Option (Table Byte 8) :=
  if h : octets.length = 8 then some ⟨octets, h⟩ else none

/-- The hand-over at the end of a block (R165). -/
def TxPart.handOver (t : TxPart) (b : Interval) : TxPart :=
  if endsBlock t.n then
    { t with collected := [], emitting := if beaconNext b t.n then none else fullBlock t.collected }
  else t

/-- The counter's advance, with the epoch's end (R31, R167). -/
def TxPart.advance (t : TxPart) (b : Interval) : TxPart :=
  if t.n < b.lastFrame then { t with n := t.n + 1 }
  else { t with n := 0, epoch := t.epoch + 1, key := nextKey t.key }

/-- The transmit part after a served frame (R162). -/
def TxPart.step (t : TxPart) (b : Interval) (mode : Mode) (held : Bool) (input : Byte) : TxPart :=
  ((t.gather b mode held input).handOver b).advance b

/-- The transmit part prepared for the first HIGHWAY frame after a holdover (R171). -/
def TxPart.resume (t : TxPart) : TxPart := { t with collected := [], emitting := none }

end Sys2Proof.Machine
end

