-- ==== Sys2Proof/Machine/Receiver.lean ====
section
/-!
DEFINITION. The receive side of a scramble context (spec/10): the search for beacons, first lock and relock, the judgement
of beacons, slips, descrambling, and failure; and READ CONTEXT (R174, R188).
-/

namespace Sys2Proof.Machine

/-! ## The counter (R176) -/

/-- The counter's advance, with the epoch's end (R176). -/
def RxPart.advance (b : Interval) (r : RxPart) : RxPart :=
  if r.n < b.lastFrame then { r with n := r.n + 1 }
  else { r with n := 0, epoch := r.epoch + 1, previous := some r.key, key := nextKey r.key }

/-- An empty Rebuild Block (R175). -/
def emptyRebuild : Table (Option Byte) 8 := Table.replicate 8 none

/-- The shuffle blocks emptied (R184). -/
def RxPart.clearBlocks (r : RxPart) : RxPart := { r with rebuild := emptyRebuild, ready := none }

/-- HUNT entered: no parse progress, no blocks, no beacon in progress (R177, R184). -/
def RxPart.enterHunt (r : RxPart) : RxPart :=
  { r.clearBlocks with state := .hunt, virgin := false, parse := .none, window := [] }

/-- FAILED entered, the counter, epoch and keys kept (R185); the Miss Count, which R185 does not name, is kept too
(assumption 17). -/
def RxPart.enterFailed (r : RxPart) : RxPart := { r.clearBlocks with state := .failed, parse := .none, window := [] }

/-- LOCKED entered at a beacon: the check frame counts as q times B plus 4, so the next frame is q times B plus 5 (R178,
R179, R181). -/
def RxPart.lockAt (b : Interval) (q : Byte) (r : RxPart) : RxPart :=
  { r.clearBlocks with
    state := .locked
    virgin := false
    n := q.toNat * b.frames + 5
    miss := 0
    parse := .none
    window := [] }

/-! ## Beacons (R37, R178, R179) -/

/-- The check of a received beacon is correct; an info octet of 4 or above has a bad check (R37). -/
def goodCheck (q info check : Byte) : Bool := decide (info.toNat < 4) && decide (check = beaconCheck q info)

/-- The parity an info octet of 0 to 3 carries (R37). -/
def infoParity (info : Byte) : Nat := info.toNat % 2

/-- The mode an info octet of 0 to 3 carries (R37). -/
def infoMode (info : Byte) : Mode := if info.toNat < 2 then .mask else .shuffle

/-- The outcome of comparing a beacon with the own position (R179). -/
inductive Comparison where
  | same
  | forward
  | back (previous : Key)
  | failed (cause : SyncCause)
  deriving DecidableEq, Repr

/-- The comparison of a beacon with the own q and parity (R179). -/
def RxPart.compare (r : RxPart) (b : Interval) (q : Byte) (beaconParity : Nat) : Comparison :=
  if parity r.epoch = beaconParity then .same
  else if 128 ≤ intervalNumber b r.n then
    if q.toNat < 128 then .forward else .failed .parity
  else if q.toNat < 128 then .failed .parity
  else
    match r.previous with
    | some k => .back k
    | none => .failed .noPreviousKey

/-- What a frame's examination leaves to report (R186). -/
inductive RxEvent where
  | locked (manner : Manner) (slip : Bool) (epoch : Word) (q : Byte)
  | lost (epoch : Word) (q : Nat)
  | failed (cause : SyncCause) (epoch : Word) (ownQ ownParity : Nat) (q : Byte) (parity : Nat)
  deriving DecidableEq, Repr

/-- The report of a receive side's event (R186). -/
def RxEvent.item (c : CtxId) (call : Option CallId) : RxEvent → Item
  | .locked m slip epoch q => .syncLocked c call m slip epoch q
  | .lost epoch q => .syncLost c call epoch q
  | .failed cause epoch ownQ ownParity q p => .syncFailed c call cause epoch ownQ ownParity q p

/-- What an examination does: the receive part after the frame, whether its counter has been set so that it does not
advance, and the event to report. -/
structure Examined where
  rx : RxPart
  counterSet : Bool
  event : Option RxEvent
  deriving DecidableEq, Repr

/-- Nothing found in the frame. -/
def RxPart.unexamined (r : RxPart) : Examined := ⟨r, false, none⟩

/-- A beacon adopted in a manner: the lock, with its report (R178, R179, R181). -/
def RxPart.adopt (b : Interval) (q : Byte) (m : Manner) (slip : Bool) (r : RxPart) : Examined :=
  ⟨r.lockAt b q, true, some (.locked m slip r.epoch q)⟩

/-- A relock or slip under R179: the comparison's outcome applied. -/
def RxPart.relock (b : Interval) (q : Byte) (beaconParity : Nat) (slip : Bool) (r : RxPart) : Examined :=
  match r.compare b q beaconParity with
  | .same => r.adopt b q .same slip
  | .forward =>
    { r with previous := some r.key, key := nextKey r.key, epoch := r.epoch + 1 }.adopt b q .forward slip
  | .back k => { r with key := k, previous := none, epoch := r.epoch - 1 }.adopt b q .back slip
  | .failed cause =>
    ⟨r.enterFailed, false,
      some (.failed cause r.epoch (intervalNumber b r.n) (parity r.epoch) q beaconParity)⟩

/-- A first lock: the epoch is taken from the parity alone (R178). -/
def RxPart.firstLock (b : Interval) (key0 : Key) (q : Byte) (beaconParity : Nat) (r : RxPart) : Examined :=
  if beaconParity = 0 then { r with epoch := 0, key := key0, previous := none }.adopt b q .first false
  else { r with epoch := 1, key := nextKey key0, previous := some key0 }.adopt b q .first false

/-- A candidate judged in HUNT (R178, R179). -/
def RxPart.candidate (b : Interval) (mode : Mode) (key0 : Key) (q info check : Byte) (r : RxPart) : Examined :=
  let r := { r with parse := .none }
  if goodCheck q info check && decide (infoMode info = mode) then
    if r.virgin then r.firstLock b key0 q (infoParity info) else r.relock b q (infoParity info) false
  else r.unexamined

/-- The examination of an octet in HUNT (R177). -/
def RxPart.search (b : Interval) (mode : Mode) (key0 : Key) (octet : Byte) (r : RxPart) : Examined :=
  match r.parse with
  | .none => { r with parse := if octet = 150 then .seen150 else .none }.unexamined
  | .seen150 =>
    { r with parse := if octet = 105 then .seen150105 else if octet = 150 then .seen150 else .none }.unexamined
  | .seen150105 => { r with parse := .seenQ octet }.unexamined
  | .seenQ q => { r with parse := .seenInfo q octet }.unexamined
  | .seenInfo q info => r.candidate b mode key0 q info octet

/-- A bad beacon: a counted miss, and SYNC LOST at the loss limit (R180). -/
def RxPart.badBeacon (b : Interval) (loss : Nat) (r : RxPart) : Examined :=
  if loss ≤ r.miss + 1 then
    ⟨{ r.enterHunt with miss := 0 }, false, some (.lost r.epoch (intervalNumber b r.n))⟩
  else { r with state := .flywheel, miss := r.miss + 1, window := [] }.unexamined

/-- The judgement of an expected beacon at its check frame (R180, R181). -/
def RxPart.judgeBeacon (b : Interval) (mode : Mode) (loss : Nat) (m0 m1 q info check : Byte) (r : RxPart) : Examined :=
  if m0 = 150 ∧ m1 = 105 ∧ goodCheck q info check ∧ infoMode info = mode then
    if q.toNat = intervalNumber b r.n ∧ infoParity info = parity r.epoch then
      { r with state := .locked, miss := 0, window := [] }.unexamined
    else r.relock b q (infoParity info) true
  else r.badBeacon b loss

/-- The examination of an octet in LOCKED or FLYWHEEL: octets at the own positions 0 to 3 are kept, and the beacon is
judged at position 4 (R180). -/
def RxPart.follow (b : Interval) (mode : Mode) (loss : Nat) (octet : Byte) (r : RxPart) : Examined :=
  let pos := intervalPos b r.n
  if pos = 0 then { r with window := [octet] }.unexamined
  else if pos < 4 then { r with window := r.window ++ [octet] }.unexamined
  else if pos = 4 then
    match r.window with
    | [m0, m1, q, info] => r.judgeBeacon b mode loss m0 m1 q info octet
    | _ => r.badBeacon b loss
  else r.unexamined

/-- The examination of a frame's octet, by the state (R177, R180, R185). -/
def RxPart.examine (b : Interval) (mode : Mode) (loss : Nat) (key0 : Key) (octet : Byte) (r : RxPart) : Examined :=
  match r.state with
  | .hunt => r.search b mode key0 octet
  | .locked => r.follow b mode loss octet
  | .flywheel => r.follow b mode loss octet
  | .failed => r.unexamined

/-! ## Descrambling (R182 to R184) -/

/-- The receive output of a served frame (R182 to R184). -/
def RxPart.output (b : Interval) (mode : Mode) (idle octet : Byte) (r : RxPart) : Byte :=
  match r.state with
  | .hunt => idle
  | .failed => idle
  | .locked | .flywheel =>
    if intervalPos b r.n < 8 then idle
    else
      match mode with
      | .mask => octet ^^^ frameMask r.n r.key
      | .shuffle =>
        match r.ready with
        | some block => block.get ⟨r.n % 8, Nat.mod_lt _ (by decide)⟩
        | none => idle

/-- The received octet unmasked and placed in the Rebuild Block, in a block that is rebuilt (R36, R184). -/
def RxPart.place (b : Interval) (mode : Mode) (octet : Byte) (r : RxPart) : RxPart :=
  match mode, r.state with
  | .shuffle, .locked | .shuffle, .flywheel =>
    if intervalPos b r.n < 16 then r
    else
      { r with
        rebuild := r.rebuild.set (shufflePosition (shuffleWord (r.n / 8) r.key) (r.n % 8))
          (some (octet ^^^ frameMask r.n r.key)) }
  | _, _ => r

/-- The eight octets of a filled Rebuild Block. -/
def filledBlock (t : Table (Option Byte) 8) : Option (Table Byte 8) :=
  if t.cells.all Option.isSome then some (t.map (fun o => o.getD 0)) else none

/-- The hand-over at the end of a block (R184). -/
def RxPart.handOver (b : Interval) (r : RxPart) : RxPart :=
  if endsBlock r.n then
    { r with ready := if beaconNext b r.n then none else filledBlock r.rebuild, rebuild := emptyRebuild }
  else r

/-- The receive part after a served frame, and the event to report (R176). -/
def RxPart.step (b : Interval) (mode : Mode) (loss : Nat) (key0 : Key) (octet : Byte) (r : RxPart) :
    RxPart × Option RxEvent :=
  let e := ({ r with stepped := true }.place b mode octet).examine b mode loss key0 octet
  (if e.counterSet then e.rx else (e.rx.handOver b).advance b, e.event)

/-- The beacon parse progress at the return to HIGHWAY: a side already in HUNT goes on with its run, which the holdover
does not break, and a side that enters HUNT begins with none (R177). -/
def RxPart.resumedParse (r : RxPart) : Parse := if r.state = .hunt then r.parse else .none

/-- The receive part prepared for the first HIGHWAY frame after a holdover: HUNT, no longer virgin when a served frame has
been processed since keying (R171, R187); the miss count is kept (assumption 17). -/
def RxPart.resume (r : RxPart) : RxPart :=
  { r.enterHunt with virgin := r.virgin && !r.stepped, parse := r.resumedParse }

/-! ## READ CONTEXT (R174, R188) -/

/-- A key source, or "not yet keyed"; a held slot is sent as its slot number, a word (R174, R204; assumption 13). -/
def keySourceOctets : Option KeySource → List Byte
  | none => [0]
  | some (.drawn nk) => 1 :: longOctets nk
  | some (.heldSlot slot salt) => 2 :: numWord slot ++ longOctets salt

/-- A beacon parse progress: its code, q and info, each 0 when not yet seen (R204). -/
def Parse.octets : Parse → List Byte
  | .none => [0, 0, 0]
  | .seen150 => [1, 0, 0]
  | .seen150105 => [2, 0, 0]
  | .seenQ q => [3, q, 0]
  | .seenInfo q info => [4, q, info]

/-- The transmit side's fields of READ CONTEXT (R174); Counter n is a long and the interval position a word for every B
(assumption 13). -/
def TxPart.octets (b : Interval) (t : TxPart) : List Byte :=
  wordOctets t.epoch ++ numOctet (parity t.epoch) ++ numLong t.n ++ numOctet (intervalNumber b t.n) ++
    numWord (intervalPos b t.n) ++ numOctet t.collected.length ++ flagOctet t.emitting.isSome

/-- The receive side's fields of READ CONTEXT (R188); Counter n is a long and the interval position a word for every B
(assumption 13). -/
def RxPart.octets (cfg : CtxConfig) (r : RxPart) : List Byte :=
  [r.state.octet] ++ flagOctet r.virgin ++ wordOctets r.epoch ++ numOctet (parity r.epoch) ++ numLong r.n ++
    numOctet (intervalNumber cfg.interval r.n) ++ numWord (intervalPos cfg.interval r.n) ++ numOctet r.miss ++
    numOctet cfg.loss ++ flagOctet r.previous.isSome ++ (if r.state = .hunt then r.parse.octets else []) ++
    (if cfg.mode = .shuffle then numOctet (r.rebuild.count Option.isSome) ++ flagOctet r.ready.isSome else [])

/-- The fields of both sides, present for an ACTIVE or HELD context (R174, R188). -/
def Context.sideOctets (cfg : CtxConfig) (c : Context) : List Byte :=
  (match c.tx with | some t => t.octets cfg.interval | none => []) ++
    (match c.rx with | some r => r.octets cfg | none => [])

/-- The reply of READ CONTEXT after its completion code (R174). -/
def Context.octets (c : Context) : List Byte :=
  [c.state.octet] ++
    match c.config with
    | none => []
    | some cfg =>
      callWord c.call ++ [cfg.farEnd.octet, cfg.mode.octet] ++ numWord cfg.interval.frames ++ numOctet cfg.loss ++
        keySourceOctets c.keySource ++ c.sideOctets cfg

/-- What READ CONTEXT does once taken (R174). -/
def readContextAct (context : Byte) (s : State) : State × Answer :=
  match below 96 context.toNat with
  | none => s.refuse .badRequest
  | some c => s.report (s.context c).octets

/-- READ_CONTEXT. -/
def execReadContext (tag context : Byte) (s : State) : Host.Outcome State Fault Refusal :=
  .next (s.serve (.readContext tag context) (readContextAct context))

end Sys2Proof.Machine
end

