-- ==== Sys2Proof/Machine/Switch.lean ====
section
/-!
DEFINITION. Frames (spec/06): the dividers and the counts they drive, the output octet of every slot, the steps of the
contexts, the four time-base events, and the intercept set's requests.
-/

namespace Sys2Proof.Machine

/-! ## Ticks (R5, R107) -/

/-- A lock remaining at a second tick; "until unlocked" does not count (R5). -/
def LockRemaining.fall : LockRemaining → LockRemaining
  | .seconds n => .seconds (n - 1)
  | .untilUnlocked => .untilUnlocked

/-- An entry's refresh at a second tick: it counts while ADMITTED or MOVING, and an expiry falls due as it reaches zero
(R5, R80; assumption 4). -/
def Entry.refreshFall (e : Entry) : Entry :=
  if e.state = .admitted ∨ e.state = .moving then
    { e with refresh := e.refresh.map (· - 1), refreshDue := e.refreshDue || decide (e.refresh = some 1) }
  else e

/-- An entry's lock at a second tick: it counts while LOCKED (R5). -/
def Entry.lockFall (e : Entry) : Entry :=
  if e.state = .locked then { e with lock := e.lock.map LockRemaining.fall } else e

/-- An entry at a second tick (R5). -/
def Entry.second (e : Entry) : Entry := e.refreshFall.lockFall

/-- A pending challenge at a tick (R2, R74). -/
def Challenge.fall (c : Challenge) : Challenge := { c with remaining := c.remaining.map (· - 1) }

/-- An entry at a tick (R2). -/
def Entry.tick (e : Entry) : Entry := { e with challenge := e.challenge.map Challenge.fall }

/-- A port at a tick: the interdigit count of a DIALLING port falls (R90). -/
def PortRec.tick (r : PortRec) : PortRec := { r with interdigit := r.interdigit.map (· - 1) }

/-- An item of the wait queue at a tick (R151). -/
def WaitItem.tick (w : WaitItem) : WaitItem := { w with remaining := w.remaining - 1 }

/-- A long that counts and stops at its greatest value (R103, R117). -/
def countLong (n : Nat) : Nat := min 4294967295 (n + 1)

/-- A call at a tick: its connected time rises while it is CONNECTED or HELD (R117). -/
def Call.tick (c : Call) : Call :=
  if c.state = .connected ∨ c.state = .held then { c with connectedTime := c.connectedTime.map countLong } else c

/-- A second tick (R107). -/
def State.secondTick (s : State) : State := { s with directory := s.directory.map (Option.map Entry.second) }

/-- The millisecond counts at a tick (R107). -/
def State.millisecond (s : State) : State :=
  { s with
    directory := s.directory.map (Option.map Entry.tick)
    ports := s.ports.map PortRec.tick
    waitQueue := s.waitQueue.map WaitItem.tick
    calls := s.calls.map (Option.map Call.tick) }

/-- The Holdover Length at a tick (R105). -/
def TimeBase.lengthTick (t : TimeBase) : TimeBase :=
  match t.source with
  | .holdover => { t with holdoverLength := countLong t.holdoverLength }
  | .highway => t

/-- A tick: the millisecond counts, the Holdover Length, and every 1000 ticks a second tick (R105, R107). -/
def State.tick (s : State) : State :=
  let s := s.millisecond
  let t := s.timeBase.lengthTick
  if t.secondDivider + 1 = 1000 then { s with timeBase := { t with secondDivider := 0 } }.secondTick
  else { s with timeBase := { t with secondDivider := t.secondDivider + 1 } }

/-- A reply held back has seen a frame begin (R115). -/
def HeldReply.seen (h : HeldReply) : HeldReply := { h with frameBegun := true }

/-- A frame begins: held replies may be released, and the Tick Divider counts, every 8 frames to a tick (R107, R115). -/
def State.beginFrame (s : State) : State :=
  let s := { s with handling := s.handling.map HeldReply.seen }
  if s.timeBase.tickDivider + 1 = 8 then { s with timeBase := { s.timeBase with tickDivider := 0 } }.tick
  else { s with timeBase := { s.timeBase with tickDivider := s.timeBase.tickDivider + 1 } }

/-! ## A served frame (R111, R112) -/

/-- A path's transform sends its octets to a context's transmit side. -/
def Path.scrambles (c : CtxId) (o : Option Path) : Bool :=
  match o with
  | some p => decide (p.transform = .scramble c)
  | none => false

/-- A path's transform takes a context's receive output. -/
def Path.descrambles (c : CtxId) (o : Option Path) : Bool :=
  match o with
  | some p => decide (p.transform = .descramble c)
  | none => false

/-- The source of the first path that passes a test. -/
def State.sourceOf (s : State) (test : Option Path → Bool) : Option SlotNo :=
  match s.connections.find? test with
  | some d => (s.connections.get d).map Path.source
  | none => none

/-- What a context leaves in a served frame: its record, its two outputs and its report (R112). -/
structure CtxFrame where
  context : Context
  txOut : Byte
  rxOut : Byte
  item : Option Item
  deriving DecidableEq, Repr

/-- A context that is handed nothing. -/
def CtxFrame.still (idle : Byte) (c : Context) : CtxFrame := ⟨c, idle, idle, none⟩

/-- A keyed context handed an octet on each side (R162, R176). -/
def Context.stepSides (c : CtxId) (x : Context) (cfg : CtxConfig) (t : TxPart) (r : RxPart)
    (idle txIn rxIn : Byte) : CtxFrame :=
  let held := decide (x.state = .held)
  let e := r.step cfg.interval cfg.mode cfg.loss x.key0 rxIn
  { context :=
      { x with tx := some (t.step cfg.interval cfg.mode held txIn), rx := some e.1 }
    txOut := t.output cfg.interval cfg.mode held idle txIn
    rxOut := r.output cfg.interval cfg.mode idle rxIn
    item := e.2.map (RxEvent.item c x.call) }

/-- A context in a served frame: an ACTIVE or HELD one is handed the input octets of the sources of its two paths (R112). -/
def State.stepContext (s : State) (inputs : Table Byte 192) (c : CtxId) (x : Context) : CtxFrame :=
  if x.state = .active ∨ x.state = .held then
    match x.config, x.tx, x.rx, s.sourceOf (Path.scrambles c), s.sourceOf (Path.descrambles c) with
    | some cfg, some t, some r, some a, some b =>
      x.stepSides c cfg t r s.idleOctet (inputs.get a) (inputs.get b)
    | _, _, _, _, _ => CtxFrame.still s.idleOctet x
  else CtxFrame.still s.idleOctet x

/-- The path's owning call is HELD (R111, row 4). -/
def State.ownerHeld (s : State) (p : Path) : Bool :=
  match s.call? p.owner with
  | some c => decide (c.state = .held)
  | none => false

/-- The octet of an output slot in a served frame, row by row (R111). -/
def State.slotOctet (s : State) (inputs : Table Byte 192) (steps : Table CtxFrame 96) (d : SlotNo) : Byte :=
  if s.intercept.get d then s.idleOctet
  else
    match s.connections.get d with
    | none => s.idleOctet
    | some p =>
      match p.transform with
      | .mute => s.idleOctet
      | .pass => if s.ownerHeld p then s.idleOctet else inputs.get p.source
      | .scramble c =>
        match (s.context c).state with
        | .active | .held => (steps.get c).txOut
        | .keyWait | .free => s.idleOctet
      | .descramble c =>
        match (s.context c).state with
        | .active => (steps.get c).rxOut
        | .held | .keyWait | .free => s.idleOctet

/-- The steps of all contexts in a served frame (R112). -/
def State.frameSteps (s : State) (inputs : Table Byte 192) : Table CtxFrame 96 := s.contexts.imap (s.stepContext inputs)

/-- The reports of a frame raised, in ascending context id (assumption 10). -/
def State.raiseAll (items : List Item) (s : State) : State := items.foldl (fun s i => s.raise i) s

/-- A frame served: every slot driven, every running context stepped, and their reports raised (R111, R112). -/
def State.serveFrame (inputs : Table Byte 192) (s : State) : State :=
  let steps := s.frameSteps inputs
  { s with
    contexts := steps.map CtxFrame.context
    outputs := Table.tabulate (fun d => some (s.slotOctet inputs steps d)) }.raiseAll
      (steps.cells.filterMap CtxFrame.item)

/-! ## The time base (R104 to R106) -/

/-- The window in which a pulse is looked for, in nanoseconds after the start of the frame in progress or after the
previous pulse (R104, R106; assumption 21). -/
def inPulseWindow (ns : Nat) : Bool := decide (120000 ≤ ns) && decide (ns ≤ 130000)

/-- A frame of the HIGHWAY source begins and is served (R104, R107, R111). -/
def State.highwayFrame (inputs : Table Byte 192) (s : State) : State := s.beginFrame.serveFrame inputs

/-- A pulse in HIGHWAY: accepted in its window, otherwise ignored (R104). -/
def State.acceptPulse (sinceFrame : Nat) (inputs : Table Byte 192) (s : State) : State :=
  if inPulseWindow sinceFrame then
    { s with timeBase := { s.timeBase with missCount := 0 } }.highwayFrame inputs
  else s

/-- A context prepared for the first HIGHWAY frame (R171). -/
def Context.resume (c : Context) : Context :=
  if c.state = .active ∨ c.state = .held then { c with tx := c.tx.map TxPart.resume, rx := c.rx.map RxPart.resume }
  else c

/-- The return to HIGHWAY at the sixteenth pulse (R106, R171). -/
def State.returnToHighway (inputs : Table Byte 192) (s : State) : State :=
  (({ s with
      timeBase := { s.timeBase with source := .highway, missCount := 0, restoreCount := 0 }
      contexts := s.contexts.map Context.resume }.raise (.clockRestored s.timeBase.holdoverLength)).highwayFrame inputs)

/-- The Restore Count after a pulse in HOLDOVER (R106). -/
def restoreAfter (count : Nat) (sincePulse : Option Nat) : Nat :=
  if sincePulse.any inPulseWindow then count + 1 else 1

/-- A pulse in HOLDOVER: it builds the restore run (R106). -/
def State.restorePulse (sincePulse : Option Nat) (inputs : Table Byte 192) (s : State) : State :=
  let count := restoreAfter s.timeBase.restoreCount sincePulse
  if 16 ≤ count then s.returnToHighway inputs
  else { s with timeBase := { s.timeBase with restoreCount := count } }

/-- FRAME_PULSE (R104, R106). -/
def execFramePulse (sinceFrame : Nat) (sincePulse : Option Nat) (inputs : Table Byte 192) (s : State) :
    Host.Outcome State Fault Refusal :=
  .next (match s.timeBase.source with
    | .highway => s.acceptPulse sinceFrame inputs
    | .holdover => s.restorePulse sincePulse inputs)

/-- A frame of the HOLDOVER source begins: no slot is driven and no context is handed an octet (R105, R170). -/
def State.unservedFrame (s : State) : State := { s with outputs := Table.replicate 192 none }.beginFrame

/-- Entry to HOLDOVER at the third missing pulse, with its first holdover frame (R104, R105). -/
def State.enterHoldover (s : State) : State :=
  ({ s with
      timeBase :=
        { s.timeBase with source := .holdover, missCount := 0, restoreCount := 0, holdoverLength := 0 } }.raise
    .clockLost).unservedFrame

/-- A missing pulse in HIGHWAY (R104). -/
def State.missPulse (inputs : Table Byte 192) (s : State) : State :=
  if s.timeBase.missCount + 1 < 3 then
    { s with timeBase := { s.timeBase with missCount := s.timeBase.missCount + 1 } }.highwayFrame inputs
  else s.enterHoldover

/-- PULSE_MISSING (R104); in HOLDOVER no pulse is looked for and nothing is due (assumption 3). -/
def execPulseMissing (inputs : Table Byte 192) (s : State) : Host.Outcome State Fault Refusal :=
  .next (match s.timeBase.source with
    | .highway => s.missPulse inputs
    | .holdover => s)

/-- HOLDOVER_FRAME (R105); in HIGHWAY the reference begins no such frame (assumption 3). -/
def execHoldoverFrame (s : State) : Host.Outcome State Fault Refusal :=
  .next (match s.timeBase.source with
    | .holdover => s.unservedFrame
    | .highway => s)

/-- RESTORE_RUN_TIMEOUT (R106); in HIGHWAY no run is watched (assumption 3). -/
def execRestoreRunTimeout (s : State) : Host.Outcome State Fault Refusal :=
  .next (match s.timeBase.source with
    | .holdover => { s with timeBase := { s.timeBase with restoreCount := 0 } }
    | .highway => s)

/-! ## SET INTERCEPT (R114) -/

/-- The slots from first to last set to a membership in the intercept set (R114). -/
def State.setIntercept (member : Bool) (first last : Nat) (s : State) : State :=
  { s with
    intercept := s.intercept.imap (fun d m => if first ≤ d.val ∧ d.val ≤ last then member else m) }

/-- What SET INTERCEPT does once taken, its action known (R114). -/
def setInterceptAct (member : Bool) (first last : Byte) (s : State) : State × Answer :=
  if 191 < first.toNat ∨ 191 < last.toNat then s.refuse .badRequest
  else if last.toNat < first.toNat then s.refuse .badRequest
  else (s.setIntercept member first.toNat last.toNat, { code := .done, held := true })

/-- SET_INTERCEPT_SET. -/
def execSetInterceptSet (tag first last : Byte) (s : State) : Host.Outcome State Fault Refusal :=
  .next (s.serve (.setInterceptSet tag first last) (setInterceptAct true first last))

/-- SET_INTERCEPT_CLEAR. -/
def execSetInterceptClear (tag first last : Byte) (s : State) : Host.Outcome State Fault Refusal :=
  .next (s.serve (.setInterceptClear tag first last) (setInterceptAct false first last))

end Sys2Proof.Machine
end

