-- ==== Sys2Proof/Machine/Dispatch.lean ====
section
/-!
DEFINITION. The meaning of every command: one arm per constructor of Instr.
-/

namespace Sys2Proof.Machine

/-- The effect of a command on everything but the queue. -/
def exec (i : Instr) (s : State) : Host.Outcome State Fault Refusal :=
  match i with
  | .powerUp => Sys2Proof.Machine.execPowerUp s
  | .resetLine => Sys2Proof.Machine.execResetLine s
  | .controlFrameReceived octets => Sys2Proof.Machine.execControlFrameReceived octets s
  | .linkGap => Sys2Proof.Machine.execLinkGap s
  | .unknownRequestKind kind tag body => Sys2Proof.Machine.execUnknownRequestKind kind tag body s
  | .replyReleased => Sys2Proof.Machine.execReplyReleased s
  | .transmitterFree => Sys2Proof.Machine.execTransmitterFree s
  | .enterExtension tag body => Sys2Proof.Machine.execEnterExtension tag body s
  | .eraseExtension tag index => Sys2Proof.Machine.execEraseExtension tag index s
  | .unlockExtension tag index => Sys2Proof.Machine.execUnlockExtension tag index s
  | .readExtension tag index => Sys2Proof.Machine.execReadExtension tag index s
  | .setClass tag body => Sys2Proof.Machine.execSetClass tag body s
  | .readClass tag cls => Sys2Proof.Machine.execReadClass tag cls s
  | .readPort tag port => Sys2Proof.Machine.execReadPort tag port s
  | .setScreen tag body => Sys2Proof.Machine.execSetScreen tag body s
  | .readScreen tag screen => Sys2Proof.Machine.execReadScreen tag screen s
  | .setLoop tag body => Sys2Proof.Machine.execSetLoop tag body s
  | .sendToStation tag port body => Sys2Proof.Machine.execSendToStation tag port body s
  | .setInterceptSet tag first last => Sys2Proof.Machine.execSetInterceptSet tag first last s
  | .setInterceptClear tag first last => Sys2Proof.Machine.execSetInterceptClear tag first last s
  | .openCall tag index verdict => Sys2Proof.Machine.execOpenCall tag index verdict s
  | .connectCall tag body => Sys2Proof.Machine.execConnectCall tag body s
  | .holdCall tag call => Sys2Proof.Machine.execHoldCall tag call s
  | .retrieveCall tag call => Sys2Proof.Machine.execRetrieveCall tag call s
  | .refuseCall tag call => Sys2Proof.Machine.execRefuseCall tag call s
  | .clearCall tag call => Sys2Proof.Machine.execClearCall tag call s
  | .readCall tag call => Sys2Proof.Machine.execReadCall tag call s
  | .depositKeys tag body => Sys2Proof.Machine.execDepositKeys tag body s
  | .startDraw tag => Sys2Proof.Machine.execStartDraw tag s
  | .stopDraw tag => Sys2Proof.Machine.execStopDraw tag s
  | .resumeDraw tag => Sys2Proof.Machine.execResumeDraw tag s
  | .holdKey tag slot key => Sys2Proof.Machine.execHoldKey tag slot key s
  | .dropKey tag slot => Sys2Proof.Machine.execDropKey tag slot s
  | .readKeys tag => Sys2Proof.Machine.execReadKeys tag s
  | .readContext tag context => Sys2Proof.Machine.execReadContext tag context s
  | .setDevice tag body => Sys2Proof.Machine.execSetDevice tag body s
  | .readDevice tag => Sys2Proof.Machine.execReadDevice tag s
  | .restartCold tag => Sys2Proof.Machine.execRestartCold tag s
  | .restartWarm tag => Sys2Proof.Machine.execRestartWarm tag s
  | .loopTurnStart loop => Sys2Proof.Machine.execLoopTurnStart loop s
  | .blockSent loop => Sys2Proof.Machine.execBlockSent loop s
  | .replyWindowTimeout loop => Sys2Proof.Machine.execReplyWindowTimeout loop s
  | .stationReply loop chars => Sys2Proof.Machine.execStationReply loop chars s
  | .loopBreak loop => Sys2Proof.Machine.execLoopBreak loop s
  | .loopRestore loop => Sys2Proof.Machine.execLoopRestore loop s
  | .feature port body => Sys2Proof.Machine.execFeature port body s
  | .register port number => Sys2Proof.Machine.execRegister port number s
  | .answer port response => Sys2Proof.Machine.execAnswer port response s
  | .checkIn port => Sys2Proof.Machine.execCheckIn port s
  | .answerTimeExpiry index => Sys2Proof.Machine.execAnswerTimeExpiry index s
  | .refreshExpiry index => Sys2Proof.Machine.execRefreshExpiry index s
  | .lockExpiry index => Sys2Proof.Machine.execLockExpiry index s
  | .offHook port => Sys2Proof.Machine.execOffHook port s
  | .onHook port => Sys2Proof.Machine.execOnHook port s
  | .digits port endFlag codes => Sys2Proof.Machine.execDigits port endFlag codes s
  | .interdigitExpiry port => Sys2Proof.Machine.execInterdigitExpiry port s
  | .keyWaitExpiry context => Sys2Proof.Machine.execKeyWaitExpiry context s
  | .framePulse sinceFrame sincePulse inputs => Sys2Proof.Machine.execFramePulse sinceFrame sincePulse inputs s
  | .pulseMissing inputs => Sys2Proof.Machine.execPulseMissing inputs s
  | .holdoverFrame => Sys2Proof.Machine.execHoldoverFrame s
  | .restoreRunTimeout => Sys2Proof.Machine.execRestoreRunTimeout s
  | .linkFramingError => Sys2Proof.Machine.execLinkFramingError s
  | .linkLengthError octet => Sys2Proof.Machine.execLinkLengthError octet s

end Sys2Proof.Machine
end

