-- ==== Sys2Proof/Safety.lean ====
section
/-!
DEFINITION. What it means for the block to run safely, and the invariants its state keeps.
-/

namespace Sys2Proof.Machine

/-! ## Running -/

/-- A step answers a next state: the block neither faults nor refuses. -/
def State.goesOn (s : State) : Prop := ∃ t, step s = .next t

/-- A property of states that every step keeps. -/
def Kept (inv : State → Prop) : Prop := ∀ s t, inv s → step s = .next t → inv t

/-! ## Replies -/

/-- The state after a request that changed nothing but its own handling: the reply goes on a free line, and waits in the
arbiter for a busy one (R193, R194). -/
def State.replied (f : Frame) (code : Code) (data : List Byte) (s : State) : State :=
  if s.line = none
    then { s with
      holding := s.holding.tail, handling := none, line := some (.reply ⟨f.kind, f.tag, code, data⟩), reply := none }
    else { s with holding := s.holding.tail, handling := none, reply := some ⟨f.kind, f.tag, code, data⟩ }

/-- The state in which a request's reply is held back until a frame has begun: its frame heads the receive holding
(R115, R192). -/
def State.heldBack (f : Frame) (code : Code) (data : List Byte) (s : State) : State :=
  { s.admitFrame f with handling := some ⟨⟨f.kind, f.tag, code, data⟩, false⟩ }

/-! ## Invariants -/

/-- While the line rests, no reply and no item waits (R194). -/
def State.lineWell (s : State) : Prop := s.line = none → s.reply = none ∧ s.attention = []

/-- The attention set holds at most 128 items, no two of the same type and subject (R195). -/
def State.attentionWell (s : State) : Prop :=
  s.attention.length ≤ 128 ∧ s.attention.Pairwise (fun a b => a.same b = false)

/-- A queue holds at most one device block per address, and its Relay Count is the number of its relay blocks, at most 8
(R39, R57). -/
def LoopRec.queueWell (r : LoopRec) : Prop :=
  (∀ st, r.queue.countP (QueueRec.deviceFor st) ≤ 1) ∧ r.relayCount = relays r.queue ∧ r.relayCount ≤ 8

/-- Every outbound queue is well (R57). -/
def State.queuesWell (s : State) : Prop := ∀ l, (s.loop l).queueWell

/-- A HOST-owned ring slot holds the zero key (R141). -/
def State.ringWell (s : State) : Prop := ∀ i, (s.ring.get i).owner = .host → (s.ring.get i).key = Key.zero

/-- The receive holding holds at most two frames, and one of them while a request is being handled (R192). -/
def State.holdingWell (s : State) : Prop := s.holding.length ≤ 2 ∧ (s.handling.isSome → s.holding ≠ [])

/-- The fields of the time base between events: fewer than three misses, none in HOLDOVER; a restore run shorter than
sixteen, none in HIGHWAY; both dividers in range (R103, R104, R106, R107). -/
def State.timeWell (s : State) : Prop :=
  s.timeBase.missCount < 3 ∧ s.timeBase.restoreCount < 16 ∧ s.timeBase.tickDivider < 8 ∧
    s.timeBase.secondDivider < 1000 ∧ s.timeBase.holdoverLength ≤ 4294967295 ∧
    (s.timeBase.source = .holdover → s.timeBase.missCount = 0) ∧
    (s.timeBase.source = .highway → s.timeBase.restoreCount = 0)

/-- The challenge counter is even: it starts at 0 and every take advances it by 2 (R24, R26). -/
def State.counterWell (s : State) : Prop := s.challengeCounter.toNat % 2 = 0

/-- The wait queue holds at most 16 items (R150). -/
def State.waitWell (s : State) : Prop := s.waitQueue.length ≤ 16

/-- Which dynamic fields an entry has by its admission state (R2, R3, R4). -/
structure Entry.fieldsWell (e : Entry) : Prop where
  bound : e.bound.isSome ↔ e.state = .admitted ∨ e.state = .moving
  challenge : e.challenge.isSome ↔ e.state = .challenged ∨ e.state = .moving
  lock : e.lock.isSome ↔ e.state = .locked
  live : e.liveCall.isSome → e.state = .admitted
  overdue : e.overdue.isSome → e.liveCall.isSome

/-- The dial states of a port in a call (R120). -/
def DialState.inCallStates (d : DialState) : Prop := d = .waiting ∨ d = .alerted ∨ d = .inCall

/-- The directory, the port table and the call table agree (R2, R3, R4, R16, R71, R95, R117, R118, R120). -/
structure State.wired (s : State) : Prop where
  /-- Every entry's fields fit its admission state. -/
  fields : ∀ ix e, s.entry? ix = some e → e.fieldsWell
  /-- The port an entry is bound at names the entry. -/
  portOfEntry : ∀ ix e p, s.entry? ix = some e → e.bound = some p → (s.port p).bound = some ix
  /-- The entry a port is bound to names the port. -/
  entryOfPort : ∀ p ix, (s.port p).bound = some ix → ∃ e, s.entry? ix = some e ∧ e.bound = some p
  /-- A port with a pending challenge is unbound. -/
  challengedPort : ∀ ix e c, s.entry? ix = some e → e.challenge = some c → (s.port c.port).bound = none
  /-- At most one challenge is pending at a port. -/
  oneChallenge : ∀ ix jx e d c k, s.entry? ix = some e → s.entry? jx = some d → e.challenge = some c →
    d.challenge = some k → c.port = k.port → ix = jx
  /-- A DIALLING port is bound to an ADMITTED entry. -/
  dialling : ∀ p, (s.port p).dial = .dialling →
    ∃ ix e, (s.port p).bound = some ix ∧ s.entry? ix = some e ∧ e.state = .admitted
  /-- The port of an entry with a live call is in a call's dial state. -/
  liveDial : ∀ ix e p, s.entry? ix = some e → e.liveCall.isSome → e.bound = some p → (s.port p).dial.inCallStates
  /-- No call has the id 0. -/
  idNonzero : ∀ i c, s.calls.get i = some c → c.id ≠ 0
  /-- The ids of the calls are distinct. -/
  idDistinct : ∀ i j c d, s.calls.get i = some c → s.calls.get j = some d → c.id = d.id → i = j
  /-- A call's extension is bound at the call's port and has the call as its live call. -/
  callEntry : ∀ i c, s.calls.get i = some c →
    ∃ e, s.entry? c.ext = some e ∧ e.liveCall = some c.id ∧ e.bound = some c.port

/-- The dial state of a call's port in each of the call's states; an OFFERED call's port may have answered (R87, R119,
R122, R123, R128). -/
def CallState.dials (k : CallState) (d : DialState) : Prop :=
  match k with
  | .requested => d = .waiting
  | .offered => d = .alerted ∨ d = .inCall
  | .connecting | .connected | .held => d = .inCall

/-- The state of a call's context in each of the call's states: none before CONNECT CALL, HELD with a HELD call, ACTIVE with
a CONNECTED one, and ACTIVE or still waiting with a CONNECTING one (R117, R127 to R129, R133, R134). -/
def CallState.holds (k : CallState) (x : CtxState) : Prop :=
  match k with
  | .requested | .offered => False
  | .connecting => x = .active ∨ x = .keyWait
  | .connected => x = .active
  | .held => x = .held

/-- The call is one of the call table. -/
def State.inTable (s : State) (c : Call) : Prop := ∃ i, s.calls.get i = some c

/-- A context has its configuration while not FREE, and its key source and both parts while ACTIVE or HELD (R157, R158). -/
structure Context.fieldsWell (x : Context) : Prop where
  free : x.state = .free → x = Context.free
  config : x.state ≠ .free → x.config.isSome
  waiting : x.state = .keyWait → x.keySource = none ∧ x.tx = none ∧ x.rx = none
  keyed : x.state = .active ∨ x.state = .held → x.keySource.isSome ∧ x.tx.isSome ∧ x.rx.isSome

/-- The ports, the call table, the contexts, the wait queue, the supplier and connection memory agree (R109, R110, R117,
R118, R120, R143, R150, R157, R172). -/
structure State.callsWired (s : State) : Prop where
  /-- A port's call is in the table, at that port. -/
  portCall : ∀ p id, (s.port p).call = some id → ∃ c, s.inTable c ∧ c.id = id ∧ c.port = p
  /-- A call is its port's call, and its port is in the dial state of the call's. -/
  callPort : ∀ c, s.inTable c → (s.port c.port).call = some c.id ∧ c.state.dials (s.port c.port).dial
  /-- An entry's live call is in the table, with that entry as its extension. -/
  liveCall : ∀ ix e id, s.entry? ix = some e → e.liveCall = some id → ∃ c, s.inTable c ∧ c.id = id ∧ c.ext = ix
  /-- A port in a call's dial state has a call. -/
  dialCall : ∀ p, (s.port p).dial.inCallStates → (s.port p).call.isSome
  /-- A call has paths and contexts only once connected, at most two contexts, and a time while CONNECTED or HELD. -/
  callFields : ∀ c, s.inTable c →
    (c.state = .requested ∨ c.state = .offered → c.paths = [] ∧ c.contexts = []) ∧
    (c.contexts.Nodup ∧ c.contexts.length ≤ 2 ∧ c.paths.Nodup) ∧
    (c.connectedTime.isSome ↔ c.state = .connected ∨ c.state = .held)
  /-- Every context's fields fit its state. -/
  contextFields : ∀ x, (s.context x).fieldsWell
  /-- A context that is not FREE is one of a call's in the table. -/
  contextCall : ∀ x, (s.context x).state ≠ .free → ∃ c, s.inTable c ∧ (s.context x).call = some c.id ∧ x ∈ c.contexts
  /-- A call's context names the call, in a state that fits the call's. -/
  callContext : ∀ c x, s.inTable c → x ∈ c.contexts →
    (s.context x).call = some c.id ∧ c.state.holds (s.context x).state
  /-- A call is CONNECTING exactly while one context of it, and no other, waits for a key. -/
  oneWaits : ∀ c, s.inTable c →
    (c.state = .connecting → ∃ x, x ∈ c.contexts ∧ (s.context x).state = .keyWait) ∧
    ∀ x y, x ∈ c.contexts → y ∈ c.contexts → (s.context x).state = .keyWait → (s.context y).state = .keyWait → x = y
  /-- The wait queue holds exactly the contexts in KEY_WAIT, none twice. -/
  queued : (∀ x, (∃ w ∈ s.waitQueue, w.ctx = x) ↔ (s.context x).state = .keyWait) ∧ (s.waitQueue.map WaitItem.ctx).Nodup
  /-- A RUNNING supplier leaves no context waiting. -/
  running : s.supplier = .running → s.waitQueue = []
  /-- A path belongs to a call of the table, which lists its destination. -/
  pathOwner : ∀ d p, s.connections.get d = some p → ∃ c, s.inTable c ∧ c.id = p.owner ∧ d ∈ c.paths
  /-- A destination that a call lists is a path the call owns. -/
  callPath : ∀ c d, s.inTable c → d ∈ c.paths → ∃ p, s.connections.get d = some p ∧ p.owner = c.id
  /-- A path to or from a context belongs to the context's call. -/
  pathContext : ∀ d p x, s.connections.get d = some p → p.transform = .scramble x ∨ p.transform = .descramble x →
    (s.context x).call = some p.owner
  /-- A context that is not FREE has exactly one SCRAMBLE path and exactly one DESCRAMBLE path. -/
  twoPaths : ∀ x, (s.context x).state ≠ .free →
    (∃ d p, s.connections.get d = some p ∧ p.transform = .scramble x ∧
      ∀ e q, s.connections.get e = some q → q.transform = .scramble x → e = d) ∧
    (∃ d p, s.connections.get d = some p ∧ p.transform = .descramble x ∧
      ∀ e q, s.connections.get e = some q → q.transform = .descramble x → e = d)

/-- Both sides' counters stay within an epoch, the octets collected within the block in progress, L within its range and
the Miss Count below L (R126, R157, R165, R175, R180). -/
def State.sidesWell (s : State) : Prop :=
  ∀ x cfg, (s.context x).config = some cfg →
    (2 ≤ cfg.loss ∧ cfg.loss ≤ 16) ∧
    (∀ t, (s.context x).tx = some t → t.n < 256 * cfg.interval.frames ∧ t.collected.length ≤ t.n % 8) ∧
    (∀ r, (s.context x).rx = some r → r.n < 256 * cfg.interval.frames ∧ r.miss < cfg.loss)

/-- A loop is DISABLED exactly while it is not enabled, a turn is that of a listed address in IDLE-CYCLE, and a port that no
enabled loop lists is ABSENT with Miss Count 0 (R39 to R42, R45, R54, R56). -/
structure State.presenceWell (s : State) : Prop where
  disabled : ∀ l, (s.loop l).state = .disabled ↔ (s.loop l).enable = false
  turn : ∀ l t, (s.loop l).turn = some t → (s.loop l).state = .idleCycle ∧ (s.loop l).pollList.get t.station = true
  unlisted : ∀ l st, (s.loop l).enable = false ∨ (s.loop l).pollList.get st = false →
    (s.port (portOf l st)).presence = .absent ∧ (s.port (portOf l st)).miss = 0

/-! ## Cold values -/

/-- Every object of the blocks holds its cold value (R18, R24, R39, R53, R91, R92, R103, R113, R114, R116, R118, R140,
R156, R173). -/
structure State.coldValues (s : State) : Prop where
  directory : ∀ ix, s.entry? ix = none
  classes : ∀ c, s.classes.get c = ⟨.allow, .fallClear, 1000, 3, 300, 600, 500⟩
  nonce : s.challengeCounter = 0 ∧ s.nonceKey = ⟨0, 0, 0, 0⟩
  ports : ∀ p, s.port p = ⟨.absent, 0, none, .on, .idle, [], none, none⟩
  loops : ∀ l, s.loop l = ⟨false, Table.replicate 32 false, .disabled, none, [], 0, none⟩
  settings : s.absenceLimit = 8 ∧ s.interdigitLimit = 8000 ∧ s.idleOctet = 255
  screens : ∀ n, s.screens.get n = ⟨false, Table.replicate 8 false, 0, [none], 1, 24, false, false, .allow⟩
  calls : (∀ i, s.calls.get i = none) ∧ s.nextId = 0
  connections : ∀ d, s.connections.get d = none
  intercept : ∀ d, s.intercept.get d = false
  timeBase : s.timeBase = ⟨.holdover, 0, 0, 0, 0, 0⟩
  ring : (∀ i, s.ring.get i = ⟨.host, ⟨0, 0, 0, 0⟩⟩) ∧ s.pointer = 0 ∧ s.supplier = .stopped ∧ s.waitQueue = []
  heldKeys : ∀ i, s.heldKeys.get i = none
  contexts : ∀ c, s.context c = ⟨.free, none, none, none, ⟨0, 0, 0, 0⟩, none, none⟩

/-- The control link is cleared: no frame being assembled, held or handled, no reply, no item waiting or lost (R200). -/
structure State.linkCleared (s : State) : Prop where
  assembling : s.assembling = []
  holding : s.holding = []
  handling : s.handling = none
  reply : s.reply = none
  attention : s.attention = []
  lost : s.lost = false

/-! ## Extension numbers (R1, R6) -/

/-- Another occupied position holds the extension number (R6, step 4). -/
def State.numberElsewhere (s : State) (ix : ExtIx) (number : List Digit) : Prop :=
  ∃ j e, j ≠ ix ∧ s.entry? j = some e ∧ e.number = number

/-! ## Station blocks on their way to a unit (R49, R63, R85) -/

/-- A block comes to its unit from a PRESENT port: it is the oldest block handed on, or none waits (assumption 2). -/
def State.blockArrives (s : State) (p : Port) (b : StationBlock) : Prop :=
  (s.handed = [] ∨ s.handed.head? = some (p, b)) ∧ (s.port p).presence = .present

/-- The state once the oldest block handed on, if any, has been taken. -/
def State.blockTaken (s : State) : State := { s with handed := s.handed.tail }

/-- A DENY queued to a PRESENT port with its DENIED report (R63, R85). -/
def State.denied (s : State) (p : Port) (reason : DenyReason) (detail : List Byte) : State :=
  (s.offer p (.deny reason)).raise ⟨.denied, p.val, detail⟩

/-! ## Turns and replies (R45, R47, R48) -/

/-- The next turn of a loop goes to this listed address: the lowest one above the Poll Position, or, with no position or no
listed address above it, the lowest one (R45). -/
def LoopRec.turnGoesTo (r : LoopRec) (st : Station) : Prop :=
  r.pollList.get st = true ∧
    ((∃ p, r.position = some p ∧ p < st ∧ ∀ k, p < k → k < st → r.pollList.get k = false) ∨
      ((∀ p, r.position = some p → ∀ k, p < k → r.pollList.get k = false) ∧ ∀ k, k < st → r.pollList.get k = false))

/-- A turn's reply window is open (R47). -/
def State.awaits (s : State) (l : LoopNo) (st : Station) : Prop :=
  ∃ t, (s.loop l).turn = some t ∧ t.station = st ∧ t.phase = .window

/-- A loop whose turn has ended, as a state. -/
def State.turnEnded (s : State) (l : LoopNo) : State := s.putLoop l { s.loop l with turn := none }

/-- The characters of a VALID reply: the turn's bare address, or the address with a whole block and its good check (R44,
R47, R48). -/
def validReply (st : Station) (chars : List LoopChar) (block : Option (Byte × List Byte)) : Prop :=
  match block with
  | none => chars = [⟨BitVec.ofNat 8 (st.val + 1), true, false⟩]
  | some (kind, body) =>
    body.length ≤ 32 ∧
      chars = ⟨BitVec.ofNat 8 (st.val + 1), true, false⟩ ::
        (kind :: BitVec.ofNat 8 body.length :: body ++
          [BitVec.ofNat 8 (255 - (kind.toNat + body.length + octetSum body) % 256)]).map (fun o => ⟨o, false, false⟩)

/-! ## Extension numbers at a REGISTER (R1, R67, R73) -/

/-- The entry is the one that holds the number. -/
def State.onlyHolder (s : State) (x : ExtIx) (e : Entry) (number : List Digit) : Prop :=
  s.entry? x = some e ∧ e.number = number ∧ ∀ j d, s.entry? j = some d → d.number = number → j = x

/-- No challenge is pending at the port but the entry's own. -/
def State.wayClear (s : State) (p : Port) (x : ExtIx) : Prop := ∀ y, s.challengeAt p = some y → y = x

/-- The state after a nonce is taken and a challenge with it is set at a port for an entry, its CHALLENGE offered (R26,
R73). -/
def State.challenged (s : State) (p : Port) (x : ExtIx) (e : Entry) (state : AdmissionState) : State :=
  let nonce := longOf (mix s.challengeCounter s.nonceKey) (mix (s.challengeCounter + 1) s.nonceKey)
  ({ s with challengeCounter := s.challengeCounter + 2 }.putEntry x
    (some { e with challenge := some ⟨p, nonce, none⟩, state := state })).offer p (.challenge nonce)

/-! ## Screen groups (R98) -/

/-- The screen begins a group: screen 0, or a screen whose Join is no. -/
def groupStart (t : Table ScreenRec 24) (n : ScreenNo) : Prop := n = 0 ∨ (t.get n).join = false

/-- Every member of the group that begins at a screen is not inert for the class and hits the digits. -/
def groupHits (t : Table ScreenRec 24) (cls : ClassNo) (ds : List Digit) (d : ScreenNo) : Prop :=
  ∀ n : ScreenNo, d ≤ n → (∀ k : ScreenNo, d < k → k ≤ n → (t.get k).join = true) →
    (t.get n).inert cls = false ∧ (t.get n).hit ds = true

end Sys2Proof.Machine

namespace Sys2Proof

open Machine

/-! ## ENTER EXTENSION's body (R6, R201) -/

/-- Steps 1 to 3 of R6 pass, and both marks are 0 or 1 (R201). -/
structure EnterBody.goodForm (b : EnterBody) : Prop where
  index : b.index.toNat < 320
  count : 3 ≤ b.count.toNat ∧ b.count.toNat ≤ 6
  digits : ∀ i : Fin 6, i.val < b.count.toNat → (b.digits.get i).toNat < 10
  cls : b.cls.toNat < 8
  secure : b.secure.toNat < 2
  homeMark : b.homeMark.toNat < 2

/-- The stored fields a body of good form carries for an index (R1, R6, R203). -/
structure EnterBody.carries (b : EnterBody) (ix : ExtIx) (f : Stored) : Prop where
  index : ix.val = b.index.toNat
  number : f.number.map Fin.val = (b.digits.cells.take b.count.toNat).map BitVec.toNat
  secret : f.secret = b.secret
  cls : f.cls.val = b.cls.toNat
  secure : f.secure = decide (b.secure = 1)
  home : f.home = if b.homeMark = 1 then some (octetPort b.home) else none

end Sys2Proof
end

