-- ==== Sys2Proof/WellFormed.lean ====
section
/-!
DEFINITION. Which command terms can cross the block's pins: the checks that the types of Syntax.lean do not make.
-/

namespace Sys2Proof

/-- A command that an outside sender can send.
A request's body fits a frame (R190); UNKNOWN_REQUEST_KIND carries a request kind (R192) and a body that spells no
request; a station block carries a body that fits its kind (R49); a reply has at least its first character (R47). -/
def Instr.wellFormed (i : Instr) : Bool :=
  (match i.frame? with
    | some f => f.fits
    | none => true) &&
  match i with
  | .unknownRequestKind kind tag body =>
    (Frame.mk kind tag body).isRequestKind && (decodeRequest ⟨kind, tag, body⟩).isNone
  | .register _ number =>
    decide (3 ≤ number.length) && decide (number.length ≤ 6) && number.all (fun d => decide (d.val < 10))
  | .digits _ _ codes => decide (1 ≤ codes.length) && decide (codes.length ≤ 16)
  | .feature _ body => decide (body.length ≤ 32)
  | .stationReply _ chars => !chars.isEmpty
  | .controlFrameReceived octets => !octets.isEmpty
  | .powerUp | .resetLine | .linkGap | .replyReleased | .transmitterFree
  | .enterExtension _ _ | .eraseExtension _ _ | .unlockExtension _ _ | .readExtension _ _ | .setClass _ _
  | .readClass _ _ | .readPort _ _ | .setScreen _ _ | .readScreen _ _ | .setLoop _ _ | .sendToStation _ _ _
  | .setInterceptSet _ _ _ | .setInterceptClear _ _ _ | .openCall _ _ _ | .connectCall _ _ | .holdCall _ _
  | .retrieveCall _ _ | .refuseCall _ _ | .clearCall _ _ | .readCall _ _ | .depositKeys _ _ | .startDraw _ | .stopDraw _
  | .resumeDraw _ | .holdKey _ _ _ | .dropKey _ _ | .readKeys _ | .readContext _ _ | .setDevice _ _ | .readDevice _
  | .restartCold _ | .restartWarm _ | .loopTurnStart _ | .blockSent _ | .replyWindowTimeout _ | .loopBreak _
  | .loopRestore _ | .answer _ _ | .checkIn _ | .answerTimeExpiry _ | .refreshExpiry _ | .lockExpiry _ | .offHook _
  | .onHook _ | .interdigitExpiry _ | .keyWaitExpiry _ | .framePulse _ _ _ | .pulseMissing _ | .holdoverFrame
  | .restoreRunTimeout | .linkFramingError | .linkLengthError _ => true

end Sys2Proof
end

