-- ==== Sys2Proof/Certificates/Slice0/Obligations.lean ====
section
/-!
DEFINITION. What is to be proved of the block: one proposition per statement. A request's frame is written out by kind, tag
and body, so that the codes of spec/12 stand in the statements. `takes` says that the link takes the frame now; a reply
sent at once is `replied`, one that R115 holds back is `heldBack`.
-/

open Sys2Proof Sys2Proof.Machine

/-! ## Steps -/

/-- A step runs the command at the front of the queue on the state with the queue's rest. -/
def Obligations.StepRunsTheFrontCommand : Prop :=
  ∀ (c : Instr) (rest : List Instr) (s : State), s.pending = c :: rest → step s = exec c { s with pending := rest }

/-- On an empty queue the block idles: the model's choice (assumption 5). Every command answers a next state, and none
of them touches the queue. -/
def Obligations.EveryStepAnswersANextState : Prop :=
  (∀ s : State, s.pending = [] → step s = .next s) ∧
  (∀ (i : Instr) (s : State), ∃ t, exec i s = .next t ∧ t.pending = s.pending)

/-! ## Reset and restarts -/

/-- Right after power-up every object holds its cold value, the link is cleared, and the RESTARTED item with kind COLD
(0) and cause POWER (1) is on the line, which was free for it (assumption 6); no block handed on waits (assumption
19). -/
def Obligations.ResetHoldsColdValues : Prop :=
  State.reset.coldValues ∧ State.reset.linkCleared ∧
    State.reset.line = some (.report ⟨.restarted, 0, [0, 1]⟩ false) ∧
    State.reset.pending = [] ∧ State.reset.handed = []

/-- Power-up, the reset line and RESTART naming COLD each leave every object at its cold value and the RESTARTED item
of their cause alone raised: on the line when it is free (assumption 6), else in the attention set, and a RESTART lets
the frame on the line finish. That no block handed on stays, and that the RESTART's own frame heads the holding until
its reply is released, are the model's reading (assumption 19); that the RESTART begins no frame itself, so that its
reply still waits for the next HOLDOVER_FRAME, is its choice (assumption 31). -/
def Obligations.ColdRestartsLeaveColdValues : Prop :=
  (∀ s, ∃ t, exec .powerUp s = .next t ∧ t.coldValues ∧ t.linkCleared ∧
    t.line = some (.report ⟨.restarted, 0, [0, 1]⟩ false) ∧
    t.handed = []) ∧
  (∀ s, ∃ t, exec .resetLine s = .next t ∧ t.coldValues ∧ t.linkCleared ∧
    t.line = some (.report ⟨.restarted, 0, [0, 2]⟩ false) ∧
    t.handed = []) ∧
  (∀ tag s, s.takes ⟨7, tag, [0]⟩ = true → ∃ t, exec (.restartCold tag) s = .next t ∧ t.coldValues ∧
    (s.line = none → t.line = some (.report ⟨.restarted, 0, [0, 0]⟩ false) ∧ t.attention = []) ∧
    (s.line ≠ none → t.line = s.line ∧ t.attention = [⟨.restarted, 0, [0, 0]⟩]) ∧
    t.lost = false ∧ t.assembling = [] ∧ t.holding = [⟨7, tag, [0]⟩] ∧
    t.handling = some ⟨⟨7, tag, .done, []⟩, false⟩ ∧ t.reply = none ∧ t.handed = [])

/-- RESTART naming WARM keeps the settings, and clears everything in flight but a frame on the line; its RESTARTED
item goes on a free line (assumption 6). That the blocks handed on are dropped, and that the request's own frame heads
the holding until its reply is released, are the model's reading (assumption 19). -/
def Obligations.WarmRestartKeepsTheSettings : Prop :=
  ∀ tag s, s.takes ⟨7, tag, [1]⟩ = true → ∃ t, exec (.restartWarm tag) s = .next t ∧
    (t.classes = s.classes ∧ t.challengeCounter = s.challengeCounter ∧ t.nonceKey = s.nonceKey ∧
      t.absenceLimit = s.absenceLimit ∧ t.interdigitLimit = s.interdigitLimit ∧ t.screens = s.screens ∧
      t.nextId = s.nextId ∧ t.intercept = s.intercept ∧ t.idleOctet = s.idleOctet ∧ t.timeBase = s.timeBase ∧
      t.ring = s.ring ∧ t.pointer = s.pointer ∧ t.heldKeys = s.heldKeys) ∧
    ((∀ i, t.calls.get i = none) ∧ (∀ d, t.connections.get d = none) ∧ t.waitQueue = [] ∧
      (∀ c, t.context c = ⟨.free, none, none, none, ⟨0, 0, 0, 0⟩, none, none⟩) ∧ t.assembling = [] ∧
      t.supplier = (if s.supplier = .stopped then .stopped else .running)) ∧
    ((s.line = none → t.line = some (.report ⟨.restarted, 0, [1, 0]⟩ false) ∧ t.attention = []) ∧
      (s.line ≠ none → t.line = s.line ∧ t.attention = [⟨.restarted, 0, [1, 0]⟩]) ∧
      t.lost = false ∧ t.holding = [⟨7, tag, [1]⟩] ∧
      t.handling = some ⟨⟨7, tag, .done, []⟩, false⟩ ∧ t.reply = none ∧ t.handed = []) ∧
    (∀ l, (t.loop l).enable = (s.loop l).enable ∧ (t.loop l).pollList = (s.loop l).pollList ∧
      (t.loop l).state = (if (s.loop l).enable then .idleCycle else .disabled) ∧ (t.loop l).position = none ∧
      (t.loop l).relayCount = 0 ∧ (t.loop l).turn = none)

/-- What a warm restart makes of each extension entry, by its overdue mark and its admission state (R19). What a warm
restart makes of each port, and the notices it leaves in the queues: one REREGISTER for each PRESENT port whose
extension lapsed, in ascending port order (R19, R20). -/
def Obligations.WarmRestartOfEntriesAndPorts : Prop :=
  (∀ tag s t, s.takes ⟨7, tag, [1]⟩ = true → exec (.restartWarm tag) s = .next t →
     (∀ ix, s.entry? ix = none → t.entry? ix = none) ∧
     (∀ ix e, s.entry? ix = some e → e.overdue ≠ none →
       t.entry? ix = some { e with
         state := .unbound, bound := none, challenge := none, refresh := none, refreshDue := false, overdue := none,
         liveCall := none }) ∧
     (∀ ix e, s.entry? ix = some e → e.overdue = none → e.state = .admitted →
       t.entry? ix = some { e with
         refresh := some (s.classes.get e.cls).refreshInterval, refreshDue := false, liveCall := none }) ∧
     (∀ ix e, s.entry? ix = some e → e.overdue = none → e.state = .moving →
       t.entry? ix = some { e with
         state := .admitted, challenge := none, refresh := some (s.classes.get e.cls).refreshInterval,
         refreshDue := false, liveCall := none }) ∧
     (∀ ix e, s.entry? ix = some e → e.overdue = none → e.state = .challenged →
       t.entry? ix = some { e with state := .unbound, challenge := none, liveCall := none }) ∧
     (∀ ix e, s.entry? ix = some e → e.overdue = none → e.state = .unbound ∨ e.state = .locked →
       t.entry? ix = some { e with liveCall := none })) ∧
  (∀ tag s t, s.takes ⟨7, tag, [1]⟩ = true → exec (.restartWarm tag) s = .next t →
     (∀ p, t.port p = ⟨(s.port p).presence, 0,
       (s.port p).bound.filter (fun ix => !(s.entry? ix).any (fun e => e.overdue.isSome)), .on, .idle, [], none, none⟩) ∧
     (∀ l, (t.loop l).queue =
       ((List.finRange 32).filter (fun st => decide ((s.port (portOf l st)).presence = .present) &&
         (s.port (portOf l st)).bound.any (fun ix => (s.entry? ix).any (fun e => e.overdue.isSome)))).map
           (fun st => ⟨st, .notice .reregister⟩)))

/-! ## Invariants -/

/-- Every invariant below holds right after power-up. -/
def Obligations.InvariantsHoldAtReset : Prop :=
  State.reset.attentionWell ∧ State.reset.lineWell ∧ State.reset.queuesWell ∧ State.reset.ringWell ∧ State.reset.waitWell ∧
    State.reset.holdingWell ∧ State.reset.timeWell ∧ State.reset.counterWell ∧ State.reset.wired ∧
    State.reset.callsWired ∧ State.reset.sidesWell ∧ State.reset.presenceWell

/-- Every step keeps the attention set within 128 items, no two of the same type and subject; and a line at rest has
neither a reply nor an item waiting for it. -/
def Obligations.AttentionSetStaysWell : Prop :=
  Kept State.attentionWell ∧ Kept State.lineWell

/-- Every step keeps each outbound queue to one device block per address, and its Relay Count to its relay blocks. -/
def Obligations.OutboundQueuesStayWell : Prop :=
  Kept State.queuesWell

/-- Every step keeps the directory, the port table and the call table in agreement. -/
def Obligations.BindingsAndCallsStayWired : Prop :=
  Kept State.wired

/-- Every step keeps the zero key in HOST-owned ring slots and the wait queue within 16 items. Every step keeps the
time base's counts in range and the receive holding within two frames, one of them while a request is handled; and the
challenge counter stays even. Every step keeps both sides' counters within an epoch, L from 2 to 16 and the Miss Count
below it; and the ports that no enabled loop polls ABSENT with Miss Count 0. -/
def Obligations.KeyStoreAndCountsStayWell : Prop :=
  (Kept State.ringWell ∧ Kept State.waitWell) ∧
  (Kept State.timeWell ∧ Kept State.holdingWell ∧ Kept State.counterWell) ∧
  (Kept State.sidesWell ∧ Kept State.presenceWell)

/-! ## Encodings -/

/-- A well-formed request's frame spells that request again: no bit of an operand is dropped. -/
def Obligations.RequestFramesDecodeBack : Prop :=
  ∀ (i : Instr) (f : Frame), i.wellFormed = true → i.frame? = some f →
    (∀ kind tag body, i ≠ .unknownRequestKind kind tag body) → decodeRequest f = some i

/-! ## The control link -/

/-- A whole frame with a good check that arrives while a position is free joins the receive holding. A whole frame is
discarded with LINK ERROR: OVERRUN (4) when both positions are full, KIND (5) when it is no request, CHECK (3) when
its check is wrong; octets other than 90 before a frame are discarded without a report. A gap, a framing error or a
length out of range discards the frame being assembled with LINK ERROR. -/
def Obligations.ReceivedFramesJoinOrAreDiscarded : Prop :=
  (∀ (f : Frame) (s : State), s.assembling = [] → f.body.length ≤ 512 → 1 ≤ f.kind.toNat → f.kind.toNat ≤ 125 →
     s.holding.length < 2 → exec (.controlFrameReceived f.octets) s = .next { s with holding := s.holding ++ [f] }) ∧
  ((∀ (f : Frame) (s : State), s.assembling = [] → f.body.length ≤ 512 → 2 ≤ s.holding.length →
     exec (.controlFrameReceived f.octets) s = .next (s.raise ⟨.linkError, 0, [4]⟩)) ∧
   (∀ (f : Frame) (s : State), s.assembling = [] → f.body.length ≤ 512 → s.holding.length < 2 →
     f.kind.toNat = 0 ∨ 125 < f.kind.toNat →
     exec (.controlFrameReceived f.octets) s = .next (s.raise ⟨.linkError, 0, [5]⟩)) ∧
   (∀ (kind tag hi lo : Byte) (body : List Byte) (s : State), s.assembling = [] → body.length ≤ 512 →
     hi.toNat * 256 + lo.toNat ≠
       (octetSum (numWord (body.length + 2)) + kind.toNat + tag.toNat + octetSum body) % 65536 →
     exec (.controlFrameReceived (90 :: numWord (body.length + 2) ++ kind :: tag :: body ++ [hi, lo])) s =
       .next (s.raise ⟨.linkError, 0, [3]⟩)) ∧
   (∀ (octets : List Byte) (s : State), s.assembling = [] → (∀ o ∈ octets, o ≠ 90) →
     exec (.controlFrameReceived octets) s = .next s)) ∧
  ((∀ s : State, s.assembling ≠ [] →
     exec .linkGap s = .next ({ s with assembling := [] }.raise ⟨.linkError, 0, [0]⟩) ∧
     exec .linkFramingError s = .next ({ s with assembling := [] }.raise ⟨.linkError, 0, [1]⟩)) ∧
   (∀ (s : State) (start hi lo : Byte), s.assembling = [start, hi] →
     hi.toNat * 256 + lo.toNat < 2 ∨ 514 < hi.toNat * 256 + lo.toNat →
     exec (.linkLengthError lo) s = .next ({ s with assembling := [] }.raise ⟨.linkError, 0, [2]⟩)))

/-- The arbiter's choice: a waiting reply first, else the oldest item as a report with the lost flag, else the line
rests; and the frames that then go out. A reply that R115 holds back goes to the arbiter once a frame has begun since
its request was taken, and not before; the arbiter sends it at once on a free line. -/
def Obligations.ArbiterSendsReplyThenOldestItem : Prop :=
  ((∀ s r, s.reply = some r → exec .transmitterFree s = .next { s with line := some (.reply r), reply := none }) ∧
   (∀ s item rest, s.reply = none → s.attention = item :: rest →
     exec .transmitterFree s =
       .next { s with line := some (.report item s.lost), attention := rest, lost := false }) ∧
   (∀ s, s.reply = none → s.attention = [] → exec .transmitterFree s = .next { s with line := none }) ∧
   (∀ r : Reply, (Sending.reply r).octets = Frame.octets ⟨r.kind + 128, r.tag, r.code.octet :: r.data⟩) ∧
   (∀ (item : Item) (lost : Bool), (Sending.report item lost).octets =
     Frame.octets ⟨254, 0, item.type.octet :: numWord item.subject ++ (if lost then 1 else 0) :: item.detail⟩)) ∧
  ((∀ s r, s.handling = some ⟨r, true⟩ →
     (s.line ≠ none →
       exec .replyReleased s = .next { s with holding := s.holding.tail, handling := none, reply := some r }) ∧
     (s.line = none → exec .replyReleased s = .next { s with
       holding := s.holding.tail, handling := none, line := some (.reply r), reply := none })) ∧
   (∀ s r, s.handling = some ⟨r, false⟩ → exec .replyReleased s = .next s) ∧
   (∀ (s : State) h, s.handling = some h → s.beginFrame.handling = some ⟨h.reply, true⟩))

/-- A frame of a request kind that spells no request is answered BAD_REQUEST and changes nothing. A request taken is
answered once, under its own kind and tag, and its frame heads the holding as long as its reply is held back; a
request the link does not take now changes nothing (that it waits so is the model's choice, assumption 1). -/
def Obligations.EveryRequestIsAnsweredOnce : Prop :=
  (∀ (kind tag : Byte) (body : List Byte) (s : State), s.takes ⟨kind, tag, body⟩ = true → 1 ≤ kind.toNat →
     kind.toNat ≤ 125 → decodeRequest ⟨kind, tag, body⟩ = none →
     exec (.unknownRequestKind kind tag body) s = .next (s.replied ⟨kind, tag, body⟩ .badRequest [])) ∧
  ((∀ i f s, i.wellFormed = true → i.frame? = some f → s.takes f = true → ∃ t r, exec i s = .next t ∧ r.kind = f.kind ∧
     r.tag = f.tag ∧
     ((t.handling = none ∧ t.holding = s.holding.tail ∧
         (t.reply = some r ∨ (s.line = none ∧ t.line = some (.reply r) ∧ t.reply = none))) ∨
       (t.reply = none ∧ t.handling = some ⟨r, false⟩ ∧ t.holding.head? = some f))) ∧
   (∀ i f s, i.frame? = some f → s.takes f = false → exec i s = .next s))

/-- A request answered with any code but DONE and ADJUSTED changes nothing, and its reply is not held back. -/
def Obligations.RefusedRequestsChangeNothing : Prop :=
  ∀ i f s t, i.frame? = some f → s.takes f = true → exec i s = .next t →
    (∀ r, t.reply = some r ∨ (s.line = none ∧ t.line = some (.reply r)) →
      r.code ≠ .done → r.code ≠ .adjusted → t = s.replied f r.code []) ∧
    (∀ h, t.handling = some h → h.reply.code = .done ∨ h.reply.code = .adjusted)

/-! ## Raising items, offering blocks, and lapses -/

/-- An item that names the same event as a pending one replaces its detail in its place; another joins the tail while
the set holds fewer than 128; otherwise it is lost, and the lost flag is set. Nothing else changes while a frame is on
the line; an item raised on a line at rest has the arbiter choose at once, and with nothing else waiting it goes on
the line (R194, assumption 6). -/
def Obligations.AttentionItemReplacesOrJoins : Prop :=
  (∀ (s : State) (pre post : List Item) (old item : Item), s.line ≠ none → s.attention = pre ++ old :: post →
    old.type = item.type → old.subject = item.subject → s.attentionWell →
    s.raise item = { s with attention := pre ++ item :: post }) ∧
  (∀ (s : State) (item : Item), s.line ≠ none → (∀ i ∈ s.attention, i.type = item.type → i.subject ≠ item.subject) →
    s.attention.length < 128 → s.raise item = { s with attention := s.attention ++ [item] }) ∧
  (∀ (s : State) (item : Item), s.line ≠ none → (∀ i ∈ s.attention, i.type = item.type → i.subject ≠ item.subject) →
    128 ≤ s.attention.length → s.raise item = { s with lost := true }) ∧
  (∀ (s : State) (item : Item), s.line = none → s.lineWell →
    s.raise item = { s with line := some (.report item s.lost), lost := false }) ∧
  (∀ (s : State) (item : Item) (x : Sending), s.line = none →
    exec .transmitterFree ({ s with line := some x }.raise item) = .next (s.raise item))

/-- A device block offered for a port: discarded when the port is ABSENT; otherwise at the tail of its loop's queue,
in place of an older device block for the address; a CHALLENGE replaced so abandons the challenge it carried. A
CHALLENGE withdrawn leaves every other record of its loop's queue in order, and every other loop as it was. -/
def Obligations.DeviceBlocksReplaceAndAreWithdrawn : Prop :=
  ((∀ (s : State) (p : Port) (b : OutBlock), (s.port p).presence = .absent → s.offer p b = s) ∧
   (∀ (s : State) (p : Port) (b : OutBlock), (s.port p).presence = .present →
     (∀ q ∈ (s.loop (loopOf p)).queue, ∀ n, q ≠ ⟨stationOf p, .challenge n⟩) →
     s.offer p b = s.putLoop (loopOf p) { s.loop (loopOf p) with
       queue := (s.loop (loopOf p)).queue.filter
         (fun q => decide (q.station ≠ stationOf p) || decide (q.block.origin = .relay)) ++ [⟨stationOf p, b⟩] }) ∧
   (∀ (s : State) (p : Port) (b : OutBlock) (ix : ExtIx) (e : Entry) (c : Challenge), (s.port p).presence = .present →
     (s.loop (loopOf p)).queueWell → ⟨stationOf p, .challenge c.nonce⟩ ∈ (s.loop (loopOf p)).queue →
     s.challengeAt p = some ix → s.entry? ix = some e → e.challenge = some c →
     e.state = .challenged ∨ e.state = .moving →
     s.offer p b = (s.putLoop (loopOf p) { s.loop (loopOf p) with
       queue := (s.loop (loopOf p)).queue.filter
         (fun q => decide (q.station ≠ stationOf p) || decide (q.block.origin = .relay)) ++ [⟨stationOf p, b⟩] }).putEntry ix
       (some { e with challenge := none, state := if e.state = .challenged then .unbound else .admitted }))) ∧
  (∀ (s : State) (p : Port) (nonce : Long), s.withdraw p nonce = s.putLoop (loopOf p) { s.loop (loopOf p) with
     queue := (s.loop (loopOf p)).queue.filter (fun q => decide (q ≠ ⟨stationOf p, .challenge nonce⟩)) })

/-- The lapse procedure: deferred by Overdue while a call is live; otherwise the binding is released on both sides, a
DIALLING attempt at the port abandoned, NOTICE REREGISTER offered, and LAPSED raised with the port and the cause. The
locking procedure on an entry without a challenge: a binding is released with NOTICE REREGISTER, the entry is LOCKED
with its class's lock period loaded, 0 meaning "until unlocked", and LOCKED is raised. The locking procedure on an
entry with a pending challenge: the challenge is removed, its CHALLENGE withdrawn, and its port, when PRESENT, denied
LOCKED with DENIED; then a binding is released and the entry LOCKED as before. -/
def Obligations.LapsesAndLocksReleaseBindings : Prop :=
  ((∀ (s : State) (ix : ExtIx) (e : Entry) (cause : LapseCause), s.entry? ix = some e → e.liveCall ≠ none →
     s.lapse ix cause = s.putEntry ix (some { e with overdue := some cause })) ∧
   (∀ (s : State) (ix : ExtIx) (e : Entry) (q : Port) (cause : LapseCause), s.entry? ix = some e → e.liveCall = none →
     e.bound = some q → e.state = .admitted ∨ e.state = .moving →
     s.lapse ix cause =
       (((s.putEntry ix (some { e with
           state := if e.state = .admitted then .unbound else .challenged
           bound := none, refresh := none, refreshDue := false, overdue := none })).putPort q
         (if (s.port q).dial = .dialling
           then { s.port q with bound := none, dial := .idle, buffer := [], interdigit := none }
           else { s.port q with bound := none })).offer q (.notice .reregister)).raise
         ⟨.lapsed, ix.val, numWord q.val ++ [cause.octet]⟩)) ∧
  (∀ (ix : ExtIx) (e locked : Entry) (period : Nat) (s : State), s.entry? ix = some e → e.challenge = none →
     period = (s.classes.get e.cls).lockPeriod →
     locked = { e with
       state := .locked, lock := some (if period = 0 then .untilUnlocked else .seconds period) } →
     (e.bound = none → s.lockOut ix = (s.putEntry ix (some locked)).raise ⟨.locked, ix.val, numWord period⟩) ∧
     (∀ q, e.bound = some q → s.lockOut ix =
       ((((s.putEntry ix (some { e with bound := none, refresh := none, refreshDue := false, overdue := none })).putPort q
         (if (s.port q).dial = .dialling
           then { s.port q with bound := none, dial := .idle, buffer := [], interdigit := none }
           else { s.port q with bound := none })).offer q (.notice .reregister)).putEntry ix (some { locked with
             bound := none, refresh := none, refreshDue := false, overdue := none })).raise
               ⟨.locked, ix.val, numWord period⟩)) ∧
  (∀ (ix : ExtIx) (e locked : Entry) (c : Challenge) (period : Nat) (s cleared : State), s.entry? ix = some e →
     e.challenge = some c → period = (s.classes.get e.cls).lockPeriod →
     locked = { e with
       state := .locked, challenge := none, lock := some (if period = 0 then .untilUnlocked else .seconds period) } →
     cleared = (if (s.port c.port).presence = .present
       then ((s.withdraw c.port c.nonce).putEntry ix (some { e with challenge := none })).denied c.port .locked
         (2 :: numWord ix.val)
       else (s.withdraw c.port c.nonce).putEntry ix (some { e with challenge := none })) →
     (e.bound = none → s.lockOut ix = (cleared.putEntry ix (some locked)).raise ⟨.locked, ix.val, numWord period⟩) ∧
     (∀ q, e.bound = some q → s.lockOut ix =
       ((((cleared.putEntry ix (some { e with
         challenge := none, bound := none, refresh := none, refreshDue := false, overdue := none })).putPort q
         (if (s.port q).dial = .dialling
           then { s.port q with bound := none, dial := .idle, buffer := [], interdigit := none }
           else { s.port q with bound := none })).offer q (.notice .reregister)).putEntry ix (some { locked with
             bound := none, refresh := none, refreshDue := false, overdue := none })).raise
               ⟨.locked, ix.val, numWord period⟩))

/-! ## Readings -/

/-- READ CLASS answers the seven fields of the record as stored, and BAD_REQUEST above class 7; it changes nothing.
READ SCREEN answers the fields of the record in order as stored, and BAD_REQUEST above screen 23; it changes nothing.
-/
def Obligations.ReadClassAndReadScreenReportRecords : Prop :=
  (∀ (tag cls : Byte) (s : State), s.takes ⟨9, tag, [cls]⟩ = true →
     (7 < cls.toNat → exec (.readClass tag cls) s = .next (s.replied ⟨9, tag, [cls]⟩ .badRequest [])) ∧
     (∀ c : ClassNo, c.val = cls.toNat → exec (.readClass tag cls) s = .next (s.replied ⟨9, tag, [cls]⟩ .done
       ([(s.classes.get c).defaultVerdict.octet, (s.classes.get c).policy.octet] ++
         numWord (s.classes.get c).keyWaitLimit ++ [BitVec.ofNat 8 (s.classes.get c).threshold] ++
         numWord (s.classes.get c).lockPeriod ++ numWord (s.classes.get c).refreshInterval ++
         numWord (s.classes.get c).answerLimit)))) ∧
  (∀ (tag screen : Byte) (s : State), s.takes ⟨11, tag, [screen]⟩ = true →
     (23 < screen.toNat → exec (.readScreen tag screen) s = .next (s.replied ⟨11, tag, [screen]⟩ .badRequest [])) ∧
     (∀ n : ScreenNo, n.val = screen.toNat → exec (.readScreen tag screen) s =
       .next (s.replied ⟨11, tag, [screen]⟩ .done
         (flagOctet (s.screens.get n).enabled ++ [bitsOctet (s.screens.get n).classSet.cells] ++
           [BitVec.ofNat 8 (s.screens.get n).offset] ++
           BitVec.ofNat 8 (s.screens.get n).pattern.length ::
             (s.screens.get n).pattern.map (fun d : Option Digit => BitVec.ofNat 8 ((d.map Fin.val).getD 12)) ++
           [BitVec.ofNat 8 (s.screens.get n).minLength, BitVec.ofNat 8 (s.screens.get n).maxLength] ++
           flagOctet (s.screens.get n).inverse ++ flagOctet (s.screens.get n).join ++
           [(s.screens.get n).verdict.octet]))))

/-- READ PORT, READ KEYS and READ DEVICE answer the values of R17, R155 and R198 in order, and change nothing. That
the 128 owners and the 32 marks of READ KEYS and the eight loops of READ DEVICE have no count, that the draw pointer
is one octet, and that a dial buffer is one list, are the model's readings (assumption 13). Fresh Count is the number
of DEVICE-owned slots, and Reachable Count the length of the run of them that begins at the draw pointer and goes on
from 127 to 0. -/
def Obligations.ReadPortKeysAndDevice : Prop :=
  ((∀ (tag port : Byte) (p : Port) (s : State), s.takes ⟨17, tag, [port]⟩ = true → p.val = port.toNat →
     exec (.readPort tag port) s = .next (s.replied ⟨17, tag, [port]⟩ .done
       ([(s.port p).presence.octet, BitVec.ofNat 8 (s.port p).miss] ++ idWord ((s.port p).bound.map Fin.val) ++
         [(s.port p).hook.octet, (s.port p).dial.octet] ++ digitOctets (s.port p).buffer ++
         optOctets 2 ((s.port p).interdigit.map numWord) ++ idWord ((s.port p).call.map BitVec.toNat) ++
         flagOctet ((s.loop (loopOf p)).pollList.get (stationOf p)) ++ [(s.loop (loopOf p)).state.octet] ++
         idWord ((s.challengeAt p).map Fin.val)))) ∧
   (∀ (tag : Byte) (s : State), s.takes ⟨38, tag, []⟩ = true →
     exec (.readKeys tag) s = .next (s.replied ⟨38, tag, []⟩ .done
       ([s.supplier.octet, BitVec.ofNat 8 s.pointer.val, BitVec.ofNat 8 s.freshCount,
           BitVec.ofNat 8 s.reachableCount] ++ s.ring.cells.map (fun r => r.owner.octet) ++
         BitVec.ofNat 8 s.waitQueue.length :: s.waitQueue.flatMap (fun w =>
           numWord w.ctx.val ++ idWord ((s.context w.ctx).call.map BitVec.toNat) ++ numWord w.remaining) ++
         s.heldKeys.cells.map (fun k => if k.isSome then 1 else 0)))) ∧
   (∀ (tag : Byte) (s : State), s.takes ⟨5, tag, []⟩ = true →
     exec (.readDevice tag) s = .next (s.replied ⟨5, tag, []⟩ .done
       ([BitVec.ofNat 8 s.absenceLimit] ++ numWord s.interdigitLimit ++ [s.idleOctet] ++
         longOctets s.challengeCounter ++ flagOctet (decide (s.nonceKey ≠ ⟨0, 0, 0, 0⟩)) ++
         [s.timeBase.source.octet, BitVec.ofNat 8 s.timeBase.missCount, BitVec.ofNat 8 s.timeBase.restoreCount] ++
         numLong s.timeBase.holdoverLength ++
         s.loops.cells.flatMap (fun r => flagOctet r.enable ++ [r.state.octet] ++ bitMapOctets 4 r.pollList.cells ++
           [BitVec.ofNat 8 r.queue.length, BitVec.ofNat 8 r.relayCount]) ++
         bitMapOctets 24 s.intercept.cells ++ [BitVec.ofNat 8 s.attention.length] ++ flagOctet s.lost ++
         [BitVec.ofNat 8 (if s.holding = [] then 1 else s.holding.length)])))) ∧
  (∀ s : State, s.freshCount = s.ring.cells.countP (fun r => decide (r.owner = .device)) ∧ s.reachableCount ≤ 128 ∧
     (∀ k, k < s.reachableCount →
       (s.ring.get ⟨(s.pointer.val + k) % 128, Nat.mod_lt _ (by decide)⟩).owner = .device) ∧
     (s.reachableCount < 128 →
       (s.ring.get ⟨(s.pointer.val + s.reachableCount) % 128, Nat.mod_lt _ (by decide)⟩).owner = .host))

/-- READ EXTENSION answers the entry's fields in order without the secret, and changes nothing of the part's; the
digit octets beyond the number's count are open (a free value, assumption 14: any octets, and the model counts the
reply). That an absent challenge is a mark and zeros for its port, nonce and remaining time is the model's reading
(assumption 13). READ CALL answers the fields of R139 in order, each path with its destination, source, transform and,
for SCRAMBLE and DESCRAMBLE, context id. READ CONTEXT answers the state alone for a FREE context; otherwise call, far
end, mode, B, L and key source; and for an ACTIVE or HELD one the fields of both sides, R174's and then R188's, the
parse progress only in HUNT and the block fields only in SHUFFLE. Neither changes anything. That only those paths have
a context id, that L stands twice, that Counter n is a long and the interval position a word, are the model's readings
(assumption 13). A listed destination without a path is met on no run (assumption 23). -/
def Obligations.ReadExtensionCallAndContext : Prop :=
  (∀ (tag : Byte) (index : Word) (s : State), s.takes ⟨4, tag, wordOctets index⟩ = true →
     (319 < index.toNat →
       exec (.readExtension tag index) s = .next (s.replied ⟨4, tag, wordOctets index⟩ .badRequest [])) ∧
     (∀ ix : ExtIx, ix.val = index.toNat → s.entry? ix = none →
       exec (.readExtension tag index) s = .next (s.replied ⟨4, tag, wordOctets index⟩ .noSuch [])) ∧
     (∀ (ix : ExtIx) (e : Entry), ix.val = index.toNat → s.entry? ix = some e →
       ∃ padding : List Byte, padding.length = 6 - e.number.length ∧
         exec (.readExtension tag index) s = .next ({ s with freeReads := s.freeReads + 1 }.replied
           ⟨4, tag, wordOctets index⟩ .done
           (BitVec.ofNat 8 e.number.length :: (e.number.map (fun d : Digit => BitVec.ofNat 8 d.val) ++ padding) ++
             [BitVec.ofNat 8 e.cls.val] ++ flagOctet e.secure ++ idWord (e.home.map Fin.val) ++ [e.state.octet] ++
             idWord (e.bound.map Fin.val) ++
             (match e.challenge with
               | some c => 1 :: numWord c.port.val ++ longOctets c.nonce ++ optOctets 2 (c.remaining.map numWord)
               | none => List.replicate 10 0) ++
             [BitVec.ofNat 8 e.failures] ++
             (match e.lock with
               | some (.seconds n) => 1 :: numWord n
               | some .untilUnlocked => [1, 0, 0]
               | none => [0, 0, 0]) ++
             optOctets 2 (e.refresh.map numWord) ++
             (match e.overdue with | some cause => [1, 1, cause.octet] | none => [0, 0, 0]) ++
             idWord (e.liveCall.map BitVec.toNat))))) ∧
  ((∀ (tag : Byte) (id : CallId) (s : State), s.takes ⟨46, tag, [id]⟩ = true →
     (s.call? id = none → exec (.readCall tag id) s = .next (s.replied ⟨46, tag, [id]⟩ .noSuch [])) ∧
     (∀ c, s.call? id = some c → exec (.readCall tag id) s = .next (s.replied ⟨46, tag, [id]⟩ .done
       ([c.state.octet, c.origin.octet] ++ numWord c.port.val ++ numWord c.ext.val ++ [c.verdict.octet] ++
         digitOctets c.digits ++ BitVec.ofNat 8 c.paths.length :: c.paths.flatMap (fun d => numWord d.val ++
           (match s.connections.get d with
             | some p => numWord p.source.val ++
               (match p.transform with
                 | .pass => [0]
                 | .mute => [1]
                 | .scramble x => 2 :: numWord x.val
                 | .descramble x => 3 :: numWord x.val)
             | none => [])) ++
         BitVec.ofNat 8 c.contexts.length :: c.contexts.flatMap (fun x => numWord x.val ++ [(s.context x).state.octet]) ++
         [BitVec.ofNat 8 c.requested] ++ optOctets 4 (c.connectedTime.map numLong))))) ∧
   (∀ (tag context : Byte) (s : State), s.takes ⟨47, tag, [context]⟩ = true →
     (95 < context.toNat →
       exec (.readContext tag context) s = .next (s.replied ⟨47, tag, [context]⟩ .badRequest [])) ∧
     (∀ c : CtxId, c.val = context.toNat → (s.context c).config = none →
       exec (.readContext tag context) s =
         .next (s.replied ⟨47, tag, [context]⟩ .done [(s.context c).state.octet])) ∧
     (∀ (c : CtxId) (x : CtxConfig) (k : Context) (frames : Nat), c.val = context.toNat → s.context c = k →
       k.config = some x → frames = x.interval.frames →
       exec (.readContext tag context) s = .next (s.replied ⟨47, tag, [context]⟩ .done
         ([k.state.octet] ++ idWord (k.call.map BitVec.toNat) ++ [x.farEnd.octet, x.mode.octet] ++ numWord frames ++
           [BitVec.ofNat 8 x.loss] ++
           (match k.keySource with
             | none => [0]
             | some (.drawn nk) => 1 :: longOctets nk
             | some (.heldSlot slot salt) => 2 :: numWord slot.val ++ longOctets salt) ++
           (match k.tx with
             | none => []
             | some t => wordOctets t.epoch ++ [BitVec.ofNat 8 (t.epoch.toNat % 2)] ++ numLong t.n ++
               [BitVec.ofNat 8 (t.n / frames)] ++ numWord (t.n % frames) ++ [BitVec.ofNat 8 t.collected.length] ++
               flagOctet t.emitting.isSome) ++
           (match k.rx with
             | none => []
             | some r => [r.state.octet] ++ flagOctet r.virgin ++ wordOctets r.epoch ++
               [BitVec.ofNat 8 (r.epoch.toNat % 2)] ++ numLong r.n ++ [BitVec.ofNat 8 (r.n / frames)] ++
               numWord (r.n % frames) ++ [BitVec.ofNat 8 r.miss, BitVec.ofNat 8 x.loss] ++ flagOctet r.previous.isSome ++
               (if r.state = .hunt then
                 match r.parse with
                 | .none => [0, 0, 0]
                 | .seen150 => [1, 0, 0]
                 | .seen150105 => [2, 0, 0]
                 | .seenQ q => [3, q, 0]
                 | .seenInfo q info => [4, q, info]
               else []) ++
               (if x.mode = .shuffle
                 then BitVec.ofNat 8 (r.rebuild.cells.countP Option.isSome) :: flagOctet r.ready.isSome else [])))))))

/-! ## Extensions, classes, screens and settings -/

/-- The checks of ENTER EXTENSION: BAD_REQUEST for a body of bad form, then DUPLICATE for a number held elsewhere.
ENTER EXTENSION creates an entry at a free index, UNBOUND and with no failure; at an occupied index it replaces the
stored fields and keeps the dynamic ones, when no challenge and no binding stands against the new fields. -/
def Obligations.EnterExtensionChecksAndStores : Prop :=
  (∀ (tag : Byte) (b : EnterBody) (s : State), s.takes ⟨1, tag, b.octets⟩ = true →
     (¬ b.goodForm → exec (.enterExtension tag b) s = .next (s.replied ⟨1, tag, b.octets⟩ .badRequest [])) ∧
     (∀ (ix : ExtIx) (f : Stored), b.goodForm → b.carries ix f → s.numberElsewhere ix f.number →
       exec (.enterExtension tag b) s = .next (s.replied ⟨1, tag, b.octets⟩ .duplicate []))) ∧
  (∀ (tag : Byte) (b : EnterBody) (ix : ExtIx) (f : Stored) (s : State), s.takes ⟨1, tag, b.octets⟩ = true → b.goodForm →
     b.carries ix f → ¬ s.numberElsewhere ix f.number →
     (s.entry? ix = none → exec (.enterExtension tag b) s = .next ((s.putEntry ix (some
       ⟨f.number, f.secret, f.cls, f.secure, f.home, .unbound, none, none, 0, none, none, false, none, none⟩)).replied
         ⟨1, tag, b.octets⟩ .done [])) ∧
     (∀ e, s.entry? ix = some e →
       (∀ c, e.challenge = some c → f.secret = e.secret ∧ (f.home = none ∨ f.home = some c.port)) →
       (∀ q, e.bound = some q → f.home = none ∨ f.home = some q) →
       exec (.enterExtension tag b) s = .next ((s.putEntry ix (some { e with
         number := f.number, secret := f.secret, cls := f.cls, secure := f.secure, home := f.home })).replied
           ⟨1, tag, b.octets⟩ .done [])))

/-- ENTER EXTENSION abandons a CHALLENGED entry's challenge for a home port elsewhere (DENY WRONG_PORT) or a new
secret (DENY BUSY), without a report; and it starts the lapse of an ADMITTED entry bound away from the new home port.
ENTER EXTENSION on a MOVING entry: a challenge the new fields rule out is abandoned and the entry is ADMITTED again at
its old port; a home port away from that port then starts the lapse. A MOVING entry whose challenge stands goes
through the lapse with it, and so becomes CHALLENGED (assumption 16). -/
def Obligations.EnterExtensionAbandonsAndLapses : Prop :=
  (∀ (tag : Byte) (b : EnterBody) (ix : ExtIx) (f : Stored) (e : Entry) (s : State),
     s.takes ⟨1, tag, b.octets⟩ = true → b.goodForm → b.carries ix f → ¬ s.numberElsewhere ix f.number →
     s.entry? ix = some e →
     (∀ c, e.state = .challenged → e.bound = none → e.challenge = some c →
       (f.home ≠ none ∧ f.home ≠ some c.port) ∨ f.secret ≠ e.secret →
       exec (.enterExtension tag b) s = .next ((((s.withdraw c.port c.nonce).putEntry ix (some { e with
         number := f.number, secret := f.secret, cls := f.cls, secure := f.secure, home := f.home
         state := .unbound, challenge := none })).offer c.port
           (.deny (if f.home ≠ none ∧ f.home ≠ some c.port then .wrongPort else .busy))).replied
             ⟨1, tag, b.octets⟩ .done [])) ∧
     (∀ h q, e.state = .admitted → e.challenge = none → e.bound = some q → f.home = some h → h ≠ q →
       exec (.enterExtension tag b) s = .next (((s.putEntry ix (some { e with
         number := f.number, secret := f.secret, cls := f.cls, secure := f.secure, home := f.home })).lapse ix
           .homePort).replied ⟨1, tag, b.octets⟩ .done []))) ∧
  (∀ (tag : Byte) (b : EnterBody) (ix : ExtIx) (f : Stored) (e : Entry) (c : Challenge) (q : Port) (s : State),
     s.takes ⟨1, tag, b.octets⟩ = true → b.goodForm → b.carries ix f → ¬ s.numberElsewhere ix f.number →
     s.entry? ix = some e → e.state = .moving → e.challenge = some c → e.bound = some q →
     ((f.home ≠ none ∧ f.home ≠ some c.port) ∨ f.secret ≠ e.secret → ∃ t : State,
       t = ((s.withdraw c.port c.nonce).putEntry ix (some { e with
         number := f.number, secret := f.secret, cls := f.cls, secure := f.secure, home := f.home
         state := .admitted, challenge := none })).offer c.port
           (.deny (if f.home ≠ none ∧ f.home ≠ some c.port then .wrongPort else .busy)) ∧
       exec (.enterExtension tag b) s = .next ((if f.home = none ∨ f.home = some q then t
         else t.lapse ix .homePort).replied ⟨1, tag, b.octets⟩ .done [])) ∧
     (f.home = some c.port → c.port ≠ q → f.secret = e.secret →
       exec (.enterExtension tag b) s = .next (((s.putEntry ix (some { e with
         number := f.number, secret := f.secret, cls := f.cls, secure := f.secure, home := f.home })).lapse ix
           .homePort).replied ⟨1, tag, b.octets⟩ .done [])))

/-- ERASE EXTENSION: BUSY with a live call; otherwise the challenge is removed (DENY UNKNOWN), the bound port let go
(NOTICE REREGISTER), and the position freed. A lock ends by UNLOCK EXTENSION or by its own expiry: the entry is
UNBOUND with failure count 0, and UNLOCKED is raised; an entry in another state is left as it is, with the reply
STATE. ERASE and UNLOCK EXTENSION answer BAD_REQUEST for an index above 319 and NO_SUCH for a free one; a MOVING entry
is erased with both its challenge (DENY UNKNOWN) and its binding (NOTICE REREGISTER). -/
def Obligations.EraseAndUnlockExtension : Prop :=
  (∀ (tag : Byte) (index : Word) (ix : ExtIx) (e : Entry) (s : State), s.takes ⟨2, tag, wordOctets index⟩ = true →
     ix.val = index.toNat → s.entry? ix = some e →
     (e.liveCall ≠ none →
       exec (.eraseExtension tag index) s = .next (s.replied ⟨2, tag, wordOctets index⟩ .busy [])) ∧
     (e.liveCall = none → e.challenge = none → e.bound = none →
       exec (.eraseExtension tag index) s =
         .next ((s.putEntry ix none).replied ⟨2, tag, wordOctets index⟩ .done [])) ∧
     (∀ q, e.liveCall = none → e.challenge = none → e.bound = some q →
       exec (.eraseExtension tag index) s = .next ((((s.putPort q
         (if (s.port q).dial = .dialling ∨ (s.port q).dial = .blocked
           then { s.port q with bound := none, dial := .idle, buffer := [], interdigit := none }
           else { s.port q with bound := none })).offer q (.notice .reregister)).putEntry ix none).replied
             ⟨2, tag, wordOctets index⟩ .done [])) ∧
     (∀ c, e.liveCall = none → e.challenge = some c → e.bound = none →
       exec (.eraseExtension tag index) s = .next (((((s.withdraw c.port c.nonce).putEntry ix
         (some { e with challenge := none })).offer c.port (.deny .unknown)).putEntry ix none).replied
           ⟨2, tag, wordOctets index⟩ .done []))) ∧
  (∀ (ix : ExtIx) (e : Entry) (s : State), s.entry? ix = some e →
     (∀ (tag : Byte) (index : Word), ix.val = index.toNat → s.takes ⟨3, tag, wordOctets index⟩ = true →
       (e.state ≠ .locked →
         exec (.unlockExtension tag index) s = .next (s.replied ⟨3, tag, wordOctets index⟩ .state [])) ∧
       (e.state = .locked →
         exec (.unlockExtension tag index) s = .next (((s.putEntry ix
           (some { e with state := .unbound, failures := 0, lock := none })).raise ⟨.unlocked, ix.val, []⟩).replied
             ⟨3, tag, wordOctets index⟩ .done []))) ∧
     (e.lock = some (.seconds 0) →
       exec (.lockExpiry ix) s = .next ((s.putEntry ix
         (some { e with state := .unbound, failures := 0, lock := none })).raise ⟨.unlocked, ix.val, []⟩))) ∧
  ((∀ (tag : Byte) (index : Word) (s : State), s.takes ⟨2, tag, wordOctets index⟩ = true →
     (319 < index.toNat →
       exec (.eraseExtension tag index) s = .next (s.replied ⟨2, tag, wordOctets index⟩ .badRequest [])) ∧
     (∀ ix : ExtIx, ix.val = index.toNat → s.entry? ix = none →
       exec (.eraseExtension tag index) s = .next (s.replied ⟨2, tag, wordOctets index⟩ .noSuch [])) ∧
     (∀ (ix : ExtIx) (e : Entry) (c : Challenge) (q : Port), ix.val = index.toNat → s.entry? ix = some e →
       e.liveCall = none → e.challenge = some c → e.bound = some q →
       exec (.eraseExtension tag index) s = .next (((((((s.withdraw c.port c.nonce).putEntry ix
         (some { e with challenge := none })).offer c.port (.deny .unknown)).putPort q
         (if (s.port q).dial = .dialling ∨ (s.port q).dial = .blocked
           then { s.port q with bound := none, dial := .idle, buffer := [], interdigit := none }
           else { s.port q with bound := none })).offer q (.notice .reregister)).putEntry ix none).replied
             ⟨2, tag, wordOctets index⟩ .done []))) ∧
   (∀ (tag : Byte) (index : Word) (s : State), s.takes ⟨3, tag, wordOctets index⟩ = true →
     (319 < index.toNat →
       exec (.unlockExtension tag index) s = .next (s.replied ⟨3, tag, wordOctets index⟩ .badRequest [])) ∧
     (∀ ix : ExtIx, ix.val = index.toNat → s.entry? ix = none →
       exec (.unlockExtension tag index) s = .next (s.replied ⟨3, tag, wordOctets index⟩ .noSuch []))))

/-- SET CLASS stores the whole record, each number clamped into its range; DONE when no number was clamped, ADJUSTED
otherwise; BAD_REQUEST for an unknown class, verdict or policy. SET SCREEN stores the whole record: lengths clamped to
1 to 24 and the maximum raised to the minimum, with ADJUSTED when either changed; BAD_REQUEST for a screen above 23 or
a pattern length out of range. -/
def Obligations.SetClassAndSetScreenStoreRecords : Prop :=
  (∀ (tag : Byte) (b : ClassBody) (s : State), s.takes ⟨8, tag, b.octets⟩ = true →
     (7 < b.cls.toNat ∨ 3 < b.verdict.toNat ∨ 1 < b.policy.toNat →
       exec (.setClass tag b) s = .next (s.replied ⟨8, tag, b.octets⟩ .badRequest [])) ∧
     (∀ (c : ClassNo) (v : Verdict) (k : KeyWaitPolicy), c.val = b.cls.toNat → v.octet = b.verdict →
       k.octet = b.policy →
       exec (.setClass tag b) s = .next ({ s with classes := (s.classes.set c
         ⟨v, k, max 50 (min 5000 b.keyWaitLimit.toNat), max 1 (min 15 b.threshold.toNat), b.lockPeriod.toNat,
           max 10 (min 3600 b.refreshInterval.toNat), max 100 (min 2000 b.answerLimit.toNat)⟩) }.replied
         ⟨8, tag, b.octets⟩
         (if 50 ≤ b.keyWaitLimit.toNat ∧ b.keyWaitLimit.toNat ≤ 5000 ∧ 1 ≤ b.threshold.toNat ∧ b.threshold.toNat ≤ 15 ∧
             10 ≤ b.refreshInterval.toNat ∧ b.refreshInterval.toNat ≤ 3600 ∧ 100 ≤ b.answerLimit.toNat ∧
             b.answerLimit.toNat ≤ 2000 then .done else .adjusted) []))) ∧
  (∀ (tag : Byte) (b : ScreenBody) (s : State), s.takes ⟨10, tag, b.octets⟩ = true →
     (23 < b.screen.toNat ∨ b.patternLength.toNat = 0 ∨ 12 < b.patternLength.toNat ∨ 23 < b.offset.toNat ∨
       3 < b.verdict.toNat ∨ 1 < b.enabled.toNat ∨ 1 < b.inverse.toNat ∨ 1 < b.join.toNat ∨
       (∃ i : Fin 12, i.val < b.patternLength.toNat ∧ 12 < (b.pattern.get i).toNat) →
       exec (.setScreen tag b) s = .next (s.replied ⟨10, tag, b.octets⟩ .badRequest [])) ∧
     (∀ (n : ScreenNo) (pattern : List (Option Digit)) (v : Verdict), n.val = b.screen.toNat →
       1 ≤ b.patternLength.toNat → b.patternLength.toNat ≤ 12 →
       pattern.map (fun d : Option Digit => (d.map Fin.val).getD 12) =
         (b.pattern.cells.take b.patternLength.toNat).map BitVec.toNat →
       b.offset.toNat ≤ 23 → v.octet = b.verdict → b.enabled.toNat ≤ 1 → b.inverse.toNat ≤ 1 → b.join.toNat ≤ 1 →
       exec (.setScreen tag b) s = .next ({ s with screens := (s.screens.set n
         ⟨decide (b.enabled = 1), Table.tabulate (fun c => b.classSet.toNat.testBit c.val), b.offset.toNat, pattern,
           max 1 (min 24 b.minLength.toNat),
           max (max 1 (min 24 b.minLength.toNat)) (max 1 (min 24 b.maxLength.toNat)),
           decide (b.inverse = 1), decide (b.join = 1), v⟩) }.replied ⟨10, tag, b.octets⟩
         (if 1 ≤ b.minLength.toNat ∧ b.minLength.toNat ≤ b.maxLength.toNat ∧ b.maxLength.toNat ≤ 24
           then .done else .adjusted) [])))

/-- SET DEVICE writes the settings whose marks say present and keeps the others; limits are clamped with ADJUSTED. The
body's octets are the four settings in order, each its mark and, when present, its octets. The reply is held back when
it carries an idle octet (R197; R115 speaks of a changed one, assumption 9). SET INTERCEPT puts every slot of its
range into the set, or takes it out, and no other slot; its reply is held back; a slot above 191 or a range that runs
backwards is BAD_REQUEST. A SET DEVICE body that is not those four settings, by a mark above 1 or by its length, is
BAD_REQUEST. -/
def Obligations.SetDeviceAndSetIntercept : Prop :=
  (∀ (tag : Byte) (absence idle : Option Byte) (interdigit : Option Word) (nonceKey : Option Key) (body : List Byte)
     (s : State),
     body = (match absence with | some o => [1, o] | none => [0]) ++
       (match interdigit with | some w => 1 :: wordOctets w | none => [0]) ++
       (match idle with | some o => [1, o] | none => [0]) ++
       (match nonceKey with | some k => 1 :: keyOctets k | none => [0]) →
     s.takes ⟨6, tag, body⟩ = true →
     ∀ (t : State) (code : Code),
       t = { s with
         absenceLimit := (absence.map (fun o => max 2 (min 32 o.toNat))).getD s.absenceLimit
         interdigitLimit := (interdigit.map (fun w => max 2000 (min 20000 w.toNat))).getD s.interdigitLimit
         idleOctet := idle.getD s.idleOctet
         nonceKey := nonceKey.getD s.nonceKey } →
       code = (if (∀ o, absence = some o → 2 ≤ o.toNat ∧ o.toNat ≤ 32) ∧
           (∀ w, interdigit = some w → 2000 ≤ w.toNat ∧ w.toNat ≤ 20000) then .done else .adjusted) →
       exec (.setDevice tag body) s =
         .next (if idle = none then t.replied ⟨6, tag, body⟩ code [] else t.heldBack ⟨6, tag, body⟩ code [])) ∧
  (∀ (tag first last : Byte) (s : State),
     (s.takes ⟨24, tag, [1, first, last]⟩ = true →
       (191 < first.toNat ∨ 191 < last.toNat ∨ last.toNat < first.toNat →
         exec (.setInterceptSet tag first last) s = .next (s.replied ⟨24, tag, [1, first, last]⟩ .badRequest [])) ∧
       (first.toNat ≤ last.toNat → last.toNat ≤ 191 → ∃ set : Table Bool 192,
         (∀ d, set.get d = if first.toNat ≤ d.val ∧ d.val ≤ last.toNat then true else s.intercept.get d) ∧
         exec (.setInterceptSet tag first last) s =
           .next ({ s with intercept := set }.heldBack ⟨24, tag, [1, first, last]⟩ .done []))) ∧
     (s.takes ⟨24, tag, [0, first, last]⟩ = true →
       (191 < first.toNat ∨ 191 < last.toNat ∨ last.toNat < first.toNat →
         exec (.setInterceptClear tag first last) s = .next (s.replied ⟨24, tag, [0, first, last]⟩ .badRequest [])) ∧
       (first.toNat ≤ last.toNat → last.toNat ≤ 191 → ∃ set : Table Bool 192,
         (∀ d, set.get d = if first.toNat ≤ d.val ∧ d.val ≤ last.toNat then false else s.intercept.get d) ∧
         exec (.setInterceptClear tag first last) s =
           .next ({ s with intercept := set }.heldBack ⟨24, tag, [0, first, last]⟩ .done [])))) ∧
  (∀ (tag : Byte) (body : List Byte) (s : State), s.takes ⟨6, tag, body⟩ = true →
     (∀ (absence idle : Option Byte) (interdigit : Option Word) (nonceKey : Option Key),
       body ≠ (match absence with | some o => [1, o] | none => [0]) ++
         (match interdigit with | some w => 1 :: wordOctets w | none => [0]) ++
         (match idle with | some o => [1, o] | none => [0]) ++
         (match nonceKey with | some k => 1 :: keyOctets k | none => [0])) →
     exec (.setDevice tag body) s = .next (s.replied ⟨6, tag, body⟩ .badRequest []))

/-! ## Station loops -/

/-- SET LOOP on a loop that is not enabled: enabled, it takes its list and enters IDLE-CYCLE without a Poll Position;
otherwise the list alone is stored. A loop above 7 or an enable octet above 1 is BAD_REQUEST. SET LOOP on an enabled
loop: disabled, it loses its turn, its queue and its position, its listed ports are ABSENT and every port of it has
Miss Count 0; kept enabled, it takes the new list and keeps its position (through an empty list too: assumption 33), a
removed address is ABSENT with nothing queued, and an address in both lists keeps its presence and Miss Count. SET
LOOP on an enabled loop, in full: each PRESENT port it takes off the list, or each listed one when it disables the
loop, raises STATION ABSENT and goes through the absence procedure, in ascending order (assumption 11): hook ON, a
DIALLING or BLOCKED port IDLE, its challenge abandoned, its extension lapsed or Overdue. A removed address loses its
turn and its queued blocks; every port else keeps its fields, and an added one is ABSENT with Miss Count 0. -/
def Obligations.SetLoopByTheLoopsEnable : Prop :=
  (∀ (tag : Byte) (b : LoopBody) (s : State), s.takes ⟨16, tag, b.octets⟩ = true →
     (7 < b.loop.toNat ∨ 1 < b.enable.toNat →
       exec (.setLoop tag b) s = .next (s.replied ⟨16, tag, b.octets⟩ .badRequest [])) ∧
     (∀ (l : LoopNo) (poll : Table Bool 32), l.val = b.loop.toNat → (s.loop l).enable = false →
       (∀ st : Station, poll.get st = (b.poll.get ⟨st.val / 8, by omega⟩).toNat.testBit (st.val % 8)) →
       (b.enable = 1 → exec (.setLoop tag b) s = .next ((s.putLoop l { s.loop l with
         enable := true, pollList := poll, state := .idleCycle, position := none }).replied ⟨16, tag, b.octets⟩ .done [])) ∧
       (b.enable = 0 → exec (.setLoop tag b) s =
         .next ((s.putLoop l { s.loop l with pollList := poll }).replied ⟨16, tag, b.octets⟩ .done [])))) ∧
  (∀ (tag : Byte) (b : LoopBody) (l : LoopNo) (s : State), s.takes ⟨16, tag, b.octets⟩ = true → s.wired →
     l.val = b.loop.toNat → (s.loop l).enable = true →
     (b.enable = 0 → ∃ t, exec (.setLoop tag b) s = .next t ∧
       (t.reply = some ⟨16, tag, .done, []⟩ ∨
         (s.line = none ∧ t.line = some (.reply ⟨16, tag, .done, []⟩))) ∧
       t.loop l = ⟨false, pollListOf b.poll, .disabled, none, [], 0, none⟩ ∧
       (∀ st : Station, (t.port (portOf l st)).miss = 0) ∧
       (∀ st : Station, (s.loop l).pollList.get st = true → (t.port (portOf l st)).presence = .absent)) ∧
     (b.enable = 1 → ∃ t, exec (.setLoop tag b) s = .next t ∧
       (t.reply = some ⟨16, tag, .done, []⟩ ∨
         (s.line = none ∧ t.line = some (.reply ⟨16, tag, .done, []⟩))) ∧
       ((t.loop l).enable = true ∧ (t.loop l).pollList = pollListOf b.poll ∧ (t.loop l).state = (s.loop l).state ∧
         (t.loop l).position = (s.loop l).position) ∧
       (∀ st : Station, (s.loop l).pollList.get st = true → (pollListOf b.poll).get st = false →
         (t.port (portOf l st)).presence = .absent ∧ (t.port (portOf l st)).miss = 0 ∧
         ∀ q ∈ (t.loop l).queue, q.station ≠ st) ∧
       (∀ st : Station, (s.loop l).pollList.get st = true → (pollListOf b.poll).get st = true →
         (t.port (portOf l st)).presence = (s.port (portOf l st)).presence ∧
         (t.port (portOf l st)).miss = (s.port (portOf l st)).miss))) ∧
  (∀ (tag : Byte) (b : LoopBody) (l : LoopNo) (poll : Table Bool 32) (removed gone : Station → Bool) (s : State),
     s.takes ⟨16, tag, b.octets⟩ = true → s.wired → l.val = b.loop.toNat → (s.loop l).enable = true →
     b.enable.toNat ≤ 1 → poll = pollListOf b.poll →
     (∀ st, removed st = true ↔ (s.loop l).pollList.get st = true ∧ poll.get st = false) →
     (∀ st, gone st = true ↔ (s.port (portOf l st)).presence = .present ∧
       (if b.enable = 1 then removed st = true else (s.loop l).pollList.get st = true)) →
     ∃ (directory : Table (Option Entry) 320) (ports : Table PortRec 256) (r : LoopRec),
       exec (.setLoop tag b) s = .next ((({ s with directory := directory, ports := ports }.putLoop l r).raiseAll
         (((List.finRange 32).filter gone).flatMap (fun st =>
           (⟨.stationAbsent, (portOf l st).val, []⟩ : Item) ::
             match (s.port (portOf l st)).bound with
             | some ix => if (s.entry? ix).any (fun e : Entry => e.liveCall.isNone)
               then [⟨.lapsed, ix.val, numWord (portOf l st).val ++ [1]⟩] else []
             | none => []))).replied ⟨16, tag, b.octets⟩ .done []) ∧
       (b.enable = 0 → r = ⟨false, poll, .disabled, none, [], 0, none⟩) ∧
       (b.enable = 1 → r = { s.loop l with
         pollList := poll
         turn := (s.loop l).turn.filter (fun t => poll.get t.station)
         queue := (s.loop l).queue.filter (fun q => !removed q.station)
         relayCount := (s.loop l).relayCount -
           (s.loop l).queue.countP (fun q => removed q.station && decide (q.block.origin = .relay)) }) ∧
       (∀ p, loopOf p ≠ l → ports.get p = s.port p) ∧
       (∀ st p, p = portOf l st → gone st = false → ports.get p = { s.port p with
         miss := if b.enable = 0 ∨ removed st = true then 0 else (s.port p).miss }) ∧
       (∀ st p, p = portOf l st → gone st = true → ports.get p = { s.port p with
         presence := .absent, miss := 0, hook := .on
         bound := (s.port p).bound.filter (fun ix => !(s.entry? ix).any (fun e : Entry => e.liveCall.isNone))
         dial := if (s.port p).dial = .dialling ∨ (s.port p).dial = .blocked then .idle else (s.port p).dial
         buffer := if (s.port p).dial = .dialling ∨ (s.port p).dial = .blocked then [] else (s.port p).buffer
         interdigit := if (s.port p).dial = .dialling ∨ (s.port p).dial = .blocked then none
           else (s.port p).interdigit }) ∧
       (s.presenceWell → b.enable = 1 → ∀ st, (s.loop l).pollList.get st = false → poll.get st = true →
         (ports.get (portOf l st)).presence = .absent ∧ (ports.get (portOf l st)).miss = 0) ∧
       (∀ ix, s.entry? ix = none → directory.get ix = none) ∧
       (∀ (ix : ExtIx) (e : Entry) (asked seated : Bool), s.entry? ix = some e →
         (asked = true ↔ ∃ c, e.challenge = some c ∧ loopOf c.port = l ∧ gone (stationOf c.port) = true) →
         (seated = true ↔ ∃ q, e.bound = some q ∧ loopOf q = l ∧ gone (stationOf q) = true) →
         (seated = false → asked = false → directory.get ix = some e) ∧
         (seated = false → asked = true → directory.get ix = some { e with
           challenge := none, state := if e.state = .challenged then .unbound else .admitted }) ∧
         (seated = true → e.liveCall ≠ none → directory.get ix = some { e with overdue := some .absent }) ∧
         (seated = true → e.liveCall = none → directory.get ix = some { e with
           challenge := if asked then none else e.challenge
           state := if e.state = .moving ∧ asked = false then .challenged else .unbound
           bound := none, refresh := none, refreshDue := false, overdue := none })))

/-- SEND TO STATION: its checks in order, and the relay record at the tail of the loop's queue. -/
def Obligations.SendToStationQueuesARelay : Prop :=
  ∀ (tag port : Byte) (body : List Byte) (p : Port) (s : State), s.takes ⟨18, tag, port :: body⟩ = true →
    p.val = port.toNat →
    (32 < body.length →
      exec (.sendToStation tag port body) s = .next (s.replied ⟨18, tag, port :: body⟩ .badRequest [])) ∧
    (body.length ≤ 32 →
      (s.loop (loopOf p)).enable = false ∨ (s.loop (loopOf p)).pollList.get (stationOf p) = false ∨
        (s.port p).presence = .absent →
      exec (.sendToStation tag port body) s = .next (s.replied ⟨18, tag, port :: body⟩ .state [])) ∧
    (body.length ≤ 32 → (s.loop (loopOf p)).enable = true →
      (s.loop (loopOf p)).pollList.get (stationOf p) = true → (s.port p).presence = .present →
      (8 ≤ (s.loop (loopOf p)).relayCount →
        exec (.sendToStation tag port body) s = .next (s.replied ⟨18, tag, port :: body⟩ .full [])) ∧
      ((s.loop (loopOf p)).relayCount < 8 →
        exec (.sendToStation tag port body) s = .next ((s.putLoop (loopOf p) { s.loop (loopOf p) with
          queue := (s.loop (loopOf p)).queue ++ [⟨stationOf p, .relay body⟩]
          relayCount := (s.loop (loopOf p)).relayCount + 1 }).replied ⟨18, tag, port :: body⟩ .done [])))

/-- A turn begins at the next listed address: with nothing queued for it the bare address is sent; otherwise its
oldest record leaves the queue and is sent as a block: address, kind, length, body and check. When a turn's last
character has been sent its reply window opens; a CHALLENGE sent starts the answer timer of the challenge still
pending with its nonce, at the class's Answer Limit. That the same event ends a bare poll's transmission is the
model's choice (assumption 30). -/
def Obligations.TurnSendsABlockAndStartsItsTimer : Prop :=
  (∀ (l : LoopNo) (st : Station) (s : State), (s.loop l).state = .idleCycle → (s.loop l).turn = none →
     (s.loop l).turnGoesTo st →
     ((∀ q ∈ (s.loop l).queue, q.station ≠ st) →
       exec (.loopTurnStart l) s = .next (s.putLoop l { s.loop l with
         position := some st
         turn := some ⟨st, none, [⟨BitVec.ofNat 8 (st.val + 1), true, false⟩], .sending⟩ })) ∧
     (∀ (pre post : List QueueRec) (b : OutBlock) (kind : Byte) (body : List Byte),
       (s.loop l).queue = pre ++ ⟨st, b⟩ :: post → (∀ q ∈ pre, q.station ≠ st) → b.kindBody = (kind, body) →
       exec (.loopTurnStart l) s = .next (s.putLoop l { s.loop l with
         position := some st
         queue := pre ++ post
         relayCount := if b.origin = .relay then (s.loop l).relayCount - 1 else (s.loop l).relayCount
         turn := some ⟨st, some b,
           ⟨BitVec.ofNat 8 (st.val + 1), true, false⟩ ::
             (kind :: BitVec.ofNat 8 body.length :: body ++
               [255 - BitVec.ofNat 8 ((kind.toNat + body.length + octetSum body) % 256)]).map
                 (fun o => ⟨o, false, false⟩), .sending⟩ }))) ∧
  (∀ (l : LoopNo) (st : Station) (block : Option OutBlock) (chars : List LoopChar) (s : State),
     (s.loop l).turn = some ⟨st, block, chars, .sending⟩ →
     ((∀ nonce, block ≠ some (.challenge nonce)) ∨ s.challengeAt (portOf l st) = none →
       exec (.blockSent l) s =
         .next (s.putLoop l { s.loop l with turn := some ⟨st, block, chars, .window⟩ })) ∧
     (∀ nonce ix e port, block = some (.challenge nonce) → s.challengeAt (portOf l st) = some ix →
       s.entry? ix = some e → e.challenge = some ⟨port, nonce, none⟩ →
       exec (.blockSent l) s =
         .next ((s.putLoop l { s.loop l with turn := some ⟨st, block, chars, .window⟩ }).putEntry ix
           (some { e with challenge := some ⟨port, nonce, some (s.classes.get e.cls).answerLimit⟩ }))))

/-- A turn without a reply and a GARBLED reply count a miss, up to 32, while the port is ABSENT already or stays below
the absence limit. A miss that reaches the absence limit makes a PRESENT port ABSENT: STATION ABSENT is raised, its
queued blocks are discarded, its challenge is abandoned, its hook is ON, a DIALLING or BLOCKED port is IDLE, and its
extension lapses. A GARBLED reply does what a turn without a reply does, at the absence limit too. -/
def Obligations.MissedTurnsCountUpToAbsence : Prop :=
  (∀ (l : LoopNo) (st : Station) (s : State), s.awaits l st →
     (s.port (portOf l st)).presence = .absent ∨
       min 32 ((s.port (portOf l st)).miss + 1) < s.absenceLimit →
     exec (.replyWindowTimeout l) s = .next ((s.turnEnded l).putPort (portOf l st)
       { s.port (portOf l st) with miss := min 32 ((s.port (portOf l st)).miss + 1) }) ∧
     (∀ chars, chars ≠ [] → (∀ block, ¬ validReply st chars block) →
       exec (.stationReply l chars) s = .next ((s.turnEnded l).putPort (portOf l st)
         { s.port (portOf l st) with miss := min 32 ((s.port (portOf l st)).miss + 1) }))) ∧
  (∀ (l : LoopNo) (st : Station) (p : Port) (s gone : State), s.awaits l st → p = portOf l st →
     (s.port p).presence = .present → s.absenceLimit ≤ min 32 ((s.port p).miss + 1) →
     gone = (((s.putLoop l { s.loop l with
         turn := none
         queue := (s.loop l).queue.filter (fun q => decide (q.station ≠ st))
         relayCount := (s.loop l).relayCount -
           (s.loop l).queue.countP (fun q => decide (q.station = st) && decide (q.block.origin = .relay)) }).putPort p
       (if (s.port p).dial = .dialling ∨ (s.port p).dial = .blocked
         then { s.port p with
           presence := .absent, miss := min 32 ((s.port p).miss + 1), hook := .on, dial := .idle, buffer := []
           interdigit := none }
         else { s.port p with presence := .absent, miss := min 32 ((s.port p).miss + 1), hook := .on })).raise
           ⟨.stationAbsent, p.val, []⟩) →
     ((s.port p).bound = none → s.challengeAt p = none → exec (.replyWindowTimeout l) s = .next gone) ∧
     (∀ ix, (s.port p).bound = some ix → s.challengeAt p = none →
       exec (.replyWindowTimeout l) s = .next (gone.lapse ix .absent)) ∧
     (∀ ix e, (s.port p).bound = none → s.challengeAt p = some ix → s.entry? ix = some e →
       e.state = .challenged ∨ e.state = .moving →
       exec (.replyWindowTimeout l) s = .next (gone.putEntry ix (some { e with
         challenge := none, state := if e.state = .challenged then .unbound else .admitted })))) ∧
  (∀ (l : LoopNo) (st : Station) (chars : List LoopChar) (s : State), s.awaits l st → chars ≠ [] →
     (∀ block, ¬ validReply st chars block) → exec (.stationReply l chars) s = exec (.replyWindowTimeout l) s)

/-- A VALID reply sets the Miss Count to 0, makes an ABSENT port PRESENT with its report, and hands its block on, when
it carries one that fits a kind a station sends. The blocks a station sends, by kind and body; any other kind or body
is no block of a station: a REGISTER of fewer than 3 or more than 6 digits or with an octet above 9, an ANSWER of
other than 4 octets, a CHECK-IN, OFF-HOOK or ON-HOOK with a body, DIGITS without or with more than 16 codes, with a
code above 11 or an END flag above 1, a FEATURE above 32 octets. A FEATURE block is passed to the host: STATION BLOCK
is raised with the port, and the body as a list with its count, the model's reading (assumption 13). -/
def Obligations.ValidReplyHandsItsBlockOn : Prop :=
  (∀ (l : LoopNo) (st : Station) (p : Port) (chars : List LoopChar) (block : Option (Byte × List Byte)) (s met : State),
     s.awaits l st → p = portOf l st → validReply st chars block →
     met = (if (s.port p).presence = .present then (s.turnEnded l).putPort p { s.port p with miss := 0 }
       else ((s.turnEnded l).putPort p { s.port p with presence := .present, miss := 0 }).raise
         ⟨.stationPresent, p.val, []⟩) →
     (block = none → exec (.stationReply l chars) s = .next met) ∧
     (∀ kind body b, block = some (kind, body) → decodeStationBlock kind body = some b →
       exec (.stationReply l chars) s = .next { met with handed := s.handed ++ [(p, b)] }) ∧
     (∀ kind body, block = some (kind, body) → decodeStationBlock kind body = none →
       exec (.stationReply l chars) s = .next met)) ∧
  ((∀ number : List Digit, 3 ≤ number.length → number.length ≤ 6 → (∀ d ∈ number, d.val < 10) →
     decodeStationBlock 1 (number.map (fun d => BitVec.ofNat 8 d.val)) = some (.register number)) ∧
   (∀ response : Long, decodeStationBlock 2 (longOctets response) = some (.answer response)) ∧
   decodeStationBlock 3 [] = some .checkIn ∧ decodeStationBlock 4 [] = some .offHook ∧
   decodeStationBlock 5 [] = some .onHook ∧
   (∀ codes : List Digit, 1 ≤ codes.length → codes.length ≤ 16 →
     decodeStationBlock 6 (0 :: codes.map (fun d => BitVec.ofNat 8 d.val)) = some (.digits false codes) ∧
     decodeStationBlock 6 (1 :: codes.map (fun d => BitVec.ofNat 8 d.val)) = some (.digits true codes)) ∧
   (∀ body : List Byte, body.length ≤ 32 → decodeStationBlock 7 body = some (.feature body)) ∧
   (∀ (kind : Byte) (body : List Byte), kind = 0 ∨ 7 < kind.toNat → decodeStationBlock kind body = none) ∧
   (∀ body : List Byte, body.length < 3 ∨ 6 < body.length ∨ (∃ o ∈ body, 9 < o.toNat) →
     decodeStationBlock 1 body = none) ∧
   (∀ (kind : Byte) (body : List Byte), kind = 3 ∨ kind = 4 ∨ kind = 5 → body ≠ [] → decodeStationBlock kind body = none) ∧
   (∀ body : List Byte, body.length ≠ 4 → decodeStationBlock 2 body = none) ∧
   decodeStationBlock 6 [] = none ∧
   (∀ (flag : Byte) (codes : List Byte), codes = [] ∨ 16 < codes.length ∨ 1 < flag.toNat ∨ (∃ o ∈ codes, 11 < o.toNat) →
     decodeStationBlock 6 (flag :: codes) = none) ∧
   (∀ body : List Byte, 32 < body.length → decodeStationBlock 7 body = none)) ∧
  (∀ (p : Port) (body : List Byte) (s : State), s.blockArrives p (.feature body) →
     exec (.feature p body) s =
       .next (s.blockTaken.raise ⟨.stationBlock, p.val, BitVec.ofNat 8 body.length :: body⟩))

/-- A break takes a loop in IDLE-CYCLE to FAULT: the turn stops, the position is cleared, LOOP FAULT is raised, and
every challenge pending on the loop is abandoned with its CHALLENGE; the ports keep every field. A restored loop is in
IDLE-CYCLE, with LOOP RESTORED. -/
def Obligations.LoopBreakAndRestore : Prop :=
  (∀ (l : LoopNo) (s : State), s.wired → (s.loop l).state = .idleCycle → ∃ t, exec (.loopBreak l) s = .next t ∧
    ((t.loop l).state = .fault ∧ (t.loop l).position = none ∧ (t.loop l).turn = none ∧
      (t.loop l).relayCount = (s.loop l).relayCount ∧ (t.loop l).pollList = (s.loop l).pollList) ∧
    (∀ q, q ∈ (t.loop l).queue ↔ q ∈ (s.loop l).queue ∧
      ¬ ∃ ix e c, s.entry? ix = some e ∧ e.challenge = some c ∧ c.port = portOf l q.station ∧
        q.block = .challenge c.nonce) ∧
    t.outgoing = (s.raise ⟨.loopFault, l.val, []⟩).outgoing ∧
    t.ports = s.ports ∧
    (∀ ix e c, s.entry? ix = some e → e.challenge = some c → loopOf c.port = l →
      t.entry? ix = some { e with
        challenge := none, state := if e.state = .challenged then .unbound else .admitted }) ∧
    (∀ ix e, s.entry? ix = some e → (∀ c, e.challenge = some c → loopOf c.port ≠ l) → t.entry? ix = some e)) ∧
  (∀ (l : LoopNo) (s : State), (s.loop l).state = .fault →
    exec (.loopRestore l) s =
      .next ((s.putLoop l { s.loop l with state := .idleCycle }).raise ⟨.loopRestored, l.val, []⟩))

/-! ## Admission -/

/-- REGISTER denied by the entry: UNKNOWN for a number no entry holds, LOCKED for a LOCKED entry, WRONG_PORT away from
the home port, where the failure is counted and locks at the threshold. REGISTER denied by the port or by a challenge:
BUSY at a port in use, by the entry itself or by another, and while the entry's challenge is out at another port;
IN_CALL_ELSEWHERE for an entry whose old port is in use. -/
def Obligations.RegisterIsDenied : Prop :=
  (∀ (p : Port) (number : List Digit) (s : State), s.blockArrives p (.register number) → s.challengeAt p = none →
     ((∀ ix e, s.entry? ix = some e → e.number ≠ number) →
       exec (.register p number) s = .next (s.blockTaken.denied p .unknown [1, 255, 255])) ∧
     (∀ x e, s.onlyHolder x e number → e.state = .locked →
       exec (.register p number) s = .next (s.blockTaken.denied p .locked (2 :: numWord x.val))) ∧
     (∀ x e h, s.onlyHolder x e number → e.state ≠ .locked → e.home = some h → h ≠ p →
       e.liveCall ≠ none ∨ min 15 (e.failures + 1) < (s.classes.get e.cls).threshold →
       exec (.register p number) s = .next ((s.blockTaken.denied p .wrongPort (3 :: numWord x.val)).putEntry x
         (some { e with failures := min 15 (e.failures + 1) }))) ∧
     (∀ x e h, s.onlyHolder x e number → e.state ≠ .locked → e.home = some h → h ≠ p → e.liveCall = none →
       (s.classes.get e.cls).threshold ≤ min 15 (e.failures + 1) →
       exec (.register p number) s = .next (((s.blockTaken.denied p .wrongPort (3 :: numWord x.val)).putEntry x
         (some { e with failures := min 15 (e.failures + 1) })).lockOut x))) ∧
  (∀ (p : Port) (number : List Digit) (x : ExtIx) (e : Entry) (s : State), s.blockArrives p (.register number) →
     s.onlyHolder x e number → s.wayClear p x → e.state ≠ .locked → e.home = none ∨ e.home = some p →
     (e.state = .admitted → e.bound = some p → (s.port p).bound = some x → (s.port p).dial ≠ .idle →
       exec (.register p number) s = .next (s.blockTaken.denied p .busy (6 :: numWord x.val))) ∧
     (∀ y, (s.port p).bound = some y → y ≠ x → (s.port p).dial ≠ .idle →
       exec (.register p number) s = .next (s.blockTaken.denied p .busy (6 :: numWord x.val))) ∧
     (∀ c, (s.port p).bound = none ∨ (s.port p).bound = some x → e.state = .challenged ∨ e.state = .moving →
       e.challenge = some c → c.port ≠ p →
       exec (.register p number) s = .next (s.blockTaken.denied p .busy (6 :: numWord x.val))) ∧
     (∀ q, (s.port p).bound = none → e.state = .admitted → e.bound = some q → q ≠ p →
       e.liveCall ≠ none ∨ (s.port q).dial ≠ .idle →
       exec (.register p number) s = .next (s.blockTaken.denied p .inCallElsewhere (7 :: numWord x.val))))

/-- A challenge pending at the port for another entry is abandoned first: the entry returns to the state before it and
its CHALLENGE is withdrawn, here with the named number held by no entry. REGISTER at a free port issues a challenge
with the next nonce: to an UNBOUND entry, and anew to a CHALLENGED or a MOVING one whose challenge is at the port, its
older CHALLENGE withdrawn; a MOVING entry stays MOVING. A REGISTER at a port where another entry's challenge is
pending first abandons that challenge, whatever its own outcome: the entry returns to the state before it, its
CHALLENGE is withdrawn, and the REGISTER then does what it does without it. -/
def Obligations.RegisterIssuesAChallenge : Prop :=
  (∀ (p : Port) (number : List Digit) (y : ExtIx) (d : Entry) (c : Challenge) (s : State),
     s.blockArrives p (.register number) → (∀ ix e, s.entry? ix = some e → e.number ≠ number) →
     s.challengeAt p = some y → s.entry? y = some d → d.challenge = some c → d.state = .challenged ∨ d.state = .moving →
     exec (.register p number) s = .next (((s.blockTaken.withdraw p c.nonce).putEntry y (some { d with
       challenge := none, state := if d.state = .challenged then .unbound else .admitted })).denied p .unknown
         [1, 255, 255])) ∧
  (∀ (p : Port) (number : List Digit) (x : ExtIx) (e : Entry) (s : State), s.blockArrives p (.register number) →
     s.onlyHolder x e number → s.wayClear p x → e.home = none ∨ e.home = some p → (s.port p).bound = none →
     (e.state = .unbound → e.challenge = none →
       exec (.register p number) s = .next (s.blockTaken.challenged p x e .challenged)) ∧
     (∀ c, e.state = .challenged → e.challenge = some c → c.port = p →
       exec (.register p number) s = .next ((s.blockTaken.withdraw p c.nonce).challenged p x e .challenged)) ∧
     (∀ c, e.state = .moving → e.challenge = some c → c.port = p →
       exec (.register p number) s = .next ((s.blockTaken.withdraw p c.nonce).challenged p x e .moving))) ∧
  (∀ (p : Port) (number : List Digit) (y : ExtIx) (d : Entry) (c : Challenge) (s : State), s.wired →
     s.blockArrives p (.register number) → s.entry? y = some d → d.challenge = some c → c.port = p → d.number ≠ number →
     exec (.register p number) s = exec (.register p number) ((s.withdraw p c.nonce).putEntry y (some { d with
       challenge := none, state := if d.state = .challenged then .unbound else .admitted })))

/-- REGISTER by an ADMITTED entry: at its own idle port it is released and challenged afresh; at another port, its own
port idle and no call live, it becomes MOVING, keeps its binding and is challenged there. Port takeover: at an idle
port bound to another extension Y, Y is released with LAPSED TAKEOVER and no notice, and the registering entry is
challenged. A takeover for an entry in any state but LOCKED, at its home port if it has one: the release of Y with
LAPSED TAKEOVER comes first and stands, and the REGISTER then does what it does at the port so left free, a denial
included. -/
def Obligations.RegisterAgainMovesOrTakesOver : Prop :=
  (∀ (p : Port) (number : List Digit) (x : ExtIx) (e : Entry) (s : State), s.blockArrives p (.register number) →
     s.onlyHolder x e number → s.wayClear p x → e.home = none ∨ e.home = some p → e.state = .admitted →
     e.challenge = none →
     (e.bound = some p → (s.port p).bound = some x → (s.port p).dial = .idle →
       exec (.register p number) s = .next
         ((s.blockTaken.putPort p { s.port p with bound := none }).challenged p x
           { e with bound := none, refresh := none, refreshDue := false, overdue := none } .challenged)) ∧
     (∀ q, e.bound = some q → q ≠ p → (s.port p).bound = none → e.liveCall = none → (s.port q).dial = .idle →
       exec (.register p number) s = .next (s.blockTaken.challenged p x e .moving))) ∧
  (∀ (p : Port) (number : List Digit) (x y : ExtIx) (e d : Entry) (s : State), s.blockArrives p (.register number) →
     s.onlyHolder x e number → s.wayClear p x → e.home = none ∨ e.home = some p → e.state = .unbound →
     e.challenge = none → y ≠ x → (s.port p).bound = some y → s.entry? y = some d → d.bound = some p →
     d.state = .admitted ∨ d.state = .moving → (s.port p).dial = .idle →
     exec (.register p number) s = .next
       ((((s.blockTaken.putEntry y (some { d with
         bound := none, refresh := none, refreshDue := false, overdue := none
         state := if d.state = .admitted then .unbound else .challenged })).putPort p
           { s.port p with bound := none }).raise ⟨.lapsed, y.val, numWord p.val ++ [3]⟩).challenged p x e .challenged)) ∧
  (∀ (p : Port) (number : List Digit) (x y : ExtIx) (e d : Entry) (s : State), s.blockArrives p (.register number) →
     s.onlyHolder x e number → s.wayClear p x → e.state ≠ .locked → e.home = none ∨ e.home = some p → y ≠ x →
     (s.port p).bound = some y → s.entry? y = some d → d.bound = some p → d.state = .admitted ∨ d.state = .moving →
     (s.port p).dial = .idle →
     exec (.register p number) s = exec (.register p number)
       (((s.putEntry y (some { d with
         bound := none, refresh := none, refreshDue := false, overdue := none
         state := if d.state = .admitted then .unbound else .challenged })).putPort p
           { s.port p with bound := none }).raise ⟨.lapsed, y.val, numWord p.val ++ [3]⟩))

/-- A matching ANSWER admits: the entry and the port are bound to each other, the count of failures is 0, the refresh
is loaded, ADMIT and ADMITTED follow; a MOVING entry first leaves its old port, with NOTICE MOVED and MOVED. -/
def Obligations.MatchingAnswerAdmits : Prop :=
  ∀ (p : Port) (x : ExtIx) (e : Entry) (c : Challenge) (response : Long) (interval : Nat) (s : State),
    s.blockArrives p (.answer response) → s.challengeAt p = some x → s.entry? x = some e → e.challenge = some c →
    c.remaining ≠ none → response = longOf (mix c.nonce e.secret) (mix (c.nonce + 1) e.secret) →
    interval = (s.classes.get e.cls).refreshInterval →
    (e.state = .challenged →
      exec (.answer p response) s = .next ((((s.blockTaken.putEntry x (some { e with
          failures := 0, challenge := none, state := .admitted, bound := some p, refresh := some interval
          refreshDue := false, overdue := none })).putPort p { s.port p with bound := some x }).offer p
            (.admission interval)).raise ⟨.admitted, x.val, numWord p.val⟩)) ∧
    (∀ q, e.state = .moving → e.bound = some q → q ≠ p → (s.port q).dial = .idle →
      exec (.answer p response) s = .next (((((((s.blockTaken.putEntry x (some { e with
          failures := 0, challenge := none, bound := none, refresh := none, refreshDue := false
          overdue := none })).putPort q { s.port q with bound := none }).offer q (.notice .moved)).putEntry x
            (some { e with
              failures := 0, challenge := none, state := .admitted, bound := some p, refresh := some interval
              refreshDue := false, overdue := none })).putPort p { s.port p with bound := some x }).offer p
                (.admission interval)).raise ⟨.moved, x.val, numWord q.val ++ numWord p.val⟩ |>.raise
                  ⟨.admitted, x.val, numWord p.val⟩))

/-- An ANSWER at a port without a challenge, or to one not yet sent, is denied NO_CHALLENGE and counts nothing. A
wrong ANSWER and an answer time run out end the challenge with DENY BAD_ANSWER (4) or TIMEOUT (5): the entry returns
to the state before it, the failure is counted, and at the threshold the entry is locked. -/
def Obligations.FailedAnswersCountFailures : Prop :=
  (∀ (p : Port) (response : Long) (s : State), s.blockArrives p (.answer response) →
     (s.challengeAt p = none →
       exec (.answer p response) s = .next (s.blockTaken.denied p .noChallenge [8, 255, 255])) ∧
     (∀ x e c, s.challengeAt p = some x → s.entry? x = some e → e.challenge = some c → c.remaining = none →
       exec (.answer p response) s = .next (s.blockTaken.denied p .noChallenge [8, 255, 255]))) ∧
  (∀ (p : Port) (x : ExtIx) (e : Entry) (c : Challenge) (n : Nat) (s : State), s.wired → s.challengeAt p = some x →
     s.entry? x = some e → e.challenge = some c → (s.port p).presence = .present → n = min 15 (e.failures + 1) →
     (∀ response, s.blockArrives p (.answer response) → c.remaining ≠ none →
       response ≠ longOf (mix c.nonce e.secret) (mix (c.nonce + 1) e.secret) →
       ∃ t, t = ((s.blockTaken.putEntry x (some { e with challenge := none })).denied p .badAnswer
           (4 :: numWord x.val)).putEntry x (some { e with
             challenge := none, failures := n, state := if e.state = .challenged then .unbound else .admitted }) ∧
         exec (.answer p response) s =
           .next (if n < (s.classes.get e.cls).threshold then t else t.lockOut x)) ∧
     (c.remaining = some 0 →
       ∃ t, t = ((s.putEntry x (some { e with challenge := none })).denied p .timeout (5 :: numWord x.val)).putEntry x
           (some { e with
             challenge := none, failures := n, state := if e.state = .challenged then .unbound else .admitted }) ∧
         exec (.answerTimeExpiry x) s =
           .next (if n < (s.classes.get e.cls).threshold then t else t.lockOut x)))

/-- CHECK-IN reloads the refresh of an ADMITTED entry and clears Overdue unless its home port is another; it is denied
NOT_ADMITTED at an unbound port and for a MOVING entry (whose index the denial names: assumption 24). A refresh that
has run out starts the lapse procedure with cause REFRESH, once. -/
def Obligations.CheckInReloadsAndRefreshExpiryLapses : Prop :=
  (∀ (p : Port) (s : State), s.blockArrives p .checkIn →
     ((s.port p).bound = none → exec (.checkIn p) s = .next (s.blockTaken.denied p .notAdmitted [9, 255, 255])) ∧
     (∀ x e, (s.port p).bound = some x → s.entry? x = some e → e.state = .moving →
       exec (.checkIn p) s = .next (s.blockTaken.denied p .notAdmitted (9 :: numWord x.val))) ∧
     (∀ x e, (s.port p).bound = some x → s.entry? x = some e → e.state = .admitted →
       exec (.checkIn p) s = .next (s.blockTaken.putEntry x (some { e with
         refresh := some (s.classes.get e.cls).refreshInterval, refreshDue := false
         overdue := if e.home = none ∨ e.home = some p then none else e.overdue })))) ∧
  (∀ (x : ExtIx) (e : Entry) (s : State), s.entry? x = some e → e.refreshDue = true →
     exec (.refreshExpiry x) s = .next ((s.putEntry x (some { e with refreshDue := false })).lapse x .refresh))

/-! ## Dialling and screening -/

/-- OFF-HOOK sets the hook OFF; at an IDLE port it starts dialling for an ADMITTED extension and is denied otherwise;
at an ALERTED port it answers the call; in any other dial state it does nothing more. ON-HOOK sets the hook ON; it
abandons a dialling attempt, ends BLOCKED, reports HUNG UP in WAITING and IN_CALL, and does nothing more in IDLE and
ALERTED. -/
def Obligations.OffHookAndOnHookByDialState : Prop :=
  (∀ (p : Port) (s : State), s.blockArrives p .offHook →
     (∀ x e, (s.port p).dial = .idle → (s.port p).bound = some x → s.entry? x = some e → e.state = .admitted →
       exec (.offHook p) s = .next (s.blockTaken.putPort p { s.port p with
         hook := .off, dial := .dialling, buffer := [], interdigit := some s.interdigitLimit })) ∧
     (∀ x e, (s.port p).dial = .idle → (s.port p).bound = some x → s.entry? x = some e → e.state = .moving →
       exec (.offHook p) s =
         .next ((s.blockTaken.putPort p { s.port p with hook := .off }).denied p .moving (10 :: numWord x.val))) ∧
     ((s.port p).dial = .idle → (s.port p).bound = none →
       exec (.offHook p) s =
         .next ((s.blockTaken.putPort p { s.port p with hook := .off }).denied p .notAdmitted [9, 255, 255])) ∧
     (∀ id, (s.port p).dial = .alerted → (s.port p).call = some id →
       exec (.offHook p) s = .next ((s.blockTaken.putPort p { s.port p with hook := .off, dial := .inCall }).raise
         ⟨.answered, id.toNat, numWord p.val⟩)) ∧
     ((s.port p).dial ≠ .idle → (s.port p).dial ≠ .alerted →
       exec (.offHook p) s = .next (s.blockTaken.putPort p { s.port p with hook := .off }))) ∧
  (∀ (p : Port) (s : State), s.blockArrives p .onHook →
     ((s.port p).dial = .idle ∨ (s.port p).dial = .alerted →
       exec (.onHook p) s = .next (s.blockTaken.putPort p { s.port p with hook := .on })) ∧
     ((s.port p).dial = .dialling → exec (.onHook p) s = .next (s.blockTaken.putPort p { s.port p with
       hook := .on, dial := .idle, buffer := [], interdigit := none })) ∧
     ((s.port p).dial = .blocked →
       exec (.onHook p) s = .next (s.blockTaken.putPort p { s.port p with hook := .on, dial := .idle })) ∧
     (∀ id, (s.port p).dial = .waiting ∨ (s.port p).dial = .inCall → (s.port p).call = some id →
       exec (.onHook p) s = .next ((s.blockTaken.putPort p { s.port p with hook := .on }).raise
         ⟨.hungUp, id.toNat, numWord p.val⟩)))

/-- DIGITS at a DIALLING port: the timer is reloaded and the codes are collected, up to 24; the END flag or a full
buffer starts the evaluation; in another dial state the block is discarded. An interdigit time run out evaluates the
digits dialled, and without any blocks the port with NOTICE DIAL_TIMEOUT; the count waits at 0 for the expiry, the
model's reading (assumption 4). -/
def Obligations.DigitsAreCollectedAndEvaluated : Prop :=
  (∀ (p : Port) (endFlag : Bool) (codes : List Digit) (s dialled : State), s.blockArrives p (.digits endFlag codes) →
     dialled = s.blockTaken.putPort p { s.port p with
       buffer := ((s.port p).buffer ++ codes).take 24, interdigit := some s.interdigitLimit } →
     ((s.port p).dial = .dialling → endFlag = false → (s.port p).buffer.length + codes.length < 24 →
       exec (.digits p endFlag codes) s = .next dialled) ∧
     ((s.port p).dial = .dialling → endFlag = true ∨ 24 ≤ (s.port p).buffer.length + codes.length →
       exec (.digits p endFlag codes) s = .next (dialled.evaluate p (((s.port p).buffer ++ codes).take 24))) ∧
     ((s.port p).dial ≠ .dialling → exec (.digits p endFlag codes) s = .next s.blockTaken)) ∧
  (∀ (p : Port) (s : State), (s.port p).dial = .dialling → (s.port p).interdigit = some 0 →
     ((s.port p).buffer = [] → exec (.interdigitExpiry p) s = .next ((s.offer p (.notice .dialTimeout)).putPort p
       { s.port p with dial := .blocked, buffer := [], interdigit := none })) ∧
     ((s.port p).buffer ≠ [] → exec (.interdigitExpiry p) s =
       .next ((s.putPort p { s.port p with interdigit := none }).evaluate p (s.port p).buffer)))

/-- What an evaluation does: BAR blocks the port with NOTICE BARRED and CALL BARRED; any other verdict creates a
REQUESTED call with the next free id, or, with the call table full, blocks the port with NOTICE CONGESTION and
CONGESTED. That the call takes the lowest free entry is the model's choice (assumption 12), and that length and digits
are one list in the reports is its reading (assumption 13). The id of the next call is the first one, upwards from the
one above Next-Id Position and from 255 to 1, that no call holds, as long as the call table has a free entry. -/
def Obligations.EvaluationBarsOrRequestsAFreshCall : Prop :=
  (∀ (p : Port) (ds : List Digit) (x : ExtIx) (e : Entry) (v : Verdict) (deciding : Option ScreenNo) (s : State),
     (s.port p).bound = some x → s.entry? x = some e → deciding = decidingScreen s.screens e.cls ds →
     v = (match deciding with
       | some n => (s.screens.get n).verdict
       | none => (s.classes.get e.cls).defaultVerdict) →
     (v = .bar → s.evaluate p ds = ((s.offer p (.notice .barred)).putPort p { s.port p with
       dial := .blocked, buffer := [], interdigit := none }).raise ⟨.callBarred, p.val,
         numWord x.val ++ (deciding.elim 255 (fun n => BitVec.ofNat 8 n.val)) :: digitOctets ds⟩) ∧
     (v ≠ .bar → (∀ i, s.calls.get i ≠ none) →
       s.evaluate p ds = ((s.offer p (.notice .congestion)).putPort p { s.port p with
         dial := .blocked, buffer := [], interdigit := none }).raise ⟨.congested, p.val,
           numWord x.val ++ v.octet :: digitOctets ds⟩) ∧
     (∀ i id, v ≠ .bar → s.calls.get i = none → (∀ j, j < i → s.calls.get j ≠ none) → s.freshId = id →
       s.evaluate p ds = ((({ s with
         calls := s.calls.set i (some ⟨id, .requested, .station, p, x, ds, v, [], [], 0, none⟩), nextId := id }.putEntry x
           (some { e with liveCall := some id })).putPort p { s.port p with
             call := some id, dial := .waiting, buffer := [], interdigit := none }).raise ⟨.callRequest, id.toNat,
               numWord p.val ++ numWord x.val ++ v.octet :: (deciding.elim 255 (fun n => BitVec.ofNat 8 n.val)) ::
                 digitOctets ds⟩))) ∧
  (∀ (s : State) (i : Fin 128), s.calls.get i = none →
     s.freshId ≠ 0 ∧ s.call? s.freshId = none ∧
       ∃ k : Nat, s.freshId = (nextCallId^[k + 1]) s.nextId ∧ k < 128 ∧
         ∀ j, j < k → s.call? ((nextCallId^[j + 1]) s.nextId) ≠ none)

/-- The deciding screen is the first screen of the first group whose members all hit and none of which is inert; a
screen hits plainly when the dialled length is in its range and every pattern position matches from its offset on; it
is inert when disabled or when its set omits the class; and Inverse turns the plain result. The verdict is the
deciding screen's, and the class's default without one. -/
def Obligations.DecidingScreenIsTheFirstGroupThatHits : Prop :=
  (∀ (t : Table ScreenRec 24) (cls : ClassNo) (ds : List Digit) (n : ScreenNo),
    decidingScreen t cls ds = some n ↔ groupStart t n ∧ groupHits t cls ds n ∧
      ∀ m, m < n → groupStart t m → ¬ groupHits t cls ds m) ∧
  (∀ (r : ScreenRec) (ds : List Digit), r.plainHit ds = true ↔
    r.minLength ≤ ds.length ∧ ds.length ≤ r.maxLength ∧
      ∀ i d, r.pattern[i]? = some d → ∃ k, ds[r.offset + i]? = some k ∧ (d = none ∨ d = some k)) ∧
  (∀ (r : ScreenRec) (cls : ClassNo) (ds : List Digit),
    (r.inert cls = true ↔ r.enabled = false ∨ r.classSet.get cls = false) ∧
      (r.hit ds = true ↔ (r.plainHit ds = true ↔ r.inverse = false))) ∧
  (∀ (s : State) (cls : ClassNo) (ds : List Digit),
    (∀ n, decidingScreen s.screens cls ds = some n → s.verdict cls ds = (s.screens.get n).verdict) ∧
      (decidingScreen s.screens cls ds = none → s.verdict cls ds = (s.classes.get cls).defaultVerdict))

/-! ## Calls -/

/-- OPEN CALL: its checks in order, and the OFFERED call of origin TRUNK with its port ALERTED and NOTICE ALERT; the
reply carries the call's id. That the call takes the lowest free entry is the model's choice (assumption 12). -/
def Obligations.OpenCallOffersACall : Prop :=
  ∀ (tag verdict : Byte) (index : Word) (f : Frame) (s : State), f = ⟨40, tag, wordOctets index ++ [verdict]⟩ →
    s.takes f = true →
    (319 < index.toNat ∨ verdict = 0 ∨ 4 ≤ verdict.toNat →
      exec (.openCall tag index verdict) s = .next (s.replied f .badRequest [])) ∧
    (∀ (ix : ExtIx) (v : Verdict), ix.val = index.toNat → v.octet = verdict → v ≠ .bar →
      (s.entry? ix = none → exec (.openCall tag index verdict) s = .next (s.replied f .noSuch [])) ∧
      (∀ e, s.entry? ix = some e → e.state = .moving →
        exec (.openCall tag index verdict) s = .next (s.replied f .busy [])) ∧
      (∀ e, s.entry? ix = some e → e.state = .unbound ∨ e.state = .challenged ∨ e.state = .locked →
        exec (.openCall tag index verdict) s = .next (s.replied f .notAdmitted [])) ∧
      (∀ e q, s.entry? ix = some e → e.state = .admitted → e.bound = some q → (s.port q).dial ≠ .idle →
        exec (.openCall tag index verdict) s = .next (s.replied f .busy [])) ∧
      (∀ e q, s.entry? ix = some e → e.state = .admitted → e.bound = some q → (s.port q).dial = .idle →
        (∀ i, s.calls.get i ≠ none) → exec (.openCall tag index verdict) s = .next (s.replied f .full [])) ∧
      (∀ e q i id, s.entry? ix = some e → e.state = .admitted → e.bound = some q → (s.port q).dial = .idle →
        s.calls.get i = none → (∀ j, j < i → s.calls.get j ≠ none) → s.freshId = id →
        exec (.openCall tag index verdict) s = .next (((({ s with
          calls := s.calls.set i (some ⟨id, .offered, .trunk, q, ix, [], v, [], [], 0, none⟩)
          nextId := id }.putEntry ix (some { e with liveCall := some id })).putPort q { s.port q with
            call := some id, dial := .alerted }).offer q (.notice .alert)).replied f .done [id])))

/-- The checks of CONNECT CALL in order: NO_SUCH, STATE, BAD_REQUEST for a body of bad form, POLICY, NO_KEY, SLOT_BUSY
and FULL; the first that fails gives the reply, and nothing changes. The form of a CONNECT CALL body: 1 to 4 paths and
at most 2 contexts, slots from 0 to 191, known codes, references to contexts of the body, held slots from 0 to 31, at
most one STATION context, and every context named by exactly one SCRAMBLE and one DESCRAMBLE path. The plans of a
CONNECT CALL body of good form are its specifications, one for one: destination, source, transform with its reference;
far end with held slot and salt, mode, B and L. -/
def Obligations.ConnectCallChecksInOrder : Prop :=
  (∀ (tag : Byte) (b : ConnectBody) (f : Frame) (s : State), f = ⟨41, tag, b.octets⟩ → s.takes f = true →
     (s.call? b.call = none → exec (.connectCall tag b) s = .next (s.replied f .noSuch [])) ∧
     (∀ c, s.call? b.call = some c → c.state ≠ .requested → c.state ≠ .offered →
       exec (.connectCall tag b) s = .next (s.replied f .state [])) ∧
     (∀ c, s.call? b.call = some c → c.state = .requested ∨ c.state = .offered →
       (connectPlans? b = none → exec (.connectCall tag b) s = .next (s.replied f .badRequest [])) ∧
       (∀ paths ctxs, connectPlans? b = some (paths, ctxs) →
         ((c.verdict = .clear ∧ ctxs ≠ []) ∨ (c.verdict = .scramble ∧ ctxs = []) ∨
           ((∃ x ∈ ctxs, x.far = .station) ∧ ∀ e, s.entry? c.ext = some e → e.secure = false) →
           exec (.connectCall tag b) s = .next (s.replied f .policy [])) ∧
         (¬ ((c.verdict = .clear ∧ ctxs ≠ []) ∨ (c.verdict = .scramble ∧ ctxs = []) ∨
             ((∃ x ∈ ctxs, x.far = .station) ∧ ∀ e, s.entry? c.ext = some e → e.secure = false)) →
           ((∃ x ∈ ctxs, ∃ slot salt, x.far = .trunk slot salt ∧ s.heldKeys.get slot = none) →
             exec (.connectCall tag b) s = .next (s.replied f .noKey [])) ∧
           ((∀ x ∈ ctxs, ∀ slot salt, x.far = .trunk slot salt → s.heldKeys.get slot ≠ none) →
             (¬ (paths.map PathPlan.dest).Nodup ∨
                 (∃ p ∈ paths, ∃ q, s.connections.get p.dest = some q ∧ q.owner ≠ c.id) →
               exec (.connectCall tag b) s = .next (s.replied f .slotBusy [])) ∧
             ((paths.map PathPlan.dest).Nodup →
               (∀ p ∈ paths, ∀ q, s.connections.get p.dest = some q → q.owner = c.id) →
               ((List.finRange 96).filter (fun x => decide ((s.context x).state = .free))).length < ctxs.length ∨
                 16 < s.waitQueue.length + ctxs.countP (fun x => decide (x.far = .station)) →
               exec (.connectCall tag b) s = .next (s.replied f .full []))))))) ∧
  (∀ b : ConnectBody, (∃ plans, connectPlans? b = some plans) ↔
     ((1 ≤ b.paths.length ∧ b.paths.length ≤ 4 ∧ b.contexts.length ≤ 2) ∧
     (∀ p ∈ b.paths, p.dest.toNat < 192 ∧ p.source.toNat < 192 ∧ p.transform.toNat < 4 ∧
       (p.transform = 2 ∨ p.transform = 3 → p.ctxRef.toNat < b.contexts.length)) ∧
     (∀ x ∈ b.contexts, x.mode.toNat < 2 ∧ x.farEnd.toNat < 2 ∧ (x.farEnd = 1 → x.heldSlot.toNat < 32)) ∧
     b.contexts.countP (fun x => decide (x.farEnd = 0)) ≤ 1 ∧
     (∀ i, i < b.contexts.length →
       b.paths.countP (fun p => decide (p.transform = 2 ∧ p.ctxRef.toNat = i)) = 1 ∧
       b.paths.countP (fun p => decide (p.transform = 3 ∧ p.ctxRef.toNat = i)) = 1))) ∧
  (∀ (b : ConnectBody) (paths : List PathPlan) (ctxs : List CtxPlan), connectPlans? b = some (paths, ctxs) →
     (paths.length = b.paths.length ∧ ctxs.length = b.contexts.length) ∧
     (∀ (k : Nat) (spec : PathSpec) (plan : PathPlan), b.paths[k]? = some spec → paths[k]? = some plan →
       plan.dest.val = spec.dest.toNat ∧ plan.source.val = spec.source.toNat ∧
       plan.transform = (if spec.transform = 0 then .pass else if spec.transform = 1 then .mute
         else if spec.transform = 2 then .scramble spec.ctxRef.toNat else .descramble spec.ctxRef.toNat)) ∧
     (∀ (k : Nat) (spec : CtxSpec) (plan : CtxPlan), b.contexts[k]? = some spec → ctxs[k]? = some plan →
       plan.mode.octet = spec.mode ∧ plan.interval = spec.interval.toNat ∧ plan.loss = spec.loss.toNat ∧
       (spec.farEnd = 0 → plan.far = .station) ∧
       (spec.farEnd = 1 → ∃ slot : HeldSlot, slot.val = spec.heldSlot.toNat ∧ plan.far = .trunk slot spec.salt)))

/-- A call connected in clear: each PASS or MUTE path is installed for the call, the call is CONNECTED with time 0,
its port IN_CALL, and the reply DONE is held back. A call connected over one context: the lowest FREE context takes
the call, B and L adjusted. A TRUNK context is keyed at once from its held slot and salt, and the call is CONNECTED; a
STATION context waits at the tail of the queue while the supplier is STOPPED, and the call is CONNECTING. Every
accepted CONNECT CALL, whatever its contexts and the supplier: the lowest FREE contexts are the call's, in order; the
call is CONNECTING while one of them still waits for a key and CONNECTED otherwise; its paths stand in connection
memory, each reference as the context allocated for it; its port is IN_CALL and its reply is held back. A STATION
context whose CONNECT CALL finds a supplier not STOPPED and an empty queue is served within the request: with a key at
the draw pointer it is keyed as a pass keys it, CALL KEY is offered, the supplier is RUNNING and the call CONNECTED
without a report of its own; without one it waits, the supplier is SUSPENDED with KEYS SHORT and the call CONNECTING;
that the draw pointer in the detail of KEYS SHORT is one octet is the model's reading (assumption 13). An accepted
CONNECT CALL step by step: its contexts are set up, TRUNK ones keyed at once from their held slots and salts, and its
paths installed; a STATION context joins the tail of the wait queue and, the supplier not STOPPED, a serving pass
follows, which serves the contexts ahead of it first; then the call is CONNECTED, or CONNECTING while a context of it
waits. The reply is DONE when every B and L was kept, ADJUSTED otherwise. -/
def Obligations.ConnectCallInstallsPathsAndContexts : Prop :=
  (∀ (tag : Byte) (b : ConnectBody) (f : Frame) (c : Call) (i : Fin 128) (paths : List PathPlan) (s : State),
     f = ⟨41, tag, b.octets⟩ → s.takes f = true → s.wired → s.calls.get i = some c → c.id = b.call →
     c.state = .requested ∨ c.state = .offered → connectPlans? b = some (paths, []) →
     s.connectRefusal c paths [] = none →
     ∃ connections : Table (Option Path) 192,
       (∀ p ∈ paths, connections.get p.dest =
         some ⟨p.source, if p.transform = .pass then .pass else .mute, c.id⟩) ∧
       (∀ d, (∀ p ∈ paths, p.dest ≠ d) → connections.get d = s.connections.get d) ∧
       exec (.connectCall tag b) s = .next (({ s with
         connections := connections
         calls := s.calls.set i (some { c with
           state := .connected, connectedTime := some 0, paths := paths.map PathPlan.dest, contexts := []
           requested := 0 }) }.putPort c.port { s.port c.port with dial := .inCall }).heldBack f .done [])) ∧
  (∀ (tag : Byte) (b : ConnectBody) (f : Frame) (c : Call) (i : Fin 128) (paths : List PathPlan) (x : CtxPlan)
     (id : CtxId) (e : Entry) (cfg : CtxConfig) (connections : Table (Option Path) 192) (s : State),
     f = ⟨41, tag, b.octets⟩ → s.takes f = true → s.wired → s.calls.get i = some c → c.id = b.call →
     c.state = .requested ∨ c.state = .offered → connectPlans? b = some (paths, [x]) →
     s.connectRefusal c paths [x] = none → s.entry? c.ext = some e → (s.context id).state = .free →
     (∀ j, j < id → (s.context j).state ≠ .free) →
     cfg = ⟨x.far.farEnd, x.mode,
       if x.interval < 512 then .b256 else if x.interval < 1024 then .b512 else if x.interval < 2048 then .b1024
         else .b2048, max 2 (min 16 x.loss)⟩ →
     (∀ p ∈ paths, connections.get p.dest = some ⟨p.source,
       (match p.transform with
         | .pass => Transform.pass
         | .mute => Transform.mute
         | .scramble _ => Transform.scramble id
         | .descramble _ => Transform.descramble id), c.id⟩) →
     (∀ d, (∀ p ∈ paths, p.dest ≠ d) → connections.get d = s.connections.get d) →
     ∃ code : Code, (code = .done ↔ (x.interval = 256 ∨ x.interval = 512 ∨ x.interval = 1024 ∨ x.interval = 2048) ∧
         2 ≤ x.loss ∧ x.loss ≤ 16) ∧ (code = .done ∨ code = .adjusted) ∧
       (∀ slot salt held key, x.far = .trunk slot salt → s.heldKeys.get slot = some held →
         key = ⟨mix salt held, mix (salt + 1) held, mix (salt + 2) held, mix (salt + 3) held⟩ →
         exec (.connectCall tag b) s = .next ((({ s with
           connections := connections
           calls := s.calls.set i (some { c with
             state := .connected, connectedTime := some 0, paths := paths.map PathPlan.dest, contexts := [id]
             requested := 1 }) }.putContext id ⟨.active, some c.id, some cfg, some (.heldSlot slot salt), key,
               some ⟨0, key, 0, [], none⟩,
               some ⟨.hunt, true, 0, 0, key, none, 0, .none, Table.replicate 8 none, none, [], false⟩⟩).putPort c.port
                 { s.port c.port with dial := .inCall }).heldBack f code [])) ∧
       (x.far = .station → s.supplier = .stopped →
         exec (.connectCall tag b) s = .next ((({ s with
           connections := connections
           waitQueue := s.waitQueue ++ [WaitItem.mk id (s.classes.get e.cls).keyWaitLimit]
           calls := s.calls.set i (some { c with
             state := .connecting, paths := paths.map PathPlan.dest, contexts := [id]
             requested := 1 }) }.putContext id ⟨.keyWait, some c.id, some cfg, none, ⟨0, 0, 0, 0⟩, none, none⟩).putPort
               c.port { s.port c.port with dial := .inCall }).heldBack f code []))) ∧
  (∀ (tag : Byte) (b : ConnectBody) (f : Frame) (c : Call) (i : Fin 128) (paths : List PathPlan) (ctxs : List CtxPlan)
     (s : State), f = ⟨41, tag, b.octets⟩ → s.takes f = true → s.wired → s.calls.get i = some c → c.id = b.call →
     c.state = .requested ∨ c.state = .offered → connectPlans? b = some (paths, ctxs) →
     s.connectRefusal c paths ctxs = none →
     ∃ (t : State) (k : Call) (code : Code), exec (.connectCall tag b) s = .next (t.heldBack f code []) ∧
       (code = .done ∨ code = .adjusted) ∧ t.calls.get i = some k ∧
       k.contexts = ((List.finRange 96).filter (fun x => decide ((s.context x).state = .free))).take ctxs.length ∧
       (k.id, k.paths, k.requested) = (c.id, paths.map PathPlan.dest, ctxs.length) ∧
       ((∃ x ∈ k.contexts, (t.context x).state = .keyWait) → k.state = .connecting) ∧
       ((∀ x ∈ k.contexts, (t.context x).state ≠ .keyWait) → k.state = .connected ∧ k.connectedTime = some 0) ∧
       (∀ x ∈ k.contexts, (t.context x).call = some c.id ∧ (t.context x).state ≠ .free) ∧
       (∀ (j : Nat) (x : CtxId) (plan : CtxPlan), k.contexts[j]? = some x → ctxs[j]? = some plan →
         ∃ cfg, (t.context x).config = some cfg ∧
         cfg.farEnd = plan.far.farEnd ∧ cfg.mode = plan.mode ∧ cfg.loss = max 2 (min 16 plan.loss) ∧
         cfg.interval = (if plan.interval < 512 then .b256 else if plan.interval < 1024 then .b512
           else if plan.interval < 2048 then .b1024 else .b2048)) ∧
       (∀ p ∈ paths, ∃ transform, t.connections.get p.dest = some ⟨p.source, transform, c.id⟩ ∧
         (p.transform = .pass → transform = .pass) ∧ (p.transform = .mute → transform = .mute) ∧
         (∀ j, p.transform = .scramble j → ∃ x, k.contexts[j]? = some x ∧ transform = .scramble x) ∧
         (∀ j, p.transform = .descramble j → ∃ x, k.contexts[j]? = some x ∧ transform = .descramble x)) ∧
       (∀ d, (∀ p ∈ paths, p.dest ≠ d) → t.connections.get d = s.connections.get d) ∧
       (t.port c.port).dial = .inCall) ∧
  (∀ (tag : Byte) (b : ConnectBody) (f : Frame) (c : Call) (i : Fin 128) (paths : List PathPlan) (x : CtxPlan)
     (id : CtxId) (e : Entry) (cfg : CtxConfig) (connections : Table (Option Path) 192) (s : State),
     f = ⟨41, tag, b.octets⟩ → s.takes f = true → s.wired → s.calls.get i = some c → c.id = b.call →
     c.state = .requested ∨ c.state = .offered → connectPlans? b = some (paths, [x]) →
     s.connectRefusal c paths [x] = none → s.entry? c.ext = some e → (s.context id).state = .free →
     (∀ j, j < id → (s.context j).state ≠ .free) →
     cfg = ⟨.station, x.mode,
       if x.interval < 512 then .b256 else if x.interval < 1024 then .b512 else if x.interval < 2048 then .b1024
         else .b2048, max 2 (min 16 x.loss)⟩ →
     (∀ p ∈ paths, connections.get p.dest = some ⟨p.source,
       (match p.transform with
         | .pass => Transform.pass
         | .mute => Transform.mute
         | .scramble _ => Transform.scramble id
         | .descramble _ => Transform.descramble id), c.id⟩) →
     (∀ d, (∀ p ∈ paths, p.dest ≠ d) → connections.get d = s.connections.get d) →
     x.far = .station → s.supplier ≠ .stopped → s.waitQueue = [] →
     ∃ code : Code, (code = .done ∨ code = .adjusted) ∧
       (∀ (drawn m : Key) (nk : Long), s.ring.get s.pointer = ⟨.device, drawn⟩ →
         nk = longOf (mix s.challengeCounter s.nonceKey) (mix (s.challengeCounter + 1) s.nonceKey) →
         m = ⟨mix nk e.secret, mix (nk + 1) e.secret, mix (nk + 2) e.secret, mix (nk + 3) e.secret⟩ →
         exec (.connectCall tag b) s = .next (((({ s with
           connections := connections
           ring := s.ring.set s.pointer ⟨.host, ⟨0, 0, 0, 0⟩⟩
           pointer := ⟨(s.pointer.val + 1) % 128, by omega⟩
           supplier := .running
           challengeCounter := s.challengeCounter + 2
           calls := s.calls.set i (some { c with
             state := .connected, connectedTime := some 0, paths := paths.map PathPlan.dest, contexts := [id]
             requested := 1 }) }.putContext id ⟨.active, some c.id, some cfg, some (.drawn nk), drawn,
               some ⟨0, drawn, 0, [], none⟩,
               some ⟨.hunt, true, 0, 0, drawn, none, 0, .none, Table.replicate 8 none, none, [], false⟩⟩).offer c.port
                 (.callKey nk ⟨drawn.k0 ^^^ m.k0, drawn.k1 ^^^ m.k1, drawn.k2 ^^^ m.k2, drawn.k3 ^^^ m.k3⟩)).putPort c.port
                   { s.port c.port with dial := .inCall }).heldBack f code [])) ∧
       ((s.ring.get s.pointer).owner = .host →
         exec (.connectCall tag b) s = .next (((({ s with
           connections := connections
           supplier := .suspended
           waitQueue := [WaitItem.mk id (s.classes.get e.cls).keyWaitLimit]
           calls := s.calls.set i (some { c with
             state := .connecting, paths := paths.map PathPlan.dest, contexts := [id]
             requested := 1 }) }.putContext id ⟨.keyWait, some c.id, some cfg, none, ⟨0, 0, 0, 0⟩, none, none⟩).raise
               ⟨.keysShort, 0, [1, BitVec.ofNat 8 s.pointer.val, BitVec.ofNat 8 s.freshCount]⟩).putPort c.port
                 { s.port c.port with dial := .inCall }).heldBack f code []))) ∧
  (∀ (tag : Byte) (b : ConnectBody) (f : Frame) (c : Call) (i : Fin 128) (e : Entry) (paths : List PathPlan)
     (ctxs : List CtxPlan) (ids : List CtxId) (s : State), f = ⟨41, tag, b.octets⟩ → s.takes f = true → s.wired →
     s.calls.get i = some c → c.id = b.call → c.state = .requested ∨ c.state = .offered →
     connectPlans? b = some (paths, ctxs) → s.connectRefusal c paths ctxs = none → s.entry? c.ext = some e →
     ids = ((List.finRange 96).filter (fun x => decide ((s.context x).state = .free))).take ctxs.length →
     ∃ (contexts : Table Context 96) (connections : Table (Option Path) 192) (laid served : State) (k : Call) (code : Code),
       ((∀ x, x ∉ ids → contexts.get x = s.context x) ∧
         ∀ (j : Nat) (x : CtxId) (plan : CtxPlan), ids[j]? = some x → ctxs[j]? = some plan → ∃ cfg : CtxConfig,
           cfg = ⟨plan.far.farEnd, plan.mode,
             if plan.interval < 512 then .b256 else if plan.interval < 1024 then .b512
               else if plan.interval < 2048 then .b1024 else .b2048, max 2 (min 16 plan.loss)⟩ ∧
           (plan.far = .station → contexts.get x = ⟨.keyWait, some c.id, some cfg, none, ⟨0, 0, 0, 0⟩, none, none⟩) ∧
           (∀ slot salt held key, plan.far = .trunk slot salt → s.heldKeys.get slot = some held →
             key = ⟨mix salt held, mix (salt + 1) held, mix (salt + 2) held, mix (salt + 3) held⟩ →
             contexts.get x = ⟨.active, some c.id, some cfg, some (.heldSlot slot salt), key, some ⟨0, key, 0, [], none⟩,
               some ⟨.hunt, true, 0, 0, key, none, 0, .none, Table.replicate 8 none, none, [], false⟩⟩)) ∧
       ((∀ d, (∀ p ∈ paths, p.dest ≠ d) → connections.get d = s.connections.get d) ∧
         ∀ p ∈ paths, ∃ transform, connections.get p.dest = some ⟨p.source, transform, c.id⟩ ∧
           (p.transform = .pass → transform = .pass) ∧ (p.transform = .mute → transform = .mute) ∧
           (∀ j, p.transform = .scramble j → ∃ x, ids[j]? = some x ∧ transform = .scramble x) ∧
           (∀ j, p.transform = .descramble j → ∃ x, ids[j]? = some x ∧ transform = .descramble x)) ∧
       laid = { s with
         contexts := contexts
         connections := connections
         calls := s.calls.set i (some { c with
           contexts := ids, paths := paths.map PathPlan.dest, requested := ctxs.length }) } ∧
       ((∀ plan ∈ ctxs, plan.far ≠ .station) → served = laid) ∧
       (∀ (j : Nat) (x : CtxId) (plan : CtxPlan) (waits : State), ids[j]? = some x → ctxs[j]? = some plan →
         plan.far = .station →
         waits = { laid with waitQueue := s.waitQueue ++ [WaitItem.mk x (s.classes.get e.cls).keyWaitLimit] } →
         served = if s.supplier = .stopped then waits else waits.servingPass (some x)) ∧
       served.calls.get i = some k ∧
       (code = .done ↔ ∀ plan ∈ ctxs, (plan.interval = 256 ∨ plan.interval = 512 ∨ plan.interval = 1024 ∨
         plan.interval = 2048) ∧ 2 ≤ plan.loss ∧ plan.loss ≤ 16) ∧ (code = .done ∨ code = .adjusted) ∧
       exec (.connectCall tag b) s = .next (({ served with
         calls := served.calls.set i (some (if ids.any (fun x => decide ((served.context x).state = CtxState.keyWait))
           then { k with state := .connecting }
           else { k with state := .connected, connectedTime := some 0 })) }.putPort c.port
             { served.port c.port with dial := .inCall }).heldBack f code []))

/-- HOLD CALL takes a CONNECTED call and each of its contexts to HELD, RETRIEVE CALL takes a HELD call to CONNECTED
and each of its contexts to ACTIVE; the other requests on its state are refused, and both replies are held back. -/
def Obligations.HoldAndRetrieve : Prop :=
  (∀ (tag : Byte) (id : CallId) (s : State), s.takes ⟨42, tag, [id]⟩ = true →
    (s.call? id = none → exec (.holdCall tag id) s = .next (s.replied ⟨42, tag, [id]⟩ .noSuch [])) ∧
    (∀ c, s.call? id = some c → c.state ≠ .connected →
      exec (.holdCall tag id) s = .next (s.replied ⟨42, tag, [id]⟩ .state [])) ∧
    (∀ c i, s.findCall id = some i → s.calls.get i = some c → c.state = .connected →
      ∃ contexts : Table Context 96,
        (∀ x, contexts.get x = if x ∈ c.contexts then { s.context x with state := .held } else s.context x) ∧
        exec (.holdCall tag id) s = .next ({ s with
          calls := s.calls.set i (some { c with state := .held }), contexts := contexts }.heldBack ⟨42, tag, [id]⟩
            .done []))) ∧
  (∀ (tag : Byte) (id : CallId) (s : State), s.takes ⟨43, tag, [id]⟩ = true →
    (s.call? id = none → exec (.retrieveCall tag id) s = .next (s.replied ⟨43, tag, [id]⟩ .noSuch [])) ∧
    (∀ c, s.call? id = some c → c.state ≠ .held →
      exec (.retrieveCall tag id) s = .next (s.replied ⟨43, tag, [id]⟩ .state [])) ∧
    (∀ c i, s.findCall id = some i → s.calls.get i = some c → c.state = .held →
      ∃ contexts : Table Context 96,
        (∀ x, contexts.get x = if x ∈ c.contexts then { s.context x with state := .active } else s.context x) ∧
        exec (.retrieveCall tag id) s = .next ({ s with
          calls := s.calls.set i (some { c with state := .connected }), contexts := contexts }.heldBack
            ⟨43, tag, [id]⟩ .done [])))

/-- REFUSE CALL ends a REQUESTED or OFFERED call with NOTICE REFUSED; CLEAR CALL ends a call in any state and answers
its connected time, or the mark of a call never connected; an id no call holds is NO_SUCH. The end of a call whose
extension is not overdue: its paths are removed, its contexts FREE and out of the wait queue, its port without a call
and BLOCKED or IDLE by its hook, its extension without a live call, its notice offered, and its entry free. The end of
a call whose extension is Overdue: after its notice the deferred lapse completes with the stored cause. -/
def Obligations.CallEndFreesEverything : Prop :=
  ((∀ (tag : Byte) (id : CallId) (s : State), s.takes ⟨44, tag, [id]⟩ = true →
     (s.call? id = none → exec (.refuseCall tag id) s = .next (s.replied ⟨44, tag, [id]⟩ .noSuch [])) ∧
     (∀ c, s.call? id = some c → c.state ≠ .requested → c.state ≠ .offered →
       exec (.refuseCall tag id) s = .next (s.replied ⟨44, tag, [id]⟩ .state [])) ∧
     (∀ c, s.call? id = some c → c.state = .requested ∨ c.state = .offered →
       exec (.refuseCall tag id) s = .next ((s.endCall c (some .refused)).heldBack ⟨44, tag, [id]⟩ .done []))) ∧
   (∀ (tag : Byte) (id : CallId) (s : State), s.takes ⟨45, tag, [id]⟩ = true →
     (s.call? id = none → exec (.clearCall tag id) s = .next (s.replied ⟨45, tag, [id]⟩ .noSuch [])) ∧
     (∀ c, s.call? id = some c → exec (.clearCall tag id) s = .next ((s.endCall c none).heldBack ⟨45, tag, [id]⟩ .done
       (match c.connectedTime with | some n => 1 :: numLong n | none => [0, 0, 0, 0, 0]))))) ∧
  (∀ (c : Call) (i : Fin 128) (e : Entry) (notice : Option NoticeReason) (s ended : State), s.wired →
     s.calls.get i = some c → s.entry? c.ext = some e → e.overdue = none →
     ended = ({ s with
       connections := s.connections.map (fun o : Option Path => o.filter (fun p => decide (p.owner ≠ c.id)))
       waitQueue := s.waitQueue.filter (fun w => decide (w.ctx ∉ c.contexts))
       contexts := Table.tabulate (fun x => if x ∈ c.contexts then Context.free else s.context x)
       calls := s.calls.set i none }.putPort c.port { s.port c.port with
         call := none, dial := if (s.port c.port).hook = Hook.off then .blocked else .idle }).putEntry c.ext
           (some { e with liveCall := none }) →
     s.endCall c notice = (match notice with | some reason => ended.offer c.port (.notice reason) | none => ended)) ∧
  (∀ (c : Call) (i : Fin 128) (e : Entry) (cause : LapseCause) (notice : Option NoticeReason) (s ended : State), s.wired →
     s.calls.get i = some c → s.entry? c.ext = some e → e.overdue = some cause →
     ended = ({ s with
       connections := s.connections.map (fun o : Option Path => o.filter (fun p => decide (p.owner ≠ c.id)))
       waitQueue := s.waitQueue.filter (fun w => decide (w.ctx ∉ c.contexts))
       contexts := Table.tabulate (fun x => if x ∈ c.contexts then Context.free else s.context x)
       calls := s.calls.set i none }.putPort c.port { s.port c.port with
         call := none, dial := if (s.port c.port).hook = Hook.off then .blocked else .idle }).putEntry c.ext
           (some { e with liveCall := none }) →
     s.endCall c notice =
       (match notice with | some reason => ended.offer c.port (.notice reason) | none => ended).lapse c.ext cause)

/-- A key wait run out: under FALL-CLEAR a call whose verdict is ALLOW goes on in clear, its two paths turned to PASS
and CALL CONNECTED raised with the clear-fallback mark; under DROP, and for a verdict SCRAMBLE, the call fails with
CALL FAILED and ends with NOTICE KEY_SHORT. -/
def Obligations.KeyWaitExpiryAppliesThePolicy : Prop :=
  ∀ (x : CtxId) (w : WaitItem) (c : Call) (i : Fin 128) (e : Entry) (s left : State), s.wired → w ∈ s.waitQueue →
    w.ctx = x → w.remaining = 0 → (s.context x).call = some c.id → s.calls.get i = some c → s.entry? c.ext = some e →
    left = { s with waitQueue := s.waitQueue.filter (fun w => decide (w.ctx ≠ x)) } →
    ((s.classes.get e.cls).policy = .fallClear → c.verdict = .allow →
      exec (.keyWaitExpiry x) s = .next (({ left with
        connections := s.connections.map (fun o : Option Path => o.map (fun p : Path =>
          if p.transform = Transform.scramble x ∨ p.transform = Transform.descramble x then ({ p with transform := .pass } : Path) else p))
        calls := s.calls.set i (some { c with
          contexts := c.contexts.filter (fun y => decide (y ≠ x)), state := .connected
          connectedTime := some 0 }) }.putContext x Context.free).raise ⟨.callConnected, c.id.toNat, [1, 1]⟩)) ∧
    ((s.classes.get e.cls).policy = .drop ∨ c.verdict = .scramble →
      exec (.keyWaitExpiry x) s = .next ((left.raise ⟨.callFailed, c.id.toNat,
        8 :: numWord c.port.val ++ numWord c.ext.val⟩).endCall c (some .keyShort)))

/-! ## The key store -/

/-- A serving pass, of any request: while the queue is not empty and the slot at the pointer is DEVICE-owned, the key
there is drawn, its slot zeroed, the pointer advanced, and the head context keyed and its call CONNECTED; then the
supplier is RUNNING with an empty queue, and otherwise SUSPENDED with KEYS SHORT. The detail 0, 0 of CALL CONNECTED
and the one octet of the draw pointer in KEYS SHORT are the model's readings (assumption 13). A pass that a CONNECT
CALL began keys that request's own context like every other, and leaves its call to the request. START DRAW makes the
supplier RUNNING and serves the queue; STOP DRAW makes it STOPPED and changes nothing else; RESUME DRAW serves the
queue of a supplier that is not STOPPED, and is refused with STATE otherwise. -/
def Obligations.ServingPassesAndDrawRequests : Prop :=
  ((∀ (s : State) (own : Option CtxId), s.waitQueue = [] → s.servingPass own = { s with supplier := .running }) ∧
   (∀ (s : State) (own : Option CtxId), s.waitQueue ≠ [] → (s.ring.get s.pointer).owner = .host →
     s.servingPass own = { s with supplier := .suspended }.raise ⟨.keysShort, 0,
       [BitVec.ofNat 8 s.waitQueue.length, BitVec.ofNat 8 s.pointer.val, BitVec.ofNat 8 s.freshCount]⟩) ∧
   (∀ (s : State) (w : WaitItem) (rest : List WaitItem) (drawn : Key) (c : Call) (i : Fin 128) (e : Entry) (nk : Long)
     (m : Key) (own : Option CtxId), s.waitQueue = w :: rest → s.ring.get s.pointer = ⟨.device, drawn⟩ → s.wired →
     (s.context w.ctx).call = some c.id → s.calls.get i = some c → s.entry? c.ext = some e →
     nk = longOf (mix s.challengeCounter s.nonceKey) (mix (s.challengeCounter + 1) s.nonceKey) →
     m = ⟨mix nk e.secret, mix (nk + 1) e.secret, mix (nk + 2) e.secret, mix (nk + 3) e.secret⟩ →
     own ≠ some w.ctx → s.servingPass own = (((({ s with
       ring := s.ring.set s.pointer ⟨.host, ⟨0, 0, 0, 0⟩⟩
       pointer := ⟨(s.pointer.val + 1) % 128, by omega⟩
       waitQueue := rest
       challengeCounter := s.challengeCounter + 2
       calls := s.calls.set i (some { c with state := .connected, connectedTime := some 0 }) }.putContext w.ctx
         { s.context w.ctx with
           state := .active, keySource := some (.drawn nk), key0 := drawn
           tx := some ⟨0, drawn, 0, [], none⟩
           rx := some ⟨.hunt, true, 0, 0, drawn, none, 0, .none, Table.replicate 8 none, none, [], false⟩ }).offer c.port
             (.callKey nk ⟨drawn.k0 ^^^ m.k0, drawn.k1 ^^^ m.k1, drawn.k2 ^^^ m.k2, drawn.k3 ^^^ m.k3⟩)).raise
               ⟨.callConnected, c.id.toNat, [0, 0]⟩).servingPass own))) ∧
  (∀ (s : State) (w : WaitItem) (rest : List WaitItem) (drawn : Key) (c : Call) (i : Fin 128) (e : Entry) (nk : Long)
     (m : Key), s.waitQueue = w :: rest → s.ring.get s.pointer = ⟨.device, drawn⟩ → s.wired →
     (s.context w.ctx).call = some c.id → s.calls.get i = some c → s.entry? c.ext = some e →
     nk = longOf (mix s.challengeCounter s.nonceKey) (mix (s.challengeCounter + 1) s.nonceKey) →
     m = ⟨mix nk e.secret, mix (nk + 1) e.secret, mix (nk + 2) e.secret, mix (nk + 3) e.secret⟩ →
     s.servingPass (some w.ctx) = ((({ s with
       ring := s.ring.set s.pointer ⟨.host, ⟨0, 0, 0, 0⟩⟩
       pointer := ⟨(s.pointer.val + 1) % 128, by omega⟩
       waitQueue := rest
       challengeCounter := s.challengeCounter + 2 }.putContext w.ctx
         { s.context w.ctx with
           state := .active, keySource := some (.drawn nk), key0 := drawn
           tx := some ⟨0, drawn, 0, [], none⟩
           rx := some ⟨.hunt, true, 0, 0, drawn, none, 0, .none, Table.replicate 8 none, none, [], false⟩ }).offer c.port
             (.callKey nk ⟨drawn.k0 ^^^ m.k0, drawn.k1 ^^^ m.k1, drawn.k2 ^^^ m.k2, drawn.k3 ^^^ m.k3⟩)).servingPass
               (some w.ctx))) ∧
  ((∀ (tag : Byte) (s : State), s.takes ⟨35, tag, []⟩ = true →
     exec (.startDraw tag) s = .next (({ s with
       supplier := if s.supplier = Supplier.stopped then Supplier.running else s.supplier }.servingPass none).replied ⟨35, tag, []⟩
         .done [])) ∧
   (∀ (tag : Byte) (s : State), s.takes ⟨36, tag, []⟩ = true →
     exec (.stopDraw tag) s = .next ({ s with supplier := .stopped }.replied ⟨36, tag, []⟩ .done [])) ∧
   (∀ (tag : Byte) (s : State), s.takes ⟨37, tag, []⟩ = true →
     (s.supplier = .stopped → exec (.resumeDraw tag) s = .next (s.replied ⟨37, tag, []⟩ .state [])) ∧
     (s.supplier ≠ .stopped →
       exec (.resumeDraw tag) s = .next ((s.servingPass none).replied ⟨37, tag, []⟩ .done []))))

/-- DEPOSIT KEYS writes 1 to 8 keys from its position on, wrapping at 127, each slot DEVICE-owned; one DEVICE-owned
target refuses them all with OCCUPIED. HOLD KEY writes a held slot and DROP KEY empties it; a slot above 31 is
BAD_REQUEST. -/
def Obligations.KeyRequestsWriteTheStore : Prop :=
  (∀ (tag : Byte) (b : DepositBody) (s : State), s.takes ⟨32, tag, b.octets⟩ = true →
     (127 < b.position.toNat ∨ b.keys.length = 0 ∨ 8 < b.keys.length →
       exec (.depositKeys tag b) s = .next (s.replied ⟨32, tag, b.octets⟩ .badRequest [])) ∧
     (b.position.toNat ≤ 127 → 1 ≤ b.keys.length → b.keys.length ≤ 8 →
       ((∃ k, k < b.keys.length ∧
           (s.ring.get ⟨(b.position.toNat + k) % 128, Nat.mod_lt _ (by decide)⟩).owner = .device) →
         exec (.depositKeys tag b) s = .next (s.replied ⟨32, tag, b.octets⟩ .occupied [])) ∧
       ((∀ k, k < b.keys.length →
           (s.ring.get ⟨(b.position.toNat + k) % 128, Nat.mod_lt _ (by decide)⟩).owner = .host) →
         ∃ ring : Table RingSlot 128,
           (∀ k key, b.keys[k]? = some key →
             ring.get ⟨(b.position.toNat + k) % 128, Nat.mod_lt _ (by decide)⟩ = ⟨.device, key⟩) ∧
           (∀ i : RingPos, (∀ k, k < b.keys.length → i.val ≠ (b.position.toNat + k) % 128) →
             ring.get i = s.ring.get i) ∧
           exec (.depositKeys tag b) s = .next ({ s with ring := ring }.replied ⟨32, tag, b.octets⟩ .done [])))) ∧
  ((∀ (tag slot : Byte) (key : Key) (s : State), s.takes ⟨33, tag, slot :: keyOctets key⟩ = true →
     (31 < slot.toNat →
       exec (.holdKey tag slot key) s = .next (s.replied ⟨33, tag, slot :: keyOctets key⟩ .badRequest [])) ∧
     (∀ i : HeldSlot, i.val = slot.toNat → exec (.holdKey tag slot key) s =
       .next ({ s with heldKeys := s.heldKeys.set i (some key) }.replied ⟨33, tag, slot :: keyOctets key⟩ .done []))) ∧
   (∀ (tag slot : Byte) (s : State), s.takes ⟨34, tag, [slot]⟩ = true →
     (31 < slot.toNat → exec (.dropKey tag slot) s = .next (s.replied ⟨34, tag, [slot]⟩ .badRequest [])) ∧
     (∀ i : HeldSlot, i.val = slot.toNat → exec (.dropKey tag slot) s =
       .next ({ s with heldKeys := s.heldKeys.set i none }.replied ⟨34, tag, [slot]⟩ .done []))))

/-! ## Frames and the time base -/

/-- A served frame gives every output slot the octet of the first row of R111 that fits. In a served frame an ACTIVE
or HELD context is handed the input octets of the sources of its SCRAMBLE and its DESCRAMBLE path; both sides step,
and their outputs go to the destinations; a context in another state does not step. A served frame raises the reports
of the receive sides it steps, in ascending context id (the model's choice, assumption 10), and changes only contexts,
outputs and what the link has to send. The items: SYNC LOCKED with call, manner, SLIP mark, epoch and q; SYNC LOST
with call, epoch and own q; SYNC FAILED with call, cause, own epoch, q and parity, and the beacon's q and parity. -/
def Obligations.ServedFrameDrivesSlotsAndContexts : Prop :=
  (∀ (inputs : Table Byte 192) (d : SlotNo) (s t : State), t = s.serveFrame inputs →
     (s.intercept.get d = true ∨ s.connections.get d = none → t.outputs.get d = some s.idleOctet) ∧
     (∀ p, s.intercept.get d = false → s.connections.get d = some p →
       (p.transform = .mute → t.outputs.get d = some s.idleOctet) ∧
       (∀ c, p.transform = .pass → s.call? p.owner = some c → c.state = .held →
         t.outputs.get d = some s.idleOctet) ∧
       (p.transform = .pass → (∀ c, s.call? p.owner = some c → c.state ≠ .held) →
         t.outputs.get d = some (inputs.get p.source)) ∧
       (∀ x, p.transform = .scramble x ∨ p.transform = .descramble x → (s.context x).state = .keyWait →
         t.outputs.get d = some s.idleOctet) ∧
       (∀ x, p.transform = .descramble x → (s.context x).state = .held → t.outputs.get d = some s.idleOctet))) ∧
  ((∀ (inputs : Table Byte 192) (x : CtxId) (a b : SlotNo) (p q : Path) (cfg : CtxConfig) (tx : TxPart) (rx : RxPart)
     (held : Bool) (s t : State), t = s.serveFrame inputs → s.connections.get a = some p → s.connections.get b = some q →
     p.transform = .scramble x → q.transform = .descramble x →
     (∀ d r, s.connections.get d = some r → r.transform = .scramble x → d = a) →
     (∀ d r, s.connections.get d = some r → r.transform = .descramble x → d = b) →
     (s.context x).config = some cfg → (s.context x).tx = some tx → (s.context x).rx = some rx →
     (s.context x).state = (if held then .held else .active) →
     t.context x = { s.context x with
       tx := some (tx.step cfg.interval cfg.mode held (inputs.get p.source))
       rx := some (rx.step cfg.interval cfg.mode cfg.loss (s.context x).key0 (inputs.get q.source)).1 } ∧
     (s.intercept.get a = false → t.outputs.get a =
       some (tx.output cfg.interval cfg.mode held s.idleOctet (inputs.get p.source))) ∧
     (s.intercept.get b = false → held = false → t.outputs.get b =
       some (rx.output cfg.interval cfg.mode s.idleOctet (inputs.get q.source)))) ∧
   (∀ (inputs : Table Byte 192) (x : CtxId) (s : State), (s.context x).state = .free ∨ (s.context x).state = .keyWait →
     (s.serveFrame inputs).context x = s.context x)) ∧
  ((∀ (inputs : Table Byte 192) (item : CtxId → Option Item) (s t : State), s.callsWired → t = s.serveFrame inputs →
     (∀ x, (s.context x).state = .free ∨ (s.context x).state = .keyWait → item x = none) →
     (∀ (x : CtxId) (cfg : CtxConfig) (r : RxPart) (d : SlotNo) (p : Path),
       (s.context x).state = .active ∨ (s.context x).state = .held → (s.context x).config = some cfg →
       (s.context x).rx = some r → s.connections.get d = some p → p.transform = .descramble x →
       item x = (r.step cfg.interval cfg.mode cfg.loss (s.context x).key0 (inputs.get p.source)).2.map
         (RxEvent.item x (s.context x).call)) →
     t = { s.raiseAll ((List.finRange 96).filterMap item) with contexts := t.contexts, outputs := t.outputs }) ∧
   (∀ (x : CtxId) (call : Option CallId) (m : Manner) (slip : Bool) (epoch : Word) (q : Byte),
     (RxEvent.locked m slip epoch q).item x call = ⟨.syncLocked, x.val, idWord (call.map BitVec.toNat) ++
       (match m with | .first => 0 | .same => 1 | .forward => 2 | .back => 3) :: (if slip then 1 else 0) ::
         wordOctets epoch ++ [q]⟩) ∧
   (∀ (x : CtxId) (call : Option CallId) (epoch : Word) (q : Nat),
     (RxEvent.lost epoch q).item x call =
       ⟨.syncLost, x.val, idWord (call.map BitVec.toNat) ++ wordOctets epoch ++ [BitVec.ofNat 8 q]⟩) ∧
   (∀ (x : CtxId) (call : Option CallId) (cause : SyncCause) (epoch : Word) (ownQ ownParity : Nat) (q : Byte) (par : Nat),
     (RxEvent.failed cause epoch ownQ ownParity q par).item x call = ⟨.syncFailed, x.val,
       idWord (call.map BitVec.toNat) ++ (match cause with | .parity => 0 | .noPreviousKey => 1) :: wordOctets epoch ++
         [BitVec.ofNat 8 ownQ, BitVec.ofNat 8 ownParity, q, BitVec.ofNat 8 par]⟩))

/-- In HIGHWAY a pulse in its window begins a served frame and clears the miss count; a pulse that comes too early is
ignored; a missing pulse is counted and the reference begins a served frame, and at the third the source is HOLDOVER,
with CLOCK LOST and a frame that drives nothing. That both ends of the window are inside it (assumption 21), and that
the slots are undriven from the third missing pulse on (assumption 29), are the model's readings. In HOLDOVER each
frame of the reference drives nothing and steps no context; pulses build the restore run, which a timeout clears; the
sixteenth returns to HIGHWAY with CLOCK RESTORED and a served frame, each running context with its shuffle blocks
emptied and its receive side in HUNT. A side already in HUNT goes on with its parse progress; that the receive Miss
Count is kept is the model's reading (assumption 17), as is the pulse window (assumption 21). -/
def Obligations.PulsesHoldoverAndRestore : Prop :=
  ((∀ (ns : Nat) (since : Option Nat) (inputs : Table Byte 192) (s : State), s.timeBase.source = .highway →
     (120000 ≤ ns → ns ≤ 130000 → exec (.framePulse ns since inputs) s =
       .next ({ s with timeBase := { s.timeBase with missCount := 0 } }.beginFrame.serveFrame inputs)) ∧
     (ns < 120000 → exec (.framePulse ns since inputs) s = .next s)) ∧
   (∀ (inputs : Table Byte 192) (s : State), s.timeBase.source = .highway →
     (s.timeBase.missCount < 2 → exec (.pulseMissing inputs) s = .next ({ s with
       timeBase := { s.timeBase with missCount := s.timeBase.missCount + 1 } }.beginFrame.serveFrame inputs)) ∧
     (s.timeBase.missCount = 2 → exec (.pulseMissing inputs) s = .next (({ s with
       outputs := Table.replicate 192 none
       timeBase := { s.timeBase with source := .holdover, missCount := 0, restoreCount := 0, holdoverLength := 0 } }.raise
         ⟨.clockLost, 0, []⟩).beginFrame)))) ∧
  ((∀ s : State, s.timeBase.source = .holdover →
     exec .holdoverFrame s = .next { s with outputs := Table.replicate 192 none }.beginFrame ∧
     exec .restoreRunTimeout s = .next { s with timeBase := { s.timeBase with restoreCount := 0 } }) ∧
   (∀ (ns run : Nat) (since : Option Nat) (inputs : Table Byte 192) (s : State), s.timeBase.source = .holdover →
     run = (if ∃ n, since = some n ∧ 120000 ≤ n ∧ n ≤ 130000 then s.timeBase.restoreCount + 1 else 1) →
     (run < 16 → exec (.framePulse ns since inputs) s =
       .next { s with timeBase := { s.timeBase with restoreCount := run } }) ∧
     (16 ≤ run → ∃ contexts : Table Context 96,
       (∀ x, (s.context x).state = .free ∨ (s.context x).state = .keyWait → contexts.get x = s.context x) ∧
       (∀ x, (s.context x).state = .active ∨ (s.context x).state = .held →
         contexts.get x = { s.context x with
           tx := (s.context x).tx.map (fun t => { t with collected := [], emitting := none })
           rx := (s.context x).rx.map (fun r => { r with
             state := .hunt, virgin := r.virgin && !r.stepped, window := []
             parse := if r.state = .hunt then r.parse else .none
             rebuild := Table.replicate 8 none, ready := none }) }) ∧
       exec (.framePulse ns since inputs) s = .next (({ s with
         contexts := contexts
         timeBase := { s.timeBase with source := .highway, missCount := 0, restoreCount := 0 } }.raise
           ⟨.clockRestored, 0, numLong s.timeBase.holdoverLength⟩).beginFrame.serveFrame inputs))))

/-- Eight frames make a tick: challenge, interdigit and key-wait times fall by one and stop at 0, connected times
rise, and in HOLDOVER the length rises; a thousand ticks make a second tick: refreshes and locks fall too, and a
refresh that reaches 0 falls due; an UNBOUND or CHALLENGED entry has nothing that falls. That counts stop at 0 and
that a refresh keeps the mark of an expiry due are the model's reading (assumption 4). -/
def Obligations.FramesTicksAndSeconds : Prop :=
  (∀ s : State, s.timeBase.tickDivider < 7 → s.beginFrame = { s with
    handling := s.handling.map (fun h => ⟨h.reply, true⟩)
    timeBase := { s.timeBase with tickDivider := s.timeBase.tickDivider + 1 } }) ∧
  (∀ s : State, s.timeBase.tickDivider = 7 →
    (∀ p, s.beginFrame.port p = { s.port p with interdigit := (s.port p).interdigit.map (· - 1) }) ∧
    (s.beginFrame.waitQueue = s.waitQueue.map (fun w => ⟨w.ctx, w.remaining - 1⟩)) ∧
    (∀ i c, s.calls.get i = some c → s.beginFrame.calls.get i = some { c with
      connectedTime := if c.state = .connected ∨ c.state = .held
        then c.connectedTime.map (fun n => min 4294967295 (n + 1)) else c.connectedTime }) ∧
    (s.beginFrame.timeBase = { s.timeBase with
      tickDivider := 0
      secondDivider := if s.timeBase.secondDivider = 999 then 0 else s.timeBase.secondDivider + 1
      holdoverLength := if s.timeBase.source = .holdover then min 4294967295 (s.timeBase.holdoverLength + 1)
        else s.timeBase.holdoverLength }) ∧
    (∀ ix e ticked, s.entry? ix = some e → ticked = { e with
        challenge := e.challenge.map (fun c => { c with remaining := c.remaining.map (· - 1) }) } →
      (s.timeBase.secondDivider ≠ 999 → s.beginFrame.entry? ix = some ticked) ∧
      (s.timeBase.secondDivider = 999 → e.state = .admitted ∨ e.state = .moving →
        s.beginFrame.entry? ix = some { ticked with
          refresh := e.refresh.map (· - 1), refreshDue := e.refreshDue || decide (e.refresh = some 1) }) ∧
      (∀ n, s.timeBase.secondDivider = 999 → e.state = .locked → e.lock = some (.seconds n) →
        s.beginFrame.entry? ix = some { ticked with lock := some (.seconds (n - 1)) }) ∧
      (s.timeBase.secondDivider = 999 → e.state = .locked → e.lock = some .untilUnlocked →
        s.beginFrame.entry? ix = some ticked) ∧
      (s.timeBase.secondDivider = 999 → e.state = .unbound ∨ e.state = .challenged →
        s.beginFrame.entry? ix = some ticked)) ∧
    (∀ ix, s.entry? ix = none → s.beginFrame.entry? ix = none))

/-! ## Mixing and scrambling -/

/-- The mix is its five stages over words; the next epoch's key is the mixes of 4294967040 to 4294967043; and the
figures the spec works out for the key (4660, 22136, 39612, 57072). -/
def Obligations.MixFollowsItsStages : Prop :=
  (∀ (t : Long) (k : Key) (a : Nat),
    a = ((t.toNat % 65536 ^^^ k.k0.toNat) * 40503 + k.k1.toNat) % 65536 →
    (mix t k).toNat = (let b := ((a ^^^ t.toNat / 65536 ^^^ k.k2.toNat) * 40503 + k.k3.toNat) % 65536
      b ^^^ b / 256)) ∧
  (∀ k : Key, nextKey k = ⟨mix 4294967040 k, mix 4294967041 k, mix 4294967042 k, mix 4294967043 k⟩) ∧
  mix 5 ⟨4660, 22136, 39612, 57072⟩ = 45540 ∧ mixPair 4 ⟨4660, 22136, 39612, 57072⟩ = 737653220 ∧
  nextKey ⟨4660, 22136, 39612, 57072⟩ = ⟨55624, 61544, 2653, 25461⟩

/-- The transmit side: in the first eight frames of each beacon interval the beacon's octets; then, MASK mode, the
input masked, SHUFFLE mode, the emitting block's octet permuted and masked or the idle octet; the idle octet while
HELD; and its counter advances, with the next key and epoch at the epoch's end. In SHUFFLE mode the input of an ACTIVE
context is collected outside beacon blocks; while HELD both blocks are emptied; at the end of a block eight collected
octets become the emitting block, unless a beacon block follows, and otherwise nothing is emitted; the collected block
is then empty. -/
def Obligations.TransmitSideEmits : Prop :=
  (∀ (t : TxPart) (b : Interval) (mode : Mode) (held : Bool) (idle input q info : Byte),
     q = BitVec.ofNat 8 (t.n / b.frames) →
     info = BitVec.ofNat 8 (t.epoch.toNat % 2 + if mode = .shuffle then 2 else 0) →
     (t.n % b.frames < 8 → [150, 105, q, info, BitVec.ofNat 8 (255 - (q.toNat + info.toNat) % 256), idle, idle,
       idle][t.n % b.frames]? = some (t.output b mode held idle input)) ∧
     (8 ≤ t.n % b.frames → held = true → t.output b mode held idle input = idle) ∧
     (8 ≤ t.n % b.frames → held = false → mode = .mask →
       t.output b mode held idle input = input ^^^ BitVec.ofNat 8 (mix (BitVec.ofNat 32 t.n) t.key).toNat) ∧
     (8 ≤ t.n % b.frames → held = false → mode = .shuffle → t.emitting = none →
       t.output b mode held idle input = idle) ∧
     (∀ block w, 8 ≤ t.n % b.frames → held = false → mode = .shuffle → t.emitting = some block →
       w = (mix (BitVec.ofNat 32 (2147483648 + t.n / 8)) t.key).toNat →
       t.output b mode held idle input =
         block.get ⟨((2 * (w % 4) + 1) * (t.n % 8) + w / 4 % 8) % 8, Nat.mod_lt _ (by decide)⟩ ^^^
           BitVec.ofNat 8 (mix (BitVec.ofNat 32 t.n) t.key).toNat) ∧
     (t.n + 1 < 256 * b.frames → (t.step b mode held input).n = t.n + 1 ∧
       (t.step b mode held input).epoch = t.epoch ∧ (t.step b mode held input).key = t.key) ∧
     (t.n + 1 = 256 * b.frames → (t.step b mode held input).n = 0 ∧
       (t.step b mode held input).epoch = t.epoch + 1 ∧ (t.step b mode held input).key = nextKey t.key)) ∧
  (∀ (t u : TxPart) (b : Interval) (held : Bool) (input : Byte), t.collected.length ≤ t.n % 8 →
     u = t.step b .shuffle held input →
     (t.n % 8 ≠ 7 →
       (t.n % b.frames < 8 → u.collected = t.collected ∧ u.emitting = t.emitting) ∧
       (8 ≤ t.n % b.frames → held = true → u.collected = [] ∧ u.emitting = none) ∧
       (8 ≤ t.n % b.frames → held = false → u.collected = t.collected ++ [input] ∧ u.emitting = t.emitting)) ∧
     (t.n % 8 = 7 → u.collected = [] ∧
       ((t.n + 1) % b.frames = 0 ∨ held = true ∨ t.n % b.frames < 8 ∨ t.collected.length < 7 → u.emitting = none) ∧
       (∀ block : Table Byte 8, (t.n + 1) % b.frames ≠ 0 → held = false → 8 ≤ t.n % b.frames →
         block.cells = t.collected ++ [input] → u.emitting = some block)))

/-- A receive side in step with a transmit side gives its voice back: in MASK mode octet by octet, and in SHUFFLE mode
the whole block once its eight octets have been placed. The receive output: the idle octet in HUNT, in FAILED and at
the own positions 0 to 7; otherwise the octet unmasked in MASK mode, and in SHUFFLE mode the ready block's octet, or
the idle octet without one. In SHUFFLE mode a LOCKED or FLYWHEEL side places each octet of a rebuilt block, and at the
end of a block a filled rebuild block becomes the ready block, unless an own beacon block follows; outside check
frames, in both modes, state and Miss Count stay, nothing is reported and the counter advances, with the next key and
epoch at the epoch's end. -/
def Obligations.AlignedReceiverRecoversVoice : Prop :=
  ((∀ (t : TxPart) (r : RxPart) (b : Interval) (idle idle' voice : Byte), r.state = .locked ∨ r.state = .flywheel →
     r.n = t.n → r.key = t.key → 8 ≤ t.n % b.frames →
     r.output b .mask idle (t.output b .mask false idle' voice) = voice) ∧
   (∀ (key : Key) (b : Interval) (n : Nat) (voice : Table Byte 8) (idle : Byte) (t : TxPart) (r : RxPart),
     n % 8 = 0 → 16 ≤ n % b.frames → t.key = key → t.emitting = some voice → r.state = .locked → r.key = key →
     filledBlock ((List.range 8).foldl
       (fun r j => { r with n := n + j }.place b .shuffle ({ t with n := n + j }.output b .shuffle false idle 0)) r).rebuild =
         some voice)) ∧
  ((∀ (b : Interval) (mode : Mode) (idle octet : Byte) (r : RxPart),
     (r.state = .hunt ∨ r.state = .failed ∨ r.n % b.frames < 8 → r.output b mode idle octet = idle) ∧
     (r.state = .locked ∨ r.state = .flywheel → 8 ≤ r.n % b.frames →
       (mode = .mask →
         r.output b mode idle octet = octet ^^^ BitVec.ofNat 8 (mix (BitVec.ofNat 32 r.n) r.key).toNat) ∧
       (mode = .shuffle → r.ready = none → r.output b mode idle octet = idle) ∧
       (∀ block, mode = .shuffle → r.ready = some block →
         r.output b mode idle octet = block.get ⟨r.n % 8, Nat.mod_lt _ (by decide)⟩))) ∧
   (∀ (b : Interval) (loss : Nat) (key0 : Key) (octet : Byte) (w : Nat) (placed : Table (Option Byte) 8) (r t : RxPart),
     r.state = .locked ∨ r.state = .flywheel → r.n % b.frames ≠ 4 →
     w = (mix (BitVec.ofNat 32 (2147483648 + r.n / 8)) r.key).toNat →
     placed = (if 16 ≤ r.n % b.frames
       then r.rebuild.set ⟨((2 * (w % 4) + 1) * (r.n % 8) + w / 4 % 8) % 8, Nat.mod_lt _ (by decide)⟩
         (some (octet ^^^ BitVec.ofNat 8 (mix (BitVec.ofNat 32 r.n) r.key).toNat))
       else r.rebuild) →
     t = (r.step b .shuffle loss key0 octet).1 →
     (r.n % 8 ≠ 7 → t.rebuild = placed ∧ t.ready = r.ready) ∧
     (r.n % 8 = 7 → t.rebuild = Table.replicate 8 none ∧ ((r.n + 1) % b.frames = 0 → t.ready = none) ∧
       (∀ block, (r.n + 1) % b.frames ≠ 0 → (t.ready = some block ↔ ∀ j, placed.get j = some (block.get j))))) ∧
   (∀ (b : Interval) (mode : Mode) (loss : Nat) (key0 : Key) (octet : Byte) (r t : RxPart),
     r.state = .locked ∨ r.state = .flywheel → r.n % b.frames ≠ 4 → t = (r.step b mode loss key0 octet).1 →
     ((r.step b mode loss key0 octet).2 = none ∧ t.state = r.state ∧ t.miss = r.miss) ∧
     (r.n + 1 < 256 * b.frames →
       t.n = r.n + 1 ∧ t.epoch = r.epoch ∧ t.key = r.key ∧ t.previous = r.previous) ∧
     (r.n + 1 = 256 * b.frames →
       t.n = 0 ∧ t.epoch = r.epoch + 1 ∧ t.key = nextKey r.key ∧ t.previous = some r.key)))

/-- The receive side in HUNT: it looks for 150, 105 and three octets more; a virgin side that finds a good beacon of
its mode locks, with the epoch and the keys that the beacon's parity gives, and reports SYNC LOCKED FIRST (the octets
kept and the mark that a frame was processed are the model's fields, assumption 18). While nothing is accepted the
side stays in HUNT and its counter advances, with the next key and epoch at the epoch's end. -/
def Obligations.ReceiverFindsItsFirstLock : Prop :=
  (∀ (b : Interval) (mode : Mode) (loss : Nat) (key0 : Key) (octet : Byte) (r : RxPart), r.state = .hunt →
    (r.parse = .none → (r.step b mode loss key0 octet).1.parse = if octet = 150 then .seen150 else .none) ∧
    (r.parse = .seen150 → (r.step b mode loss key0 octet).1.parse =
      if octet = 105 then .seen150105 else if octet = 150 then .seen150 else .none) ∧
    (r.parse = .seen150105 → (r.step b mode loss key0 octet).1.parse = .seenQ octet) ∧
    (∀ q, r.parse = .seenQ q → (r.step b mode loss key0 octet).1.parse = .seenInfo q octet) ∧
    (∀ q info, r.parse = .seenInfo q info →
      (info.toNat ≥ 4 ∨ octet.toNat ≠ 255 - (q.toNat + info.toNat) % 256 ∨
        (mode = .shuffle ↔ info.toNat < 2) →
        (r.step b mode loss key0 octet).1.parse = .none ∧ (r.step b mode loss key0 octet).1.state = .hunt ∧
          (r.step b mode loss key0 octet).2 = none) ∧
      (info.toNat < 4 → octet.toNat = 255 - (q.toNat + info.toNat) % 256 → (mode = .mask ↔ info.toNat < 2) →
        r.virgin = true →
        (info.toNat % 2 = 0 → r.step b mode loss key0 octet =
          (⟨.locked, false, q.toNat * b.frames + 5, 0, key0, none, 0, .none, Table.replicate 8 none, none, [], true⟩,
            some (.locked .first false 0 q))) ∧
        (info.toNat % 2 = 1 → r.step b mode loss key0 octet =
          (⟨.locked, false, q.toNat * b.frames + 5, 1, nextKey key0, some key0, 0, .none, Table.replicate 8 none, none, [],
            true⟩, some (.locked .first false 1 q)))))) ∧
  (∀ (b : Interval) (mode : Mode) (loss : Nat) (key0 : Key) (octet : Byte) (r t : RxPart), r.state = .hunt →
    (∀ q info, r.parse = .seenInfo q info → info.toNat ≥ 4 ∨ octet.toNat ≠ 255 - (q.toNat + info.toNat) % 256 ∨
      (mode = .shuffle ↔ info.toNat < 2)) →
    t = (r.step b mode loss key0 octet).1 →
    ((r.step b mode loss key0 octet).2 = none ∧ t.state = .hunt ∧ t.virgin = r.virgin ∧ t.miss = r.miss) ∧
    (r.n + 1 < 256 * b.frames →
      t.n = r.n + 1 ∧ t.epoch = r.epoch ∧ t.key = r.key ∧ t.previous = r.previous) ∧
    (r.n + 1 = 256 * b.frames →
      t.n = 0 ∧ t.epoch = r.epoch + 1 ∧ t.key = nextKey r.key ∧ t.previous = some r.key))

/-- A beacon compared with the position of a side that has locked before: equal parity keeps the epoch and the keys;
an own q from 128 and a beacon below go FORWARD; the reverse goes BACK with the previous key; anything else, or no
previous key, is FAILED, which keeps the Miss Count, the model's reading (assumption 17). An expected beacon, judged
at its check frame: in step it locks with no miss; bad it is a counted miss in FLYWHEEL, and at the loss limit HUNT
with SYNC LOST; good but out of step it is a slip. In HUNT a side that has locked before compares a good beacon of its
mode so; a FAILED side examines nothing and stays FAILED, and its counter advances, with the next key and epoch at the
epoch's end. A LOCKED or FLYWHEEL side keeps the octets received at its own positions 0 to 3, the first of them in
place of any older ones, and those at the positions after the check frame change nothing kept; the field that holds
them is the model's, as is the mark that a frame was processed (assumption 18). The counter's advance: by one, and at
the end of the epoch to 0, with the next epoch and key and the key before kept. -/
def Obligations.LockedReceiverRelocksAndJudges : Prop :=
  (∀ (b : Interval) (q : Byte) (par ownQ : Nat) (slip : Bool) (r : RxPart), ownQ = r.n / b.frames →
     (r.epoch.toNat % 2 = par → r.relock b q par slip =
       ⟨⟨.locked, false, q.toNat * b.frames + 5, r.epoch, r.key, r.previous, 0, .none, Table.replicate 8 none, none, [],
         r.stepped⟩, true, some (.locked .same slip r.epoch q)⟩) ∧
     (r.epoch.toNat % 2 ≠ par → 128 ≤ ownQ → q.toNat < 128 → r.relock b q par slip =
       ⟨⟨.locked, false, q.toNat * b.frames + 5, r.epoch + 1, nextKey r.key, some r.key, 0, .none, Table.replicate 8 none,
         none, [], r.stepped⟩, true, some (.locked .forward slip (r.epoch + 1) q)⟩) ∧
     (∀ k, r.epoch.toNat % 2 ≠ par → ownQ < 128 → 128 ≤ q.toNat → r.previous = some k → r.relock b q par slip =
       ⟨⟨.locked, false, q.toNat * b.frames + 5, r.epoch - 1, k, none, 0, .none, Table.replicate 8 none, none, [],
         r.stepped⟩, true, some (.locked .back slip (r.epoch - 1) q)⟩) ∧
     (∀ cause, r.epoch.toNat % 2 ≠ par →
       (ownQ < 128 ∧ 128 ≤ q.toNat ∧ r.previous = none ∧ cause = .noPreviousKey) ∨
         (128 ≤ ownQ ∧ 128 ≤ q.toNat ∧ cause = .parity) ∨ (ownQ < 128 ∧ q.toNat < 128 ∧ cause = .parity) →
       r.relock b q par slip =
         ⟨{ r with state := .failed, parse := .none, rebuild := Table.replicate 8 none, ready := none, window := [] }, false,
           some (.failed cause r.epoch ownQ (r.epoch.toNat % 2) q par)⟩)) ∧
  (∀ (b : Interval) (mode : Mode) (loss : Nat) (key0 : Key) (m0 m1 q info check : Byte) (good : Prop) (r : RxPart),
     (good ↔ m0 = 150 ∧ m1 = 105 ∧ info.toNat < 4 ∧ check.toNat = 255 - (q.toNat + info.toNat) % 256 ∧
       (mode = .mask ↔ info.toNat < 2)) →
     r.n < 256 * b.frames → r.n % b.frames = 4 → r.window = [m0, m1, q, info] →
     r.state = .locked ∨ r.state = .flywheel →
     (good → q.toNat = r.n / b.frames → info.toNat % 2 = r.epoch.toNat % 2 →
       r.step b mode loss key0 check =
         ({ r with state := .locked, miss := 0, window := [], stepped := true, n := r.n + 1 }, none)) ∧
     (¬ good → r.miss + 1 < loss → r.step b mode loss key0 check =
       ({ r with state := .flywheel, miss := r.miss + 1, window := [], stepped := true, n := r.n + 1 }, none)) ∧
     (¬ good → loss ≤ r.miss + 1 → r.step b mode loss key0 check =
       ({ r with
         state := .hunt, virgin := false, miss := 0, parse := .none, window := [], rebuild := Table.replicate 8 none
         ready := none, stepped := true, n := r.n + 1 }, some (.lost r.epoch (r.n / b.frames)))) ∧
     (good → ¬ (q.toNat = r.n / b.frames ∧ info.toNat % 2 = r.epoch.toNat % 2) → ∃ e : Examined,
       e = { r with stepped := true }.relock b q (info.toNat % 2) true ∧
         r.step b mode loss key0 check = (if e.counterSet then e.rx else { e.rx with n := r.n + 1 }, e.event))) ∧
  ((∀ (b : Interval) (mode : Mode) (loss : Nat) (key0 : Key) (q info check : Byte) (r : RxPart), r.state = .hunt →
     r.virgin = false → r.parse = .seenInfo q info → info.toNat < 4 →
     check.toNat = 255 - (q.toNat + info.toNat) % 256 → (mode = .mask ↔ info.toNat < 2) → ∃ e : Examined,
       e = { r with stepped := true, parse := .none }.relock b q (info.toNat % 2) false ∧
         r.step b mode loss key0 check = (if e.counterSet then e.rx else e.rx.advance b, e.event)) ∧
   (∀ (b : Interval) (mode : Mode) (loss : Nat) (key0 : Key) (octet : Byte) (r : RxPart), r.state = .failed →
     ∃ t : RxPart, r.step b mode loss key0 octet = (t, none) ∧ t.state = .failed ∧
       (r.n + 1 < 256 * b.frames →
         t.n = r.n + 1 ∧ t.epoch = r.epoch ∧ t.key = r.key ∧ t.previous = r.previous) ∧
       (r.n + 1 = 256 * b.frames →
         t.n = 0 ∧ t.epoch = r.epoch + 1 ∧ t.key = nextKey r.key ∧ t.previous = some r.key))) ∧
  ((∀ (b : Interval) (mode : Mode) (loss : Nat) (key0 : Key) (octet : Byte) (r t : RxPart),
     r.state = .locked ∨ r.state = .flywheel → t = (r.step b mode loss key0 octet).1 →
     (r.n % b.frames = 0 → t.window = [octet]) ∧
     (1 ≤ r.n % b.frames → r.n % b.frames ≤ 3 → t.window = r.window ++ [octet]) ∧
     (5 ≤ r.n % b.frames → t.window = r.window)) ∧
   (∀ (b : Interval) (r : RxPart),
     (r.n + 1 < 256 * b.frames → r.advance b = { r with n := r.n + 1 }) ∧
     (r.n + 1 = 256 * b.frames →
       r.advance b = { r with n := 0, epoch := r.epoch + 1, previous := some r.key, key := nextKey r.key })))

/-! ## Calls, contexts and paths together -/

/-- Every step keeps ports, calls, contexts, wait queue, supplier and connection memory in agreement, beside
directory, ports and calls: a port's call stands in the table, a call's contexts and paths are its own, the wait queue
holds the contexts in KEY_WAIT, and every context in use has one SCRAMBLE and one DESCRAMBLE path. -/
def Obligations.CallsContextsAndPathsStayWired : Prop :=
  Kept (fun s => s.wired ∧ s.callsWired)
end

