-- ==== Sys2Proof/Laws/Table.lean ====
section
/-!
SUPPORT. Reading a table after an update, and searching one.
-/

namespace Sys2Proof.Table

variable {α β : Type} {n : Nat}

/-- Two tables with the same record at every position are equal. -/
theorem ext_get {t u : Table α n} (h : ∀ i, t.get i = u.get i) : t = u := by
  obtain ⟨tc, ts⟩ := t
  obtain ⟨uc, us⟩ := u
  have : tc = uc := by
    apply List.ext_get (by rw [ts, us])
    intro k hk _
    have := h ⟨k, ts ▸ hk⟩
    simpa [get] using this
  subst this
  rfl

/-- A read of a table just written: the new record at the position written, the old one elsewhere. -/
theorem get_set (t : Table α n) (i j : Fin n) (a : α) : (t.set i a).get j = if j = i then a else t.get j := by
  obtain ⟨tc, ts⟩ := t
  subst ts
  simp only [get, set, List.get_eq_getElem, List.getElem_set, Fin.ext_iff, eq_comm (a := j.val)]
  rfl

@[simp] theorem get_set_self (t : Table α n) (i : Fin n) (a : α) : (t.set i a).get i = a := by simp [get_set]

theorem get_set_ne (t : Table α n) {i j : Fin n} (a : α) (h : j ≠ i) : (t.set i a).get j = t.get j := by
  simp [get_set, h]

@[simp] theorem get_replicate (a : α) (i : Fin n) : (replicate n a).get i = a := by simp [get, replicate]

@[simp] theorem get_map (f : α → β) (t : Table α n) (i : Fin n) : (t.map f).get i = f (t.get i) := by
  simp [get, map]
  rfl

@[simp] theorem get_imap (f : Fin n → α → β) (t : Table α n) (i : Fin n) : (t.imap f).get i = f i (t.get i) := by
  simp [get, imap]
  rfl

@[simp] theorem get_tabulate (f : Fin n → α) (i : Fin n) : (tabulate f).get i = f i := by
  simp [get, tabulate]
  rfl

/-- Writing back what a position holds changes nothing. -/
@[simp] theorem set_get_self (t : Table α n) (i : Fin n) : t.set i (t.get i) = t := by
  apply ext_get
  intro j
  by_cases h : j = i
  · subst h; simp
  · simp [get_set, h]

/-- A position found passes the test. -/
theorem find?_passes {p : α → Bool} {t : Table α n} {i : Fin n} (h : t.find? p = some i) : p (t.get i) = true := by
  obtain ⟨tc, ts⟩ := t
  subst ts
  simp only [find?, Option.map_eq_some_iff] at h
  obtain ⟨k, hk, hi⟩ := h
  have := (List.findFinIdx?_eq_some_iff.mp hk).1
  subst hi
  simpa [get] using this

/-- No position found: none passes the test. -/
theorem find?_none {p : α → Bool} {t : Table α n} (h : t.find? p = none) (i : Fin n) : p (t.get i) = false := by
  obtain ⟨tc, ts⟩ := t
  subst ts
  simp only [find?, Option.map_eq_none_iff, List.findFinIdx?_eq_none_iff] at h
  have := h (tc.get i) (List.get_mem _ _)
  simpa [get] using this

/-- A position that passes the test, and is the only one to do so, is found. -/
theorem find?_unique {p : α → Bool} {t : Table α n} {i : Fin n} (hi : p (t.get i) = true)
    (only : ∀ j, p (t.get j) = true → j = i) : t.find? p = some i := by
  cases h : t.find? p with
  | none => exact absurd hi (by simp [find?_none h i])
  | some j => rw [only j (find?_passes h)]

end Sys2Proof.Table
end

