-- ==== Sys2Proof/Laws/State.lean ====
section
/-!
SUPPORT. What each named update of the state leaves of every field: one simp lemma per field per update, and the reads of
one record after an update.
-/

namespace Sys2Proof.Machine.State

variable (s : State)

/-! ## putEntry -/

@[simp] theorem putEntry_directory (ix : ExtIx) (e : Option Entry) : (s.putEntry ix e).directory = s.directory.set ix e := rfl
@[simp] theorem putEntry_classes (ix : ExtIx) (e : Option Entry) : (s.putEntry ix e).classes = s.classes := rfl
@[simp] theorem putEntry_challengeCounter (ix : ExtIx) (e : Option Entry) : (s.putEntry ix e).challengeCounter = s.challengeCounter := rfl
@[simp] theorem putEntry_nonceKey (ix : ExtIx) (e : Option Entry) : (s.putEntry ix e).nonceKey = s.nonceKey := rfl
@[simp] theorem putEntry_ports (ix : ExtIx) (e : Option Entry) : (s.putEntry ix e).ports = s.ports := rfl
@[simp] theorem putEntry_loops (ix : ExtIx) (e : Option Entry) : (s.putEntry ix e).loops = s.loops := rfl
@[simp] theorem putEntry_absenceLimit (ix : ExtIx) (e : Option Entry) : (s.putEntry ix e).absenceLimit = s.absenceLimit := rfl
@[simp] theorem putEntry_handed (ix : ExtIx) (e : Option Entry) : (s.putEntry ix e).handed = s.handed := rfl
@[simp] theorem putEntry_interdigitLimit (ix : ExtIx) (e : Option Entry) : (s.putEntry ix e).interdigitLimit = s.interdigitLimit := rfl
@[simp] theorem putEntry_screens (ix : ExtIx) (e : Option Entry) : (s.putEntry ix e).screens = s.screens := rfl
@[simp] theorem putEntry_calls (ix : ExtIx) (e : Option Entry) : (s.putEntry ix e).calls = s.calls := rfl
@[simp] theorem putEntry_nextId (ix : ExtIx) (e : Option Entry) : (s.putEntry ix e).nextId = s.nextId := rfl
@[simp] theorem putEntry_connections (ix : ExtIx) (e : Option Entry) : (s.putEntry ix e).connections = s.connections := rfl
@[simp] theorem putEntry_intercept (ix : ExtIx) (e : Option Entry) : (s.putEntry ix e).intercept = s.intercept := rfl
@[simp] theorem putEntry_idleOctet (ix : ExtIx) (e : Option Entry) : (s.putEntry ix e).idleOctet = s.idleOctet := rfl
@[simp] theorem putEntry_outputs (ix : ExtIx) (e : Option Entry) : (s.putEntry ix e).outputs = s.outputs := rfl
@[simp] theorem putEntry_timeBase (ix : ExtIx) (e : Option Entry) : (s.putEntry ix e).timeBase = s.timeBase := rfl
@[simp] theorem putEntry_ring (ix : ExtIx) (e : Option Entry) : (s.putEntry ix e).ring = s.ring := rfl
@[simp] theorem putEntry_pointer (ix : ExtIx) (e : Option Entry) : (s.putEntry ix e).pointer = s.pointer := rfl
@[simp] theorem putEntry_supplier (ix : ExtIx) (e : Option Entry) : (s.putEntry ix e).supplier = s.supplier := rfl
@[simp] theorem putEntry_waitQueue (ix : ExtIx) (e : Option Entry) : (s.putEntry ix e).waitQueue = s.waitQueue := rfl
@[simp] theorem putEntry_heldKeys (ix : ExtIx) (e : Option Entry) : (s.putEntry ix e).heldKeys = s.heldKeys := rfl
@[simp] theorem putEntry_contexts (ix : ExtIx) (e : Option Entry) : (s.putEntry ix e).contexts = s.contexts := rfl
@[simp] theorem putEntry_assembling (ix : ExtIx) (e : Option Entry) : (s.putEntry ix e).assembling = s.assembling := rfl
@[simp] theorem putEntry_holding (ix : ExtIx) (e : Option Entry) : (s.putEntry ix e).holding = s.holding := rfl
@[simp] theorem putEntry_handling (ix : ExtIx) (e : Option Entry) : (s.putEntry ix e).handling = s.handling := rfl
@[simp] theorem putEntry_reply (ix : ExtIx) (e : Option Entry) : (s.putEntry ix e).reply = s.reply := rfl
@[simp] theorem putEntry_line (ix : ExtIx) (e : Option Entry) : (s.putEntry ix e).line = s.line := rfl
@[simp] theorem putEntry_attention (ix : ExtIx) (e : Option Entry) : (s.putEntry ix e).attention = s.attention := rfl
@[simp] theorem putEntry_lost (ix : ExtIx) (e : Option Entry) : (s.putEntry ix e).lost = s.lost := rfl
@[simp] theorem putEntry_freeReads (ix : ExtIx) (e : Option Entry) : (s.putEntry ix e).freeReads = s.freeReads := rfl
@[simp] theorem putEntry_pending (ix : ExtIx) (e : Option Entry) : (s.putEntry ix e).pending = s.pending := rfl

/-! ## putPort -/

@[simp] theorem putPort_directory (p : Port) (r : PortRec) : (s.putPort p r).directory = s.directory := rfl
@[simp] theorem putPort_classes (p : Port) (r : PortRec) : (s.putPort p r).classes = s.classes := rfl
@[simp] theorem putPort_challengeCounter (p : Port) (r : PortRec) : (s.putPort p r).challengeCounter = s.challengeCounter := rfl
@[simp] theorem putPort_nonceKey (p : Port) (r : PortRec) : (s.putPort p r).nonceKey = s.nonceKey := rfl
@[simp] theorem putPort_ports (p : Port) (r : PortRec) : (s.putPort p r).ports = s.ports.set p r := rfl
@[simp] theorem putPort_loops (p : Port) (r : PortRec) : (s.putPort p r).loops = s.loops := rfl
@[simp] theorem putPort_absenceLimit (p : Port) (r : PortRec) : (s.putPort p r).absenceLimit = s.absenceLimit := rfl
@[simp] theorem putPort_handed (p : Port) (r : PortRec) : (s.putPort p r).handed = s.handed := rfl
@[simp] theorem putPort_interdigitLimit (p : Port) (r : PortRec) : (s.putPort p r).interdigitLimit = s.interdigitLimit := rfl
@[simp] theorem putPort_screens (p : Port) (r : PortRec) : (s.putPort p r).screens = s.screens := rfl
@[simp] theorem putPort_calls (p : Port) (r : PortRec) : (s.putPort p r).calls = s.calls := rfl
@[simp] theorem putPort_nextId (p : Port) (r : PortRec) : (s.putPort p r).nextId = s.nextId := rfl
@[simp] theorem putPort_connections (p : Port) (r : PortRec) : (s.putPort p r).connections = s.connections := rfl
@[simp] theorem putPort_intercept (p : Port) (r : PortRec) : (s.putPort p r).intercept = s.intercept := rfl
@[simp] theorem putPort_idleOctet (p : Port) (r : PortRec) : (s.putPort p r).idleOctet = s.idleOctet := rfl
@[simp] theorem putPort_outputs (p : Port) (r : PortRec) : (s.putPort p r).outputs = s.outputs := rfl
@[simp] theorem putPort_timeBase (p : Port) (r : PortRec) : (s.putPort p r).timeBase = s.timeBase := rfl
@[simp] theorem putPort_ring (p : Port) (r : PortRec) : (s.putPort p r).ring = s.ring := rfl
@[simp] theorem putPort_pointer (p : Port) (r : PortRec) : (s.putPort p r).pointer = s.pointer := rfl
@[simp] theorem putPort_supplier (p : Port) (r : PortRec) : (s.putPort p r).supplier = s.supplier := rfl
@[simp] theorem putPort_waitQueue (p : Port) (r : PortRec) : (s.putPort p r).waitQueue = s.waitQueue := rfl
@[simp] theorem putPort_heldKeys (p : Port) (r : PortRec) : (s.putPort p r).heldKeys = s.heldKeys := rfl
@[simp] theorem putPort_contexts (p : Port) (r : PortRec) : (s.putPort p r).contexts = s.contexts := rfl
@[simp] theorem putPort_assembling (p : Port) (r : PortRec) : (s.putPort p r).assembling = s.assembling := rfl
@[simp] theorem putPort_holding (p : Port) (r : PortRec) : (s.putPort p r).holding = s.holding := rfl
@[simp] theorem putPort_handling (p : Port) (r : PortRec) : (s.putPort p r).handling = s.handling := rfl
@[simp] theorem putPort_reply (p : Port) (r : PortRec) : (s.putPort p r).reply = s.reply := rfl
@[simp] theorem putPort_line (p : Port) (r : PortRec) : (s.putPort p r).line = s.line := rfl
@[simp] theorem putPort_attention (p : Port) (r : PortRec) : (s.putPort p r).attention = s.attention := rfl
@[simp] theorem putPort_lost (p : Port) (r : PortRec) : (s.putPort p r).lost = s.lost := rfl
@[simp] theorem putPort_freeReads (p : Port) (r : PortRec) : (s.putPort p r).freeReads = s.freeReads := rfl
@[simp] theorem putPort_pending (p : Port) (r : PortRec) : (s.putPort p r).pending = s.pending := rfl

/-! ## putLoop -/

@[simp] theorem putLoop_directory (l : LoopNo) (r : LoopRec) : (s.putLoop l r).directory = s.directory := rfl
@[simp] theorem putLoop_classes (l : LoopNo) (r : LoopRec) : (s.putLoop l r).classes = s.classes := rfl
@[simp] theorem putLoop_challengeCounter (l : LoopNo) (r : LoopRec) : (s.putLoop l r).challengeCounter = s.challengeCounter := rfl
@[simp] theorem putLoop_nonceKey (l : LoopNo) (r : LoopRec) : (s.putLoop l r).nonceKey = s.nonceKey := rfl
@[simp] theorem putLoop_ports (l : LoopNo) (r : LoopRec) : (s.putLoop l r).ports = s.ports := rfl
@[simp] theorem putLoop_loops (l : LoopNo) (r : LoopRec) : (s.putLoop l r).loops = s.loops.set l r := rfl
@[simp] theorem putLoop_absenceLimit (l : LoopNo) (r : LoopRec) : (s.putLoop l r).absenceLimit = s.absenceLimit := rfl
@[simp] theorem putLoop_handed (l : LoopNo) (r : LoopRec) : (s.putLoop l r).handed = s.handed := rfl
@[simp] theorem putLoop_interdigitLimit (l : LoopNo) (r : LoopRec) : (s.putLoop l r).interdigitLimit = s.interdigitLimit := rfl
@[simp] theorem putLoop_screens (l : LoopNo) (r : LoopRec) : (s.putLoop l r).screens = s.screens := rfl
@[simp] theorem putLoop_calls (l : LoopNo) (r : LoopRec) : (s.putLoop l r).calls = s.calls := rfl
@[simp] theorem putLoop_nextId (l : LoopNo) (r : LoopRec) : (s.putLoop l r).nextId = s.nextId := rfl
@[simp] theorem putLoop_connections (l : LoopNo) (r : LoopRec) : (s.putLoop l r).connections = s.connections := rfl
@[simp] theorem putLoop_intercept (l : LoopNo) (r : LoopRec) : (s.putLoop l r).intercept = s.intercept := rfl
@[simp] theorem putLoop_idleOctet (l : LoopNo) (r : LoopRec) : (s.putLoop l r).idleOctet = s.idleOctet := rfl
@[simp] theorem putLoop_outputs (l : LoopNo) (r : LoopRec) : (s.putLoop l r).outputs = s.outputs := rfl
@[simp] theorem putLoop_timeBase (l : LoopNo) (r : LoopRec) : (s.putLoop l r).timeBase = s.timeBase := rfl
@[simp] theorem putLoop_ring (l : LoopNo) (r : LoopRec) : (s.putLoop l r).ring = s.ring := rfl
@[simp] theorem putLoop_pointer (l : LoopNo) (r : LoopRec) : (s.putLoop l r).pointer = s.pointer := rfl
@[simp] theorem putLoop_supplier (l : LoopNo) (r : LoopRec) : (s.putLoop l r).supplier = s.supplier := rfl
@[simp] theorem putLoop_waitQueue (l : LoopNo) (r : LoopRec) : (s.putLoop l r).waitQueue = s.waitQueue := rfl
@[simp] theorem putLoop_heldKeys (l : LoopNo) (r : LoopRec) : (s.putLoop l r).heldKeys = s.heldKeys := rfl
@[simp] theorem putLoop_contexts (l : LoopNo) (r : LoopRec) : (s.putLoop l r).contexts = s.contexts := rfl
@[simp] theorem putLoop_assembling (l : LoopNo) (r : LoopRec) : (s.putLoop l r).assembling = s.assembling := rfl
@[simp] theorem putLoop_holding (l : LoopNo) (r : LoopRec) : (s.putLoop l r).holding = s.holding := rfl
@[simp] theorem putLoop_handling (l : LoopNo) (r : LoopRec) : (s.putLoop l r).handling = s.handling := rfl
@[simp] theorem putLoop_reply (l : LoopNo) (r : LoopRec) : (s.putLoop l r).reply = s.reply := rfl
@[simp] theorem putLoop_line (l : LoopNo) (r : LoopRec) : (s.putLoop l r).line = s.line := rfl
@[simp] theorem putLoop_attention (l : LoopNo) (r : LoopRec) : (s.putLoop l r).attention = s.attention := rfl
@[simp] theorem putLoop_lost (l : LoopNo) (r : LoopRec) : (s.putLoop l r).lost = s.lost := rfl
@[simp] theorem putLoop_freeReads (l : LoopNo) (r : LoopRec) : (s.putLoop l r).freeReads = s.freeReads := rfl
@[simp] theorem putLoop_pending (l : LoopNo) (r : LoopRec) : (s.putLoop l r).pending = s.pending := rfl

/-! ## putContext -/

@[simp] theorem putContext_directory (c : CtxId) (r : Context) : (s.putContext c r).directory = s.directory := rfl
@[simp] theorem putContext_classes (c : CtxId) (r : Context) : (s.putContext c r).classes = s.classes := rfl
@[simp] theorem putContext_challengeCounter (c : CtxId) (r : Context) : (s.putContext c r).challengeCounter = s.challengeCounter := rfl
@[simp] theorem putContext_nonceKey (c : CtxId) (r : Context) : (s.putContext c r).nonceKey = s.nonceKey := rfl
@[simp] theorem putContext_ports (c : CtxId) (r : Context) : (s.putContext c r).ports = s.ports := rfl
@[simp] theorem putContext_loops (c : CtxId) (r : Context) : (s.putContext c r).loops = s.loops := rfl
@[simp] theorem putContext_absenceLimit (c : CtxId) (r : Context) : (s.putContext c r).absenceLimit = s.absenceLimit := rfl
@[simp] theorem putContext_handed (c : CtxId) (r : Context) : (s.putContext c r).handed = s.handed := rfl
@[simp] theorem putContext_interdigitLimit (c : CtxId) (r : Context) : (s.putContext c r).interdigitLimit = s.interdigitLimit := rfl
@[simp] theorem putContext_screens (c : CtxId) (r : Context) : (s.putContext c r).screens = s.screens := rfl
@[simp] theorem putContext_calls (c : CtxId) (r : Context) : (s.putContext c r).calls = s.calls := rfl
@[simp] theorem putContext_nextId (c : CtxId) (r : Context) : (s.putContext c r).nextId = s.nextId := rfl
@[simp] theorem putContext_connections (c : CtxId) (r : Context) : (s.putContext c r).connections = s.connections := rfl
@[simp] theorem putContext_intercept (c : CtxId) (r : Context) : (s.putContext c r).intercept = s.intercept := rfl
@[simp] theorem putContext_idleOctet (c : CtxId) (r : Context) : (s.putContext c r).idleOctet = s.idleOctet := rfl
@[simp] theorem putContext_outputs (c : CtxId) (r : Context) : (s.putContext c r).outputs = s.outputs := rfl
@[simp] theorem putContext_timeBase (c : CtxId) (r : Context) : (s.putContext c r).timeBase = s.timeBase := rfl
@[simp] theorem putContext_ring (c : CtxId) (r : Context) : (s.putContext c r).ring = s.ring := rfl
@[simp] theorem putContext_pointer (c : CtxId) (r : Context) : (s.putContext c r).pointer = s.pointer := rfl
@[simp] theorem putContext_supplier (c : CtxId) (r : Context) : (s.putContext c r).supplier = s.supplier := rfl
@[simp] theorem putContext_waitQueue (c : CtxId) (r : Context) : (s.putContext c r).waitQueue = s.waitQueue := rfl
@[simp] theorem putContext_heldKeys (c : CtxId) (r : Context) : (s.putContext c r).heldKeys = s.heldKeys := rfl
@[simp] theorem putContext_contexts (c : CtxId) (r : Context) : (s.putContext c r).contexts = s.contexts.set c r := rfl
@[simp] theorem putContext_assembling (c : CtxId) (r : Context) : (s.putContext c r).assembling = s.assembling := rfl
@[simp] theorem putContext_holding (c : CtxId) (r : Context) : (s.putContext c r).holding = s.holding := rfl
@[simp] theorem putContext_handling (c : CtxId) (r : Context) : (s.putContext c r).handling = s.handling := rfl
@[simp] theorem putContext_reply (c : CtxId) (r : Context) : (s.putContext c r).reply = s.reply := rfl
@[simp] theorem putContext_line (c : CtxId) (r : Context) : (s.putContext c r).line = s.line := rfl
@[simp] theorem putContext_attention (c : CtxId) (r : Context) : (s.putContext c r).attention = s.attention := rfl
@[simp] theorem putContext_lost (c : CtxId) (r : Context) : (s.putContext c r).lost = s.lost := rfl
@[simp] theorem putContext_freeReads (c : CtxId) (r : Context) : (s.putContext c r).freeReads = s.freeReads := rfl
@[simp] theorem putContext_pending (c : CtxId) (r : Context) : (s.putContext c r).pending = s.pending := rfl

/-! ## putCall -/

@[simp] theorem putCall_directory (i : Fin 128) (c : Option Call) : (s.putCall i c).directory = s.directory := rfl
@[simp] theorem putCall_classes (i : Fin 128) (c : Option Call) : (s.putCall i c).classes = s.classes := rfl
@[simp] theorem putCall_challengeCounter (i : Fin 128) (c : Option Call) : (s.putCall i c).challengeCounter = s.challengeCounter := rfl
@[simp] theorem putCall_nonceKey (i : Fin 128) (c : Option Call) : (s.putCall i c).nonceKey = s.nonceKey := rfl
@[simp] theorem putCall_ports (i : Fin 128) (c : Option Call) : (s.putCall i c).ports = s.ports := rfl
@[simp] theorem putCall_loops (i : Fin 128) (c : Option Call) : (s.putCall i c).loops = s.loops := rfl
@[simp] theorem putCall_absenceLimit (i : Fin 128) (c : Option Call) : (s.putCall i c).absenceLimit = s.absenceLimit := rfl
@[simp] theorem putCall_handed (i : Fin 128) (c : Option Call) : (s.putCall i c).handed = s.handed := rfl
@[simp] theorem putCall_interdigitLimit (i : Fin 128) (c : Option Call) : (s.putCall i c).interdigitLimit = s.interdigitLimit := rfl
@[simp] theorem putCall_screens (i : Fin 128) (c : Option Call) : (s.putCall i c).screens = s.screens := rfl
@[simp] theorem putCall_calls (i : Fin 128) (c : Option Call) : (s.putCall i c).calls = s.calls.set i c := rfl
@[simp] theorem putCall_nextId (i : Fin 128) (c : Option Call) : (s.putCall i c).nextId = s.nextId := rfl
@[simp] theorem putCall_connections (i : Fin 128) (c : Option Call) : (s.putCall i c).connections = s.connections := rfl
@[simp] theorem putCall_intercept (i : Fin 128) (c : Option Call) : (s.putCall i c).intercept = s.intercept := rfl
@[simp] theorem putCall_idleOctet (i : Fin 128) (c : Option Call) : (s.putCall i c).idleOctet = s.idleOctet := rfl
@[simp] theorem putCall_outputs (i : Fin 128) (c : Option Call) : (s.putCall i c).outputs = s.outputs := rfl
@[simp] theorem putCall_timeBase (i : Fin 128) (c : Option Call) : (s.putCall i c).timeBase = s.timeBase := rfl
@[simp] theorem putCall_ring (i : Fin 128) (c : Option Call) : (s.putCall i c).ring = s.ring := rfl
@[simp] theorem putCall_pointer (i : Fin 128) (c : Option Call) : (s.putCall i c).pointer = s.pointer := rfl
@[simp] theorem putCall_supplier (i : Fin 128) (c : Option Call) : (s.putCall i c).supplier = s.supplier := rfl
@[simp] theorem putCall_waitQueue (i : Fin 128) (c : Option Call) : (s.putCall i c).waitQueue = s.waitQueue := rfl
@[simp] theorem putCall_heldKeys (i : Fin 128) (c : Option Call) : (s.putCall i c).heldKeys = s.heldKeys := rfl
@[simp] theorem putCall_contexts (i : Fin 128) (c : Option Call) : (s.putCall i c).contexts = s.contexts := rfl
@[simp] theorem putCall_assembling (i : Fin 128) (c : Option Call) : (s.putCall i c).assembling = s.assembling := rfl
@[simp] theorem putCall_holding (i : Fin 128) (c : Option Call) : (s.putCall i c).holding = s.holding := rfl
@[simp] theorem putCall_handling (i : Fin 128) (c : Option Call) : (s.putCall i c).handling = s.handling := rfl
@[simp] theorem putCall_reply (i : Fin 128) (c : Option Call) : (s.putCall i c).reply = s.reply := rfl
@[simp] theorem putCall_line (i : Fin 128) (c : Option Call) : (s.putCall i c).line = s.line := rfl
@[simp] theorem putCall_attention (i : Fin 128) (c : Option Call) : (s.putCall i c).attention = s.attention := rfl
@[simp] theorem putCall_lost (i : Fin 128) (c : Option Call) : (s.putCall i c).lost = s.lost := rfl
@[simp] theorem putCall_freeReads (i : Fin 128) (c : Option Call) : (s.putCall i c).freeReads = s.freeReads := rfl
@[simp] theorem putCall_pending (i : Fin 128) (c : Option Call) : (s.putCall i c).pending = s.pending := rfl

/-! ## raise -/

@[simp] theorem raise_directory (item : Item) : (s.raise item).directory = s.directory := rfl
@[simp] theorem raise_classes (item : Item) : (s.raise item).classes = s.classes := rfl
@[simp] theorem raise_challengeCounter (item : Item) : (s.raise item).challengeCounter = s.challengeCounter := rfl
@[simp] theorem raise_nonceKey (item : Item) : (s.raise item).nonceKey = s.nonceKey := rfl
@[simp] theorem raise_ports (item : Item) : (s.raise item).ports = s.ports := rfl
@[simp] theorem raise_loops (item : Item) : (s.raise item).loops = s.loops := rfl
@[simp] theorem raise_absenceLimit (item : Item) : (s.raise item).absenceLimit = s.absenceLimit := rfl
@[simp] theorem raise_handed (item : Item) : (s.raise item).handed = s.handed := rfl
@[simp] theorem raise_interdigitLimit (item : Item) : (s.raise item).interdigitLimit = s.interdigitLimit := rfl
@[simp] theorem raise_screens (item : Item) : (s.raise item).screens = s.screens := rfl
@[simp] theorem raise_calls (item : Item) : (s.raise item).calls = s.calls := rfl
@[simp] theorem raise_nextId (item : Item) : (s.raise item).nextId = s.nextId := rfl
@[simp] theorem raise_connections (item : Item) : (s.raise item).connections = s.connections := rfl
@[simp] theorem raise_intercept (item : Item) : (s.raise item).intercept = s.intercept := rfl
@[simp] theorem raise_idleOctet (item : Item) : (s.raise item).idleOctet = s.idleOctet := rfl
@[simp] theorem raise_outputs (item : Item) : (s.raise item).outputs = s.outputs := rfl
@[simp] theorem raise_timeBase (item : Item) : (s.raise item).timeBase = s.timeBase := rfl
@[simp] theorem raise_ring (item : Item) : (s.raise item).ring = s.ring := rfl
@[simp] theorem raise_pointer (item : Item) : (s.raise item).pointer = s.pointer := rfl
@[simp] theorem raise_supplier (item : Item) : (s.raise item).supplier = s.supplier := rfl
@[simp] theorem raise_waitQueue (item : Item) : (s.raise item).waitQueue = s.waitQueue := rfl
@[simp] theorem raise_heldKeys (item : Item) : (s.raise item).heldKeys = s.heldKeys := rfl
@[simp] theorem raise_contexts (item : Item) : (s.raise item).contexts = s.contexts := rfl
@[simp] theorem raise_assembling (item : Item) : (s.raise item).assembling = s.assembling := rfl
@[simp] theorem raise_holding (item : Item) : (s.raise item).holding = s.holding := rfl
@[simp] theorem raise_handling (item : Item) : (s.raise item).handling = s.handling := rfl
@[simp] theorem raise_freeReads (item : Item) : (s.raise item).freeReads = s.freeReads := rfl
@[simp] theorem raise_pending (item : Item) : (s.raise item).pending = s.pending := rfl
@[simp] theorem raise_outgoing (item : Item) : (s.raise item).outgoing = Outgoing.arrive { s.outgoing with
    attention := (offerItem item s.attention s.lost).1, lost := (offerItem item s.attention s.lost).2 } := rfl

/-! ## withOutgoing -/

@[simp] theorem withOutgoing_directory (o : Outgoing) : (s.withOutgoing o).directory = s.directory := rfl
@[simp] theorem withOutgoing_classes (o : Outgoing) : (s.withOutgoing o).classes = s.classes := rfl
@[simp] theorem withOutgoing_challengeCounter (o : Outgoing) : (s.withOutgoing o).challengeCounter = s.challengeCounter := rfl
@[simp] theorem withOutgoing_nonceKey (o : Outgoing) : (s.withOutgoing o).nonceKey = s.nonceKey := rfl
@[simp] theorem withOutgoing_ports (o : Outgoing) : (s.withOutgoing o).ports = s.ports := rfl
@[simp] theorem withOutgoing_loops (o : Outgoing) : (s.withOutgoing o).loops = s.loops := rfl
@[simp] theorem withOutgoing_absenceLimit (o : Outgoing) : (s.withOutgoing o).absenceLimit = s.absenceLimit := rfl
@[simp] theorem withOutgoing_handed (o : Outgoing) : (s.withOutgoing o).handed = s.handed := rfl
@[simp] theorem withOutgoing_interdigitLimit (o : Outgoing) : (s.withOutgoing o).interdigitLimit = s.interdigitLimit := rfl
@[simp] theorem withOutgoing_screens (o : Outgoing) : (s.withOutgoing o).screens = s.screens := rfl
@[simp] theorem withOutgoing_calls (o : Outgoing) : (s.withOutgoing o).calls = s.calls := rfl
@[simp] theorem withOutgoing_nextId (o : Outgoing) : (s.withOutgoing o).nextId = s.nextId := rfl
@[simp] theorem withOutgoing_connections (o : Outgoing) : (s.withOutgoing o).connections = s.connections := rfl
@[simp] theorem withOutgoing_intercept (o : Outgoing) : (s.withOutgoing o).intercept = s.intercept := rfl
@[simp] theorem withOutgoing_idleOctet (o : Outgoing) : (s.withOutgoing o).idleOctet = s.idleOctet := rfl
@[simp] theorem withOutgoing_outputs (o : Outgoing) : (s.withOutgoing o).outputs = s.outputs := rfl
@[simp] theorem withOutgoing_timeBase (o : Outgoing) : (s.withOutgoing o).timeBase = s.timeBase := rfl
@[simp] theorem withOutgoing_ring (o : Outgoing) : (s.withOutgoing o).ring = s.ring := rfl
@[simp] theorem withOutgoing_pointer (o : Outgoing) : (s.withOutgoing o).pointer = s.pointer := rfl
@[simp] theorem withOutgoing_supplier (o : Outgoing) : (s.withOutgoing o).supplier = s.supplier := rfl
@[simp] theorem withOutgoing_waitQueue (o : Outgoing) : (s.withOutgoing o).waitQueue = s.waitQueue := rfl
@[simp] theorem withOutgoing_heldKeys (o : Outgoing) : (s.withOutgoing o).heldKeys = s.heldKeys := rfl
@[simp] theorem withOutgoing_contexts (o : Outgoing) : (s.withOutgoing o).contexts = s.contexts := rfl
@[simp] theorem withOutgoing_assembling (o : Outgoing) : (s.withOutgoing o).assembling = s.assembling := rfl
@[simp] theorem withOutgoing_holding (o : Outgoing) : (s.withOutgoing o).holding = s.holding := rfl
@[simp] theorem withOutgoing_handling (o : Outgoing) : (s.withOutgoing o).handling = s.handling := rfl
@[simp] theorem withOutgoing_freeReads (o : Outgoing) : (s.withOutgoing o).freeReads = s.freeReads := rfl
@[simp] theorem withOutgoing_pending (o : Outgoing) : (s.withOutgoing o).pending = s.pending := rfl
@[simp] theorem withOutgoing_line (o : Outgoing) : (s.withOutgoing o).line = o.line := rfl
@[simp] theorem withOutgoing_reply (o : Outgoing) : (s.withOutgoing o).reply = o.reply := rfl
@[simp] theorem withOutgoing_attention (o : Outgoing) : (s.withOutgoing o).attention = o.attention := rfl
@[simp] theorem withOutgoing_lost (o : Outgoing) : (s.withOutgoing o).lost = o.lost := rfl
@[simp] theorem withOutgoing_outgoing (o : Outgoing) : (s.withOutgoing o).outgoing = o := rfl

/-! ## postReply -/

@[simp] theorem postReply_directory (r : Reply) : (s.postReply r).directory = s.directory := rfl
@[simp] theorem postReply_classes (r : Reply) : (s.postReply r).classes = s.classes := rfl
@[simp] theorem postReply_challengeCounter (r : Reply) : (s.postReply r).challengeCounter = s.challengeCounter := rfl
@[simp] theorem postReply_nonceKey (r : Reply) : (s.postReply r).nonceKey = s.nonceKey := rfl
@[simp] theorem postReply_ports (r : Reply) : (s.postReply r).ports = s.ports := rfl
@[simp] theorem postReply_loops (r : Reply) : (s.postReply r).loops = s.loops := rfl
@[simp] theorem postReply_absenceLimit (r : Reply) : (s.postReply r).absenceLimit = s.absenceLimit := rfl
@[simp] theorem postReply_handed (r : Reply) : (s.postReply r).handed = s.handed := rfl
@[simp] theorem postReply_interdigitLimit (r : Reply) : (s.postReply r).interdigitLimit = s.interdigitLimit := rfl
@[simp] theorem postReply_screens (r : Reply) : (s.postReply r).screens = s.screens := rfl
@[simp] theorem postReply_calls (r : Reply) : (s.postReply r).calls = s.calls := rfl
@[simp] theorem postReply_nextId (r : Reply) : (s.postReply r).nextId = s.nextId := rfl
@[simp] theorem postReply_connections (r : Reply) : (s.postReply r).connections = s.connections := rfl
@[simp] theorem postReply_intercept (r : Reply) : (s.postReply r).intercept = s.intercept := rfl
@[simp] theorem postReply_idleOctet (r : Reply) : (s.postReply r).idleOctet = s.idleOctet := rfl
@[simp] theorem postReply_outputs (r : Reply) : (s.postReply r).outputs = s.outputs := rfl
@[simp] theorem postReply_timeBase (r : Reply) : (s.postReply r).timeBase = s.timeBase := rfl
@[simp] theorem postReply_ring (r : Reply) : (s.postReply r).ring = s.ring := rfl
@[simp] theorem postReply_pointer (r : Reply) : (s.postReply r).pointer = s.pointer := rfl
@[simp] theorem postReply_supplier (r : Reply) : (s.postReply r).supplier = s.supplier := rfl
@[simp] theorem postReply_waitQueue (r : Reply) : (s.postReply r).waitQueue = s.waitQueue := rfl
@[simp] theorem postReply_heldKeys (r : Reply) : (s.postReply r).heldKeys = s.heldKeys := rfl
@[simp] theorem postReply_contexts (r : Reply) : (s.postReply r).contexts = s.contexts := rfl
@[simp] theorem postReply_assembling (r : Reply) : (s.postReply r).assembling = s.assembling := rfl
@[simp] theorem postReply_holding (r : Reply) : (s.postReply r).holding = s.holding := rfl
@[simp] theorem postReply_handling (r : Reply) : (s.postReply r).handling = s.handling := rfl
@[simp] theorem postReply_freeReads (r : Reply) : (s.postReply r).freeReads = s.freeReads := rfl
@[simp] theorem postReply_pending (r : Reply) : (s.postReply r).pending = s.pending := rfl
@[simp] theorem postReply_outgoing (r : Reply) :
    (s.postReply r).outgoing = Outgoing.arrive { s.outgoing with reply := some r } := rfl

/-! ## spendNonce -/

@[simp] theorem spendNonce_directory : (s.spendNonce).directory = s.directory := rfl
@[simp] theorem spendNonce_classes : (s.spendNonce).classes = s.classes := rfl
@[simp] theorem spendNonce_challengeCounter : (s.spendNonce).challengeCounter = s.challengeCounter + 2 := rfl
@[simp] theorem spendNonce_nonceKey : (s.spendNonce).nonceKey = s.nonceKey := rfl
@[simp] theorem spendNonce_ports : (s.spendNonce).ports = s.ports := rfl
@[simp] theorem spendNonce_loops : (s.spendNonce).loops = s.loops := rfl
@[simp] theorem spendNonce_absenceLimit : (s.spendNonce).absenceLimit = s.absenceLimit := rfl
@[simp] theorem spendNonce_handed : (s.spendNonce).handed = s.handed := rfl
@[simp] theorem spendNonce_interdigitLimit : (s.spendNonce).interdigitLimit = s.interdigitLimit := rfl
@[simp] theorem spendNonce_screens : (s.spendNonce).screens = s.screens := rfl
@[simp] theorem spendNonce_calls : (s.spendNonce).calls = s.calls := rfl
@[simp] theorem spendNonce_nextId : (s.spendNonce).nextId = s.nextId := rfl
@[simp] theorem spendNonce_connections : (s.spendNonce).connections = s.connections := rfl
@[simp] theorem spendNonce_intercept : (s.spendNonce).intercept = s.intercept := rfl
@[simp] theorem spendNonce_idleOctet : (s.spendNonce).idleOctet = s.idleOctet := rfl
@[simp] theorem spendNonce_outputs : (s.spendNonce).outputs = s.outputs := rfl
@[simp] theorem spendNonce_timeBase : (s.spendNonce).timeBase = s.timeBase := rfl
@[simp] theorem spendNonce_ring : (s.spendNonce).ring = s.ring := rfl
@[simp] theorem spendNonce_pointer : (s.spendNonce).pointer = s.pointer := rfl
@[simp] theorem spendNonce_supplier : (s.spendNonce).supplier = s.supplier := rfl
@[simp] theorem spendNonce_waitQueue : (s.spendNonce).waitQueue = s.waitQueue := rfl
@[simp] theorem spendNonce_heldKeys : (s.spendNonce).heldKeys = s.heldKeys := rfl
@[simp] theorem spendNonce_contexts : (s.spendNonce).contexts = s.contexts := rfl
@[simp] theorem spendNonce_assembling : (s.spendNonce).assembling = s.assembling := rfl
@[simp] theorem spendNonce_holding : (s.spendNonce).holding = s.holding := rfl
@[simp] theorem spendNonce_handling : (s.spendNonce).handling = s.handling := rfl
@[simp] theorem spendNonce_reply : (s.spendNonce).reply = s.reply := rfl
@[simp] theorem spendNonce_line : (s.spendNonce).line = s.line := rfl
@[simp] theorem spendNonce_attention : (s.spendNonce).attention = s.attention := rfl
@[simp] theorem spendNonce_lost : (s.spendNonce).lost = s.lost := rfl
@[simp] theorem spendNonce_freeReads : (s.spendNonce).freeReads = s.freeReads := rfl
@[simp] theorem spendNonce_pending : (s.spendNonce).pending = s.pending := rfl

/-! ## admitFrame -/

@[simp] theorem admitFrame_directory (f : Frame) : (s.admitFrame f).directory = s.directory := rfl
@[simp] theorem admitFrame_classes (f : Frame) : (s.admitFrame f).classes = s.classes := rfl
@[simp] theorem admitFrame_challengeCounter (f : Frame) : (s.admitFrame f).challengeCounter = s.challengeCounter := rfl
@[simp] theorem admitFrame_nonceKey (f : Frame) : (s.admitFrame f).nonceKey = s.nonceKey := rfl
@[simp] theorem admitFrame_ports (f : Frame) : (s.admitFrame f).ports = s.ports := rfl
@[simp] theorem admitFrame_loops (f : Frame) : (s.admitFrame f).loops = s.loops := rfl
@[simp] theorem admitFrame_absenceLimit (f : Frame) : (s.admitFrame f).absenceLimit = s.absenceLimit := rfl
@[simp] theorem admitFrame_handed (f : Frame) : (s.admitFrame f).handed = s.handed := rfl
@[simp] theorem admitFrame_interdigitLimit (f : Frame) : (s.admitFrame f).interdigitLimit = s.interdigitLimit := rfl
@[simp] theorem admitFrame_screens (f : Frame) : (s.admitFrame f).screens = s.screens := rfl
@[simp] theorem admitFrame_calls (f : Frame) : (s.admitFrame f).calls = s.calls := rfl
@[simp] theorem admitFrame_nextId (f : Frame) : (s.admitFrame f).nextId = s.nextId := rfl
@[simp] theorem admitFrame_connections (f : Frame) : (s.admitFrame f).connections = s.connections := rfl
@[simp] theorem admitFrame_intercept (f : Frame) : (s.admitFrame f).intercept = s.intercept := rfl
@[simp] theorem admitFrame_idleOctet (f : Frame) : (s.admitFrame f).idleOctet = s.idleOctet := rfl
@[simp] theorem admitFrame_outputs (f : Frame) : (s.admitFrame f).outputs = s.outputs := rfl
@[simp] theorem admitFrame_timeBase (f : Frame) : (s.admitFrame f).timeBase = s.timeBase := rfl
@[simp] theorem admitFrame_ring (f : Frame) : (s.admitFrame f).ring = s.ring := rfl
@[simp] theorem admitFrame_pointer (f : Frame) : (s.admitFrame f).pointer = s.pointer := rfl
@[simp] theorem admitFrame_supplier (f : Frame) : (s.admitFrame f).supplier = s.supplier := rfl
@[simp] theorem admitFrame_waitQueue (f : Frame) : (s.admitFrame f).waitQueue = s.waitQueue := rfl
@[simp] theorem admitFrame_heldKeys (f : Frame) : (s.admitFrame f).heldKeys = s.heldKeys := rfl
@[simp] theorem admitFrame_contexts (f : Frame) : (s.admitFrame f).contexts = s.contexts := rfl
@[simp] theorem admitFrame_assembling (f : Frame) : (s.admitFrame f).assembling = s.assembling := rfl
@[simp] theorem admitFrame_holding (f : Frame) : (s.admitFrame f).holding = if s.holding.isEmpty then [f] else s.holding := rfl
@[simp] theorem admitFrame_handling (f : Frame) : (s.admitFrame f).handling = s.handling := rfl
@[simp] theorem admitFrame_reply (f : Frame) : (s.admitFrame f).reply = s.reply := rfl
@[simp] theorem admitFrame_line (f : Frame) : (s.admitFrame f).line = s.line := rfl
@[simp] theorem admitFrame_attention (f : Frame) : (s.admitFrame f).attention = s.attention := rfl
@[simp] theorem admitFrame_lost (f : Frame) : (s.admitFrame f).lost = s.lost := rfl
@[simp] theorem admitFrame_freeReads (f : Frame) : (s.admitFrame f).freeReads = s.freeReads := rfl
@[simp] theorem admitFrame_pending (f : Frame) : (s.admitFrame f).pending = s.pending := rfl

/-! ## Reads of one record -/

@[simp] theorem entry_putEntry (ix : ExtIx) (e : Option Entry) (jx : ExtIx) :
    (s.putEntry ix e).entry? jx = if jx = ix then e else s.entry? jx := Table.get_set _ _ _ _
@[simp] theorem entry_putPort (p : Port) (r : PortRec) (jx : ExtIx) : (s.putPort p r).entry? jx = s.entry? jx := rfl
@[simp] theorem entry_putLoop (l : LoopNo) (r : LoopRec) (jx : ExtIx) : (s.putLoop l r).entry? jx = s.entry? jx := rfl
@[simp] theorem entry_putContext (c : CtxId) (r : Context) (jx : ExtIx) : (s.putContext c r).entry? jx = s.entry? jx := rfl
@[simp] theorem entry_putCall (i : Fin 128) (c : Option Call) (jx : ExtIx) : (s.putCall i c).entry? jx = s.entry? jx := rfl
@[simp] theorem entry_raise (item : Item) (jx : ExtIx) : (s.raise item).entry? jx = s.entry? jx := rfl
@[simp] theorem entry_spendNonce (jx : ExtIx) : (s.spendNonce).entry? jx = s.entry? jx := rfl
@[simp] theorem entry_admitFrame (f : Frame) (jx : ExtIx) : (s.admitFrame f).entry? jx = s.entry? jx := rfl

@[simp] theorem port_putEntry (ix : ExtIx) (e : Option Entry) (q : Port) : (s.putEntry ix e).port q = s.port q := rfl
@[simp] theorem port_putPort (p : Port) (r : PortRec) (q : Port) :
    (s.putPort p r).port q = if q = p then r else s.port q := Table.get_set _ _ _ _
@[simp] theorem port_putLoop (l : LoopNo) (r : LoopRec) (q : Port) : (s.putLoop l r).port q = s.port q := rfl
@[simp] theorem port_putContext (c : CtxId) (r : Context) (q : Port) : (s.putContext c r).port q = s.port q := rfl
@[simp] theorem port_putCall (i : Fin 128) (c : Option Call) (q : Port) : (s.putCall i c).port q = s.port q := rfl
@[simp] theorem port_raise (item : Item) (q : Port) : (s.raise item).port q = s.port q := rfl
@[simp] theorem port_spendNonce (q : Port) : (s.spendNonce).port q = s.port q := rfl
@[simp] theorem port_admitFrame (f : Frame) (q : Port) : (s.admitFrame f).port q = s.port q := rfl

@[simp] theorem loop_putEntry (ix : ExtIx) (e : Option Entry) (m : LoopNo) : (s.putEntry ix e).loop m = s.loop m := rfl
@[simp] theorem loop_putPort (p : Port) (r : PortRec) (m : LoopNo) : (s.putPort p r).loop m = s.loop m := rfl
@[simp] theorem loop_putLoop (l : LoopNo) (r : LoopRec) (m : LoopNo) :
    (s.putLoop l r).loop m = if m = l then r else s.loop m := Table.get_set _ _ _ _
@[simp] theorem loop_putContext (c : CtxId) (r : Context) (m : LoopNo) : (s.putContext c r).loop m = s.loop m := rfl
@[simp] theorem loop_putCall (i : Fin 128) (c : Option Call) (m : LoopNo) : (s.putCall i c).loop m = s.loop m := rfl
@[simp] theorem loop_raise (item : Item) (m : LoopNo) : (s.raise item).loop m = s.loop m := rfl
@[simp] theorem loop_spendNonce (m : LoopNo) : (s.spendNonce).loop m = s.loop m := rfl
@[simp] theorem loop_admitFrame (f : Frame) (m : LoopNo) : (s.admitFrame f).loop m = s.loop m := rfl

@[simp] theorem context_putEntry (ix : ExtIx) (e : Option Entry) (d : CtxId) : (s.putEntry ix e).context d = s.context d := rfl
@[simp] theorem context_putPort (p : Port) (r : PortRec) (d : CtxId) : (s.putPort p r).context d = s.context d := rfl
@[simp] theorem context_putLoop (l : LoopNo) (r : LoopRec) (d : CtxId) : (s.putLoop l r).context d = s.context d := rfl
@[simp] theorem context_putContext (c : CtxId) (r : Context) (d : CtxId) :
    (s.putContext c r).context d = if d = c then r else s.context d := Table.get_set _ _ _ _
@[simp] theorem context_putCall (i : Fin 128) (c : Option Call) (d : CtxId) : (s.putCall i c).context d = s.context d := rfl
@[simp] theorem context_raise (item : Item) (d : CtxId) : (s.raise item).context d = s.context d := rfl
@[simp] theorem context_spendNonce (d : CtxId) : (s.spendNonce).context d = s.context d := rfl
@[simp] theorem context_admitFrame (f : Frame) (d : CtxId) : (s.admitFrame f).context d = s.context d := rfl

/-- Changing an occupied position, or none, is one write of it. -/
theorem modEntry_eq (ix : ExtIx) (f : Entry → Entry) : s.modEntry ix f = s.putEntry ix ((s.entry? ix).map f) := rfl

@[simp] theorem entry_modEntry (ix : ExtIx) (f : Entry → Entry) (jx : ExtIx) :
    (s.modEntry ix f).entry? jx = if jx = ix then (s.entry? ix).map f else s.entry? jx := by simp [modEntry]

end Sys2Proof.Machine.State
end

