-- ==== Sys2Proof/Laws/Ops.lean ====
section
/-!
SUPPORT. What each shared operation can change: one lemma per operation, cited in place of its body. `AdmissionOnly s t`
says that t is s but for the directory, the ports, the loops, the outgoing side of the link and the challenge counter;
`CallsOnly s t` allows the call table, connection memory, the contexts and the key store as well.
-/

namespace Sys2Proof.Machine

/-- Only the objects of the admission, loop and dial units and the outgoing side of the link differ. -/
def AdmissionOnly (s t : State) : Prop :=
  ∃ D P L O N, t = { s.withOutgoing O with directory := D, ports := P, loops := L, challengeCounter := N }

/-- Only the objects of AdmissionOnly, the calls, the paths, the contexts and the key store differ. -/
def CallsOnly (s t : State) : Prop :=
  ∃ u, AdmissionOnly s u ∧ ∃ C I X Y W R Q V, t = { u with
    calls := C, nextId := I, connections := X, contexts := Y, waitQueue := W, ring := R, pointer := Q, supplier := V }

namespace AdmissionOnly

theorem refl (s : State) : AdmissionOnly s s := ⟨_, _, _, s.outgoing, _, rfl⟩

theorem trans {s t u : State} (h : AdmissionOnly s t) (k : AdmissionOnly t u) : AdmissionOnly s u := by
  obtain ⟨_, _, _, _, _, rfl⟩ := h
  obtain ⟨_, _, _, O, _, rfl⟩ := k
  exact ⟨_, _, _, O, _, rfl⟩

theorem putEntry (ix : ExtIx) (e : Option Entry) (s : State) : AdmissionOnly s (s.putEntry ix e) :=
  ⟨_, _, _, s.outgoing, _, rfl⟩

theorem putPort (p : Port) (r : PortRec) (s : State) : AdmissionOnly s (s.putPort p r) := ⟨_, _, _, s.outgoing, _, rfl⟩

theorem putLoop (l : LoopNo) (r : LoopRec) (s : State) : AdmissionOnly s (s.putLoop l r) := ⟨_, _, _, s.outgoing, _, rfl⟩

theorem raise (i : Item) (s : State) : AdmissionOnly s (s.raise i) := ⟨_, _, _, (s.raise i).outgoing, _, rfl⟩

theorem modEntry (ix : ExtIx) (f : Entry → Entry) (s : State) : AdmissionOnly s (s.modEntry ix f) := putEntry _ _ _

theorem spendNonce (s : State) : AdmissionOnly s s.spendNonce := ⟨_, _, _, s.outgoing, _, rfl⟩

theorem loseChallenge (p : Port) (n : Long) (s : State) : AdmissionOnly s (s.loseChallenge p n) := by
  unfold State.loseChallenge
  split
  · exact modEntry _ _ _
  · exact refl _

theorem loseBlock (p : Port) (q : Option QueueRec) (s : State) : AdmissionOnly s (s.loseBlock p q) := by
  unfold State.loseBlock
  split
  · exact loseChallenge _ _ _
  · exact refl _

theorem offer (p : Port) (b : OutBlock) (s : State) : AdmissionOnly s (s.offer p b) := by
  unfold State.offer
  split
  · exact refl _
  · exact (putLoop _ _ _).trans (loseBlock _ _ _)

theorem withdraw (p : Port) (n : Long) (s : State) : AdmissionOnly s (s.withdraw p n) := putLoop _ _ _

theorem abandon (ix : ExtIx) (s : State) : AdmissionOnly s (s.abandon ix) := by
  unfold State.abandon
  split
  · split
    · exact (withdraw _ _ _).trans (putEntry _ _ _)
    · exact refl _
  · exact refl _

theorem deny (p : Port) (r : DenyReason) (ix : Option ExtIx) (s : State) : AdmissionOnly s (s.deny p r ix) := by
  unfold State.deny
  split
  · exact refl _
  · exact (offer _ _ _).trans (raise _ _)

theorem releaseBinding (ix : ExtIx) (s : State) : AdmissionOnly s (s.releaseBinding ix) := by
  unfold State.releaseBinding
  split
  · split
    · exact (putEntry _ _ _).trans (putPort _ _ _)
    · exact refl _
  · exact refl _

theorem lapse (ix : ExtIx) (c : LapseCause) (s : State) : AdmissionOnly s (s.lapse ix c) := by
  unfold State.lapse
  split
  · exact refl _
  · split
    · exact putEntry _ _ _
    · split
      · exact refl _
      · exact (((releaseBinding _ _).trans (modEntry _ _ _)).trans (offer _ _ _)).trans (raise _ _)

theorem lockOut (ix : ExtIx) (s : State) : AdmissionOnly s (s.lockOut ix) := by
  have h1 : ∀ s : State, AdmissionOnly s (s.lockChallenge ix) := by
    intro s
    unfold State.lockChallenge
    split
    · split
      · exact ((withdraw _ _ _).trans (putEntry _ _ _)).trans (deny _ _ _ _)
      · exact refl _
    · exact refl _
  have h2 : ∀ s : State, AdmissionOnly s (s.lockBinding ix) := by
    intro s
    unfold State.lockBinding
    split
    · split
      · exact (releaseBinding _ _).trans (offer _ _ _)
      · exact refl _
    · exact refl _
  have h3 : ∀ s : State, AdmissionOnly s (s.lockEntry ix) := by
    intro s
    unfold State.lockEntry
    split
    · exact (putEntry _ _ _).trans (raise _ _)
    · exact refl _
  exact ((h1 _).trans (h2 _)).trans (h3 _)

theorem countFailure (ix : ExtIx) (s : State) : AdmissionOnly s (s.countFailure ix) := by
  unfold State.countFailure
  split
  · exact refl _
  · dsimp only
    split
    · exact (putEntry _ _ _).trans (lockOut _ _)
    · exact putEntry _ _ _

theorem absenceProcedure (p : Port) (s : State) : AdmissionOnly s (s.absenceProcedure p) := by
  have h1 : ∀ s : State, AdmissionOnly s (s.dropChallengeAt p) := by
    intro s
    unfold State.dropChallengeAt
    split
    · exact modEntry _ _ _
    · exact refl _
  have h2 : ∀ s : State, AdmissionOnly s (s.lapseAt p) := by
    intro s
    unfold State.lapseAt
    split
    · exact lapse _ _ _
    · exact refl _
  exact (((putLoop _ _ _).trans (h1 _)).trans (putPort _ _ _)).trans (h2 _)

theorem goAbsent (p : Port) (s : State) : AdmissionOnly s (s.goAbsent p) :=
  ((putPort _ _ _).trans (raise _ _)).trans (absenceProcedure _ _)

/-- A fold of operations that each change only these objects changes only these objects. -/
theorem foldl {α : Type} (f : State → α → State) (h : ∀ s a, AdmissionOnly s (f s a)) (as : List α) (s : State) :
    AdmissionOnly s (as.foldl f s) := by
  induction as generalizing s with
  | nil => exact refl _
  | cons a as ih => exact (h s a).trans (ih _)

end AdmissionOnly

namespace CallsOnly

theorem refl (s : State) : CallsOnly s s := ⟨s, .refl s, _, _, _, _, _, _, _, _, rfl⟩

theorem trans {s t u : State} (h : CallsOnly s t) (k : CallsOnly t u) : CallsOnly s u := by
  obtain ⟨_, ⟨_, _, _, _, _, rfl⟩, _, _, _, _, _, _, _, _, rfl⟩ := h
  obtain ⟨_, ⟨_, _, _, _, _, rfl⟩, _, _, _, _, _, _, _, _, rfl⟩ := k
  exact ⟨_, ⟨_, _, _, _, _, rfl⟩, _, _, _, _, _, _, _, _, rfl⟩

theorem of {s t : State} (h : AdmissionOnly s t) : CallsOnly s t := ⟨t, h, _, _, _, _, _, _, _, _, rfl⟩

theorem putContext (c : CtxId) (x : Context) (s : State) : CallsOnly s (s.putContext c x) :=
  ⟨s, .refl s, _, _, _, _, _, _, _, _, rfl⟩

theorem putCall (i : Fin 128) (c : Option Call) (s : State) : CallsOnly s (s.putCall i c) :=
  ⟨s, .refl s, _, _, _, _, _, _, _, _, rfl⟩

theorem modCall (id : CallId) (f : Call → Call) (s : State) : CallsOnly s (s.modCall id f) := by
  unfold State.modCall
  split
  · exact putCall _ _ _
  · exact refl _

theorem keyStation (c : CtxId) (k : Key) (s : State) : CallsOnly s (s.keyStation c k) := by
  unfold State.keyStation
  split
  · exact refl _
  · split
    · exact refl _
    · split
      · exact refl _
      · exact ((of (.spendNonce _)).trans (putContext _ _ _)).trans (of (.offer _ _ _))

theorem completeServed (c : CtxId) (s : State) : CallsOnly s (s.completeServed c) := by
  unfold State.completeServed
  split
  · exact refl _
  · exact (modCall _ _ _).trans (of (.raise _ _))

theorem deliver (own : Option CtxId) (c : CtxId) (rest : List WaitItem) (s : State) :
    CallsOnly s (s.deliver own c rest) := by
  have h : ∀ R Q W, CallsOnly s { s with ring := R, pointer := Q, waitQueue := W } :=
    fun _ _ _ => ⟨s, .refl s, _, _, _, _, _, _, _, _, rfl⟩
  unfold State.deliver
  dsimp only
  split
  · exact (h _ _ _).trans (keyStation _ _ _)
  · exact ((h _ _ _).trans (keyStation _ _ _)).trans (completeServed _ _)

theorem servingPass (own : Option CtxId) (s : State) : CallsOnly s (s.servingPass own) := by
  have h : ∀ q (s : State), CallsOnly s (s.serveQueue own q) := by
    intro q
    induction q with
    | nil => exact fun s => refl s
    | cons w rest ih =>
      intro s
      unfold State.serveQueue
      split
      · exact (deliver _ _ _ _).trans (ih _)
      · exact refl _
  have k : ∀ s : State, CallsOnly s s.endPass := by
    intro s
    unfold State.endPass
    split
    · exact ⟨s, .refl s, _, _, _, _, _, _, _, _, rfl⟩
    · exact trans ⟨s, .refl s, _, _, _, _, _, _, _, _, rfl⟩ (of (.raise _ _))
  exact (h _ _).trans (k _)

theorem drawDemand (c : CtxId) (n : Nat) (s : State) : CallsOnly s (s.drawDemand c n) := by
  have h : CallsOnly s { s.putContext c { s.context c with state := .keyWait } with
      waitQueue := s.waitQueue ++ [WaitItem.mk c n] } := ⟨s, .refl s, _, _, _, _, _, _, _, _, rfl⟩
  unfold State.drawDemand
  dsimp only
  split
  · exact h
  · exact h.trans (servingPass _ _)
  · exact h.trans (servingPass _ _)

theorem freeContext (c : CtxId) (s : State) : CallsOnly s (s.freeContext c) :=
  ⟨s, .refl s, _, _, _, _, _, _, _, _, rfl⟩

/-- A fold of operations that each change only these objects changes only these objects. -/
theorem foldl {α : Type} (f : State → α → State) (h : ∀ s a, CallsOnly s (f s a)) (as : List α) (s : State) :
    CallsOnly s (as.foldl f s) := by
  induction as generalizing s with
  | nil => exact refl _
  | cons a as ih => exact (h s a).trans (ih _)

theorem createCall (i : Fin 128) (c : Call) (s : State) : CallsOnly s (s.createCall i c) :=
  ⟨_, ⟨_, _, _, s.outgoing, _, rfl⟩, _, _, _, _, _, _, _, _, rfl⟩

theorem endCall (c : Call) (n : Option NoticeReason) (s : State) : CallsOnly s (s.endCall c n) := by
  have h1 : CallsOnly s (s.removePaths c.id) := ⟨s, .refl s, _, _, _, _, _, _, _, _, rfl⟩
  have h2 : ∀ s : State, CallsOnly s (s.freeContexts c.contexts) :=
    fun s => foldl _ (fun s x => freeContext x s) _ s
  have h3 : ∀ s : State, CallsOnly s (s.endNotice c.port n) := by
    intro s
    unfold State.endNotice
    split
    · exact of (.offer _ _ _)
    · exact refl _
  have h4 : ∀ s : State, CallsOnly s (s.deferredLapse c.ext) := by
    intro s
    unfold State.deferredLapse
    split
    · split
      · exact of (.lapse _ _ _)
      · exact refl _
    · exact refl _
  have h5 : ∀ s : State, CallsOnly s (s.freeCall c.id) := by
    intro s
    unfold State.freeCall
    split
    · exact putCall _ _ _
    · exact refl _
  exact (((((h1.trans (h2 _)).trans (of (.putPort _ _ _))).trans (of (.modEntry _ _ _))).trans (h3 _)).trans
    (h4 _)).trans (h5 _)

theorem connect (c : Call) (ps : List PathPlan) (xs : List CtxPlan) (s : State) : CallsOnly s (s.connect c ps xs) := by
  have h1 : ∀ (s : State) (p : CtxId × CtxPlan), CallsOnly s (s.allocate c.id p.1 p.2) := by
    intro s p
    unfold State.allocate
    split
    · exact putContext _ _ _
    · exact putContext _ _ _
  have h2 : ∀ (s : State) (ids : List CtxId), CallsOnly s (s.installPaths c.id ids ps) :=
    fun s _ => ⟨s, .refl s, _, _, _, _, _, _, _, _, rfl⟩
  have h3 : ∀ (s : State) (l : List (CtxId × CtxPlan)), CallsOnly s (s.demandAll c.ext l) := by
    intro s l
    refine foldl _ (fun s p => ?_) l s
    split
    · exact drawDemand _ _ _
    · exact refl _
  have h4 : ∀ (s : State) (ids : List CtxId), CallsOnly s (s.settleCall c.id ids) := by
    intro s ids
    unfold State.settleCall
    split
    · exact modCall _ _ _
    · exact modCall _ _ _
  exact (((((foldl _ h1 _ s).trans (modCall _ _ _)).trans (h2 _ _)).trans (h3 _ _)).trans (h4 _ _)).trans
    (of (.putPort _ _ _))

end CallsOnly

/-! ## Offering a block leaves the ports, the attention set and the counter (R58, R59) -/

@[simp] theorem State.loseBlock_ports (p : Port) (q : Option QueueRec) (s : State) : (s.loseBlock p q).ports = s.ports := by
  unfold State.loseBlock State.loseChallenge
  split
  · split <;> rfl
  · rfl

@[simp] theorem State.loseBlock_attention (p : Port) (q : Option QueueRec) (s : State) :
    (s.loseBlock p q).attention = s.attention := by
  unfold State.loseBlock State.loseChallenge
  split
  · split <;> rfl
  · rfl

@[simp] theorem State.loseBlock_loops (p : Port) (q : Option QueueRec) (s : State) : (s.loseBlock p q).loops = s.loops := by
  unfold State.loseBlock State.loseChallenge
  split
  · split <;> rfl
  · rfl

@[simp] theorem State.offer_ports (p : Port) (b : OutBlock) (s : State) : (s.offer p b).ports = s.ports := by
  unfold State.offer
  split <;> simp

@[simp] theorem State.offer_port (p : Port) (b : OutBlock) (s : State) (q : Port) : (s.offer p b).port q = s.port q := by
  simp [State.port]

@[simp] theorem State.offer_attention (p : Port) (b : OutBlock) (s : State) :
    (s.offer p b).attention = s.attention := by
  unfold State.offer
  split <;> simp

/-- A block offered for an ABSENT port is discarded (R58). -/
theorem State.offer_absent {p : Port} {s : State} (b : OutBlock) (h : (s.port p).presence = .absent) : s.offer p b = s := by
  simp [State.offer, h]

/-! ## Raising an item, and the arbiter (R194, R195) -/

/-- While the transmitter is busy, an item raised changes the attention set and the lost flag alone. -/
theorem State.raise_busy (item : Item) {s : State} (h : s.line ≠ none) :
    s.raise item = { s with
      attention := (offerItem item s.attention s.lost).1, lost := (offerItem item s.attention s.lost).2 } := by
  cases hl : s.line with
  | none => exact absurd hl h
  | some x => simp [State.raise, Outgoing.arrive, State.withOutgoing, State.outgoing, hl]

/-- An item raised while nothing is sent and nothing waits goes on the line. -/
theorem State.raise_free (item : Item) {s : State} (h : s.line = none) (hr : s.reply = none) (ha : s.attention = []) :
    s.raise item = { s with line := some (.report item s.lost), lost := false } := by
  simp [State.raise, Outgoing.arrive, Outgoing.choose, State.withOutgoing, State.outgoing, offerItem, h, hr, ha]

/-- A reply released while the transmitter is busy waits. -/
theorem State.postReply_busy (r : Reply) {s : State} (h : s.line ≠ none) : s.postReply r = { s with reply := some r } := by
  cases hl : s.line with
  | none => exact absurd hl h
  | some x => simp [State.postReply, Outgoing.arrive, State.withOutgoing, State.outgoing, hl]

/-- A reply released while the transmitter is free goes on the line. -/
theorem State.postReply_free (r : Reply) {s : State} (h : s.line = none) :
    s.postReply r = { s with line := some (.reply r), reply := none } := by
  simp [State.postReply, Outgoing.arrive, Outgoing.choose, State.withOutgoing, State.outgoing, h]

/-- The arbiter lets the attention set shrink at most. -/
theorem Outgoing.choose_attention (o : Outgoing) : o.choose.attention <:+ o.attention := by
  unfold Outgoing.choose
  split
  · exact List.suffix_refl _
  · split
    · rename_i h; rw [h]; exact List.suffix_cons _ _
    · exact List.suffix_refl _

theorem Outgoing.arrive_attention (o : Outgoing) : o.arrive.attention <:+ o.attention := by
  unfold Outgoing.arrive
  split
  · exact o.choose_attention
  · exact List.suffix_refl _

/-- The set after an item is raised holds at most 128 items, as before. -/
theorem State.raise_attentionLength (item : Item) (s : State) (h : s.attention.length ≤ 128) :
    (s.raise item).attention.length ≤ 128 := by
  refine (Outgoing.arrive_attention _).length_le.trans ?_
  show (offerItem item s.attention s.lost).1.length ≤ 128
  unfold offerItem
  split
  · simpa using h
  · split
    · simp; omega
    · exact h

/-! ## Taking a request (R192, R193) -/

/-- A request the link takes now is carried out and answered. -/
theorem State.request_taken {f : Frame} {act : State → State × Answer} {s : State} (h : s.takes f = true) :
    s.request f act = (act (s.admitFrame f)).1.respond f (act (s.admitFrame f)).2 := by
  simp [State.request, h]

/-- A request the link does not take now changes nothing. -/
theorem State.request_waits {f : Frame} {act : State → State × Answer} {s : State} (h : s.takes f = false) :
    s.request f act = s := by
  simp [State.request, h]

/-- A command that spells a frame is served as the request of that frame. -/
theorem State.serve_frame {i : Instr} {f : Frame} (h : i.frame? = some f) (act : State → State × Answer) (s : State) :
    s.serve i act = s.request f act := by
  simp [State.serve, h]

/-- The holding of a taken request's state, without the frame at its head. -/
theorem State.admitFrame_holding_tail (f : Frame) (s : State) : (s.admitFrame f).holding.tail = s.holding.tail := by
  cases h : s.holding <;> simp [h]

end Sys2Proof.Machine
end

