-- ==== Sys2Proof/Laws/PerInstr.lean ====
section
/-!
SUPPORT. Facts about every command as syntax, one lemma per constructor. `Framed`: the frame of a well-formed command fits
a control frame (R190) and is of a request kind (R192).
-/

namespace Sys2Proof.Laws.Framed

/-- A well-formed command that spells a frame spells one that fits and is of a request kind. -/
def Statement (i : Instr) : Prop :=
  i.wellFormed = true → ∀ f, i.frame? = some f → f.fits = true ∧ f.isRequestKind = true

/-- A well-formed command's frame fits. -/
theorem fits_of_wellFormed {i : Instr} {f : Frame} (h : i.wellFormed = true) (hf : i.frame? = some f) : f.fits = true := by
  unfold Instr.wellFormed at h
  rw [hf] at h
  exact (Bool.and_eq_true_iff.mp h).1

theorem powerUp : Statement (.powerUp) := by
  intro _ f hf
  cases hf

theorem resetLine : Statement (.resetLine) := by
  intro _ f hf
  cases hf

theorem controlFrameReceived (octets : List Byte) : Statement (.controlFrameReceived octets) := by
  intro _ f hf
  cases hf

theorem linkGap : Statement (.linkGap) := by
  intro _ f hf
  cases hf

theorem unknownRequestKind (kind tag : Byte) (body : List Byte) : Statement (.unknownRequestKind kind tag body) := by
  intro h f hf
  refine ⟨fits_of_wellFormed h hf, ?_⟩
  cases hf
  simp only [Instr.wellFormed, Instr.frame?, Bool.and_eq_true] at h
  exact h.2.1

theorem replyReleased : Statement (.replyReleased) := by
  intro _ f hf
  cases hf

theorem transmitterFree : Statement (.transmitterFree) := by
  intro _ f hf
  cases hf

theorem enterExtension (tag : Byte) (body : EnterBody) : Statement (.enterExtension tag body) := by
  intro h f hf
  refine ⟨fits_of_wellFormed h hf, ?_⟩
  cases hf
  rfl

theorem eraseExtension (tag : Byte) (index : Word) : Statement (.eraseExtension tag index) := by
  intro h f hf
  refine ⟨fits_of_wellFormed h hf, ?_⟩
  cases hf
  rfl

theorem unlockExtension (tag : Byte) (index : Word) : Statement (.unlockExtension tag index) := by
  intro h f hf
  refine ⟨fits_of_wellFormed h hf, ?_⟩
  cases hf
  rfl

theorem readExtension (tag : Byte) (index : Word) : Statement (.readExtension tag index) := by
  intro h f hf
  refine ⟨fits_of_wellFormed h hf, ?_⟩
  cases hf
  rfl

theorem setClass (tag : Byte) (body : ClassBody) : Statement (.setClass tag body) := by
  intro h f hf
  refine ⟨fits_of_wellFormed h hf, ?_⟩
  cases hf
  rfl

theorem readClass (tag cls : Byte) : Statement (.readClass tag cls) := by
  intro h f hf
  refine ⟨fits_of_wellFormed h hf, ?_⟩
  cases hf
  rfl

theorem readPort (tag port : Byte) : Statement (.readPort tag port) := by
  intro h f hf
  refine ⟨fits_of_wellFormed h hf, ?_⟩
  cases hf
  rfl

theorem setScreen (tag : Byte) (body : ScreenBody) : Statement (.setScreen tag body) := by
  intro h f hf
  refine ⟨fits_of_wellFormed h hf, ?_⟩
  cases hf
  rfl

theorem readScreen (tag screen : Byte) : Statement (.readScreen tag screen) := by
  intro h f hf
  refine ⟨fits_of_wellFormed h hf, ?_⟩
  cases hf
  rfl

theorem setLoop (tag : Byte) (body : LoopBody) : Statement (.setLoop tag body) := by
  intro h f hf
  refine ⟨fits_of_wellFormed h hf, ?_⟩
  cases hf
  rfl

theorem sendToStation (tag port : Byte) (body : List Byte) : Statement (.sendToStation tag port body) := by
  intro h f hf
  refine ⟨fits_of_wellFormed h hf, ?_⟩
  cases hf
  rfl

theorem setInterceptSet (tag first last : Byte) : Statement (.setInterceptSet tag first last) := by
  intro h f hf
  refine ⟨fits_of_wellFormed h hf, ?_⟩
  cases hf
  rfl

theorem setInterceptClear (tag first last : Byte) : Statement (.setInterceptClear tag first last) := by
  intro h f hf
  refine ⟨fits_of_wellFormed h hf, ?_⟩
  cases hf
  rfl

theorem openCall (tag : Byte) (index : Word) (verdict : Byte) : Statement (.openCall tag index verdict) := by
  intro h f hf
  refine ⟨fits_of_wellFormed h hf, ?_⟩
  cases hf
  rfl

theorem connectCall (tag : Byte) (body : ConnectBody) : Statement (.connectCall tag body) := by
  intro h f hf
  refine ⟨fits_of_wellFormed h hf, ?_⟩
  cases hf
  rfl

theorem holdCall (tag : Byte) (call : CallId) : Statement (.holdCall tag call) := by
  intro h f hf
  refine ⟨fits_of_wellFormed h hf, ?_⟩
  cases hf
  rfl

theorem retrieveCall (tag : Byte) (call : CallId) : Statement (.retrieveCall tag call) := by
  intro h f hf
  refine ⟨fits_of_wellFormed h hf, ?_⟩
  cases hf
  rfl

theorem refuseCall (tag : Byte) (call : CallId) : Statement (.refuseCall tag call) := by
  intro h f hf
  refine ⟨fits_of_wellFormed h hf, ?_⟩
  cases hf
  rfl

theorem clearCall (tag : Byte) (call : CallId) : Statement (.clearCall tag call) := by
  intro h f hf
  refine ⟨fits_of_wellFormed h hf, ?_⟩
  cases hf
  rfl

theorem readCall (tag : Byte) (call : CallId) : Statement (.readCall tag call) := by
  intro h f hf
  refine ⟨fits_of_wellFormed h hf, ?_⟩
  cases hf
  rfl

theorem depositKeys (tag : Byte) (body : DepositBody) : Statement (.depositKeys tag body) := by
  intro h f hf
  refine ⟨fits_of_wellFormed h hf, ?_⟩
  cases hf
  rfl

theorem startDraw (tag : Byte) : Statement (.startDraw tag) := by
  intro h f hf
  refine ⟨fits_of_wellFormed h hf, ?_⟩
  cases hf
  rfl

theorem stopDraw (tag : Byte) : Statement (.stopDraw tag) := by
  intro h f hf
  refine ⟨fits_of_wellFormed h hf, ?_⟩
  cases hf
  rfl

theorem resumeDraw (tag : Byte) : Statement (.resumeDraw tag) := by
  intro h f hf
  refine ⟨fits_of_wellFormed h hf, ?_⟩
  cases hf
  rfl

theorem holdKey (tag slot : Byte) (key : Key) : Statement (.holdKey tag slot key) := by
  intro h f hf
  refine ⟨fits_of_wellFormed h hf, ?_⟩
  cases hf
  rfl

theorem dropKey (tag slot : Byte) : Statement (.dropKey tag slot) := by
  intro h f hf
  refine ⟨fits_of_wellFormed h hf, ?_⟩
  cases hf
  rfl

theorem readKeys (tag : Byte) : Statement (.readKeys tag) := by
  intro h f hf
  refine ⟨fits_of_wellFormed h hf, ?_⟩
  cases hf
  rfl

theorem readContext (tag context : Byte) : Statement (.readContext tag context) := by
  intro h f hf
  refine ⟨fits_of_wellFormed h hf, ?_⟩
  cases hf
  rfl

theorem setDevice (tag : Byte) (body : List Byte) : Statement (.setDevice tag body) := by
  intro h f hf
  refine ⟨fits_of_wellFormed h hf, ?_⟩
  cases hf
  rfl

theorem readDevice (tag : Byte) : Statement (.readDevice tag) := by
  intro h f hf
  refine ⟨fits_of_wellFormed h hf, ?_⟩
  cases hf
  rfl

theorem restartCold (tag : Byte) : Statement (.restartCold tag) := by
  intro h f hf
  refine ⟨fits_of_wellFormed h hf, ?_⟩
  cases hf
  rfl

theorem restartWarm (tag : Byte) : Statement (.restartWarm tag) := by
  intro h f hf
  refine ⟨fits_of_wellFormed h hf, ?_⟩
  cases hf
  rfl

theorem loopTurnStart (loop : LoopNo) : Statement (.loopTurnStart loop) := by
  intro _ f hf
  cases hf

theorem blockSent (loop : LoopNo) : Statement (.blockSent loop) := by
  intro _ f hf
  cases hf

theorem replyWindowTimeout (loop : LoopNo) : Statement (.replyWindowTimeout loop) := by
  intro _ f hf
  cases hf

theorem stationReply (loop : LoopNo) (chars : List LoopChar) : Statement (.stationReply loop chars) := by
  intro _ f hf
  cases hf

theorem loopBreak (loop : LoopNo) : Statement (.loopBreak loop) := by
  intro _ f hf
  cases hf

theorem loopRestore (loop : LoopNo) : Statement (.loopRestore loop) := by
  intro _ f hf
  cases hf

theorem feature (port : Port) (body : List Byte) : Statement (.feature port body) := by
  intro _ f hf
  cases hf

theorem register (port : Port) (number : List Digit) : Statement (.register port number) := by
  intro _ f hf
  cases hf

theorem answer (port : Port) (response : Long) : Statement (.answer port response) := by
  intro _ f hf
  cases hf

theorem checkIn (port : Port) : Statement (.checkIn port) := by
  intro _ f hf
  cases hf

theorem answerTimeExpiry (index : ExtIx) : Statement (.answerTimeExpiry index) := by
  intro _ f hf
  cases hf

theorem refreshExpiry (index : ExtIx) : Statement (.refreshExpiry index) := by
  intro _ f hf
  cases hf

theorem lockExpiry (index : ExtIx) : Statement (.lockExpiry index) := by
  intro _ f hf
  cases hf

theorem offHook (port : Port) : Statement (.offHook port) := by
  intro _ f hf
  cases hf

theorem onHook (port : Port) : Statement (.onHook port) := by
  intro _ f hf
  cases hf

theorem digits (port : Port) (endFlag : Bool) (codes : List Digit) : Statement (.digits port endFlag codes) := by
  intro _ f hf
  cases hf

theorem interdigitExpiry (port : Port) : Statement (.interdigitExpiry port) := by
  intro _ f hf
  cases hf

theorem keyWaitExpiry (context : CtxId) : Statement (.keyWaitExpiry context) := by
  intro _ f hf
  cases hf

theorem framePulse (sinceFrame : Nat) (sincePulse : Option Nat) (inputs : Table Byte 192) : Statement (.framePulse sinceFrame sincePulse inputs) := by
  intro _ f hf
  cases hf

theorem pulseMissing (inputs : Table Byte 192) : Statement (.pulseMissing inputs) := by
  intro _ f hf
  cases hf

theorem holdoverFrame : Statement (.holdoverFrame) := by
  intro _ f hf
  cases hf

theorem restoreRunTimeout : Statement (.restoreRunTimeout) := by
  intro _ f hf
  cases hf

theorem linkFramingError : Statement (.linkFramingError) := by
  intro _ f hf
  cases hf

theorem linkLengthError (octet : Byte) : Statement (.linkLengthError octet) := by
  intro _ f hf
  cases hf

end Sys2Proof.Laws.Framed
end

