-- ==== Sys2Proof/Tests/Slice0.lean ====
section
/-!
SUPPORT. Tests of Slice0: a term each check of WellFormed refuses, a few figures the spec works out, and for every statement
with hypotheses a concrete state and operands that meet them. The witness states are variations of `desk`.
-/

section

set_option Elab.async false

open Sys2Proof Sys2Proof.Machine

/-! ## WellFormed refuses an ill-formed term at each of its checks -/

theorem test_wellFormed_long_body : (Instr.sendToStation 0 0 (List.replicate 512 0)).wellFormed = false := by
  decide +kernel
theorem test_wellFormed_longest_body : (Instr.sendToStation 0 0 (List.replicate 511 0)).wellFormed = true := by
  decide +kernel
theorem test_wellFormed_unknown_kind : (Instr.unknownRequestKind 126 0 []).wellFormed = false := by decide
theorem test_wellFormed_known_request : (Instr.unknownRequestKind 38 0 []).wellFormed = false := by decide
theorem test_wellFormed_register_count : (Instr.register 0 [1, 2]).wellFormed = false ∧
    (Instr.register 0 [1, 2, 3, 4, 5, 6, 7]).wellFormed = false := by decide
theorem test_wellFormed_register_star : (Instr.register 0 [1, 2, 10]).wellFormed = false := by decide
theorem test_wellFormed_digits : (Instr.digits 0 true []).wellFormed = false ∧
    (Instr.digits 0 true (List.replicate 17 1)).wellFormed = false := by decide
theorem test_wellFormed_feature : (Instr.feature 0 (List.replicate 33 0)).wellFormed = false := by decide
theorem test_wellFormed_stationReply : (Instr.stationReply 0 []).wellFormed = false := by decide
theorem test_wellFormed_controlFrame : (Instr.controlFrameReceived []).wellFormed = false := by decide

/-! ## The witness states -/

/-- The key of the spec's worked figures. -/
def Tests.key : Key := ⟨4660, 22136, 39612, 57072⟩

/-- An UNBOUND entry. -/
def Tests.resting : Entry := ⟨[1, 2, 3], Tests.key, 2, true, none, .unbound, none, none, 0, none, none, false, none, none⟩

/-- A CHALLENGED entry, its challenge at port 37. -/
def Tests.asked (remaining : Option Nat) : Entry :=
  { Tests.resting with state := .challenged, challenge := some ⟨37, 77, remaining⟩ }

/-- An ADMITTED entry, bound at port 37. -/
def Tests.seated : Entry := { Tests.resting with state := .admitted, bound := some 37, refresh := some 9 }

/-- An ADMITTED entry in call 1. -/
def Tests.talking : Entry := { Tests.seated with liveCall := some 1 }

/-- A MOVING entry, bound at port 37 and challenged at port 38. -/
def Tests.going : Entry := { Tests.seated with state := .moving, challenge := some ⟨38, 77, some 0⟩ }

/-- A LOCKED entry. -/
def Tests.barred : Entry := { Tests.resting with state := .locked, lock := some (.seconds 0) }

/-- The second entry, UNBOUND. -/
def Tests.other : Entry := { Tests.resting with number := [1, 2, 4] }

/-- A PRESENT port without a bound extension. -/
def Tests.free : PortRec := ⟨.present, 0, none, .on, .idle, [], none, none⟩

/-- A PRESENT port with entry 7 bound to it, in a dial state. -/
def Tests.taken (dial : DialState) : PortRec := ⟨.present, 0, some 7, .off, dial, [], some 0, some 1⟩

/-- A loop in IDLE-CYCLE that lists every address, with a queue. -/
def Tests.ring (queue : List QueueRec) : LoopRec :=
  ⟨true, Table.replicate 32 true, .idleCycle, none, queue, relays queue, none⟩

/-- A call of extension 7 at port 37. -/
def Tests.call (state : CallState) : Call := ⟨1, state, .station, 37, 7, [1], .allow, [], [], 0, none⟩

/-- Entry 7, port 37 (station 5 of loop 1), the queue of loop 1 and the first call as given; entry 8 UNBOUND and port 38
PRESENT beside them. -/
def Tests.desk (e : Option Entry) (r : PortRec) (q : List QueueRec) (c : Option Call) : State :=
  { (((((State.reset.putEntry 7 e).putEntry 8 (some Tests.other)).putPort 37 r).putPort 38 Tests.free).putLoop 1
    (Tests.ring q)).putCall 0 c with attention := [] }

open Tests

theorem Tests.desk_entry (e r q c) (ix : ExtIx) :
    (desk e r q c).entry? ix = if ix = 8 then some other else if ix = 7 then e else none := by
  simp [desk, State.entry?, State.putLoop, State.putCall, State.reset, State.cold, Table.get_set]

theorem Tests.desk_port (e r q c) (p : Port) :
    (desk e r q c).port p = if p = 38 then free else if p = 37 then r else PortRec.cold := by
  simp [desk, State.port, State.putLoop, State.putCall, State.reset, State.cold, Table.get_set]

theorem Tests.desk_calls (e r q c) (i : Fin 128) : (desk e r q c).calls.get i = if i = 0 then c else none := by
  simp [desk, State.putLoop, State.putCall, State.reset, State.cold, Table.get_set]

theorem Tests.desk_loop (e r q c) : (desk e r q c).loop 1 = ring q := by
  simp [desk, State.loop, State.putLoop, State.putCall]

/-- When a desk is wired. -/
theorem Tests.desk_wired {e : Option Entry} {r : PortRec} {q : List QueueRec} {c : Option Call}
    (fields : ∀ d, e = some d → d.fieldsWell)
    (bound : ∀ d p, e = some d → d.bound = some p → p = 37 ∧ r.bound = some 7)
    (seat : ∀ ix, r.bound = some ix → ix = 7 ∧ ∃ d, e = some d ∧ d.bound = some 37)
    (challenge : ∀ d k, e = some d → d.challenge = some k → k.port = 37 → r.bound = none)
    (dialling : r.dial = .dialling → ∃ d, e = some d ∧ d.bound = some 37 ∧ d.state = .admitted)
    (live : ∀ d, e = some d → d.liveCall.isSome → r.dial.inCallStates)
    (calls : ∀ k, c = some k → k.id ≠ 0 ∧ k.ext = 7 ∧ k.port = 37 ∧
      ∃ d, e = some d ∧ d.liveCall = some k.id ∧ d.bound = some 37) : (desk e r q c).wired := by
  have split : ∀ ix d, (desk e r q c).entry? ix = some d → (ix = 8 ∧ d = other) ∨ (ix = 7 ∧ e = some d) := by
    intro ix d h
    rw [desk_entry] at h
    split_ifs at h with h8 h7
    · exact .inl ⟨h8, (Option.some.inj h).symm⟩
    · exact .inr ⟨h7, h⟩
  have at7 : ∀ d, e = some d → (desk e r q c).entry? 7 = some d := by
    intro d h
    simp [desk_entry, h]
  have unbound : other.bound = none ∧ other.challenge = none ∧ other.liveCall = none := ⟨rfl, rfl, rfl⟩
  constructor
  · intro ix d h
    rcases split ix d h with ⟨_, rfl⟩ | ⟨_, h⟩
    · constructor <;> decide
    · exact fields d h
  · intro ix d p h hp
    rcases split ix d h with ⟨_, rfl⟩ | ⟨rfl, h⟩
    · simp [unbound] at hp
    · obtain ⟨rfl, hb⟩ := bound d p h hp
      simp [desk_port, hb]
  · intro p ix h
    rw [desk_port] at h
    split_ifs at h with h8 h7
    · simp [free] at h
    · obtain ⟨rfl, d, hd, hb⟩ := seat ix h
      exact ⟨d, at7 d hd, h7 ▸ hb⟩
    · simp [PortRec.cold] at h
  · intro ix d k h hk
    rcases split ix d h with ⟨_, rfl⟩ | ⟨rfl, h⟩
    · simp [unbound] at hk
    · rw [desk_port]
      split_ifs with h8 h7
      · rfl
      · exact challenge d k h hk h7
      · rfl
  · intro ix jx d f k m h g hk hm _
    rcases split ix d h with ⟨_, rfl⟩ | ⟨rfl, h⟩
    · simp [unbound] at hk
    · rcases split jx f g with ⟨_, rfl⟩ | ⟨rfl, g⟩
      · simp [unbound] at hm
      · rfl
  · intro p h
    rw [desk_port] at h ⊢
    split_ifs at h ⊢ with h8 h7
    · simp [free] at h
    · obtain ⟨d, hd, hb, ha⟩ := dialling h
      exact ⟨7, d, (bound d 37 hd hb).2, at7 d hd, ha⟩
    · simp [PortRec.cold] at h
  · intro ix d p h hl hp
    rcases split ix d h with ⟨_, rfl⟩ | ⟨rfl, h⟩
    · simp [unbound] at hp
    · obtain ⟨rfl, _⟩ := bound d p h hp
      simpa [desk_port] using live d h hl
  · intro i k h
    rw [desk_calls] at h
    split_ifs at h
    exact (calls k h).1
  · intro i j k m h g _
    rw [desk_calls] at h g
    split_ifs at h g with hi hj
    rw [hi, hj]
  · intro i k h
    rw [desk_calls] at h
    split_ifs at h
    obtain ⟨_, hx, hp, d, hd, hl, hb⟩ := calls k h
    exact ⟨d, by rw [hx]; exact at7 d hd, hl, by rw [hp]; exact hb⟩

/-- What is wired depends on the directory, the ports and the calls alone. -/
theorem Tests.wired_of {s t : State} (h : s.wired) (hd : t.directory = s.directory) (hp : t.ports = s.ports)
    (hc : t.calls = s.calls) : t.wired := by
  have he : ∀ ix, t.entry? ix = s.entry? ix := fun ix => by simp [State.entry?, hd]
  have hq : ∀ p, t.port p = s.port p := fun p => by simp [State.port, hp]
  constructor <;> simp only [he, hq, hc]
  · exact h.fields
  · exact h.portOfEntry
  · exact h.entryOfPort
  · exact h.challengedPort
  · exact h.oneChallenge
  · exact h.dialling
  · exact h.liveDial
  · exact h.idNonzero
  · exact h.idDistinct
  · exact h.callEntry

/-- An entry the desk holds is one of its two. -/
theorem Tests.desk_cases {e r q c} {ix : ExtIx} {d : Entry} (h : (desk e r q c).entry? ix = some d) :
    (ix = 8 ∧ d = other) ∨ (ix = 7 ∧ e = some d) := by
  rw [desk_entry] at h
  split_ifs at h with h8 h7
  · exact .inl ⟨h8, (Option.some.inj h).symm⟩
  · exact .inr ⟨h7, h⟩

/-- A desk whose entry holds the number 123, the only one to do so. -/
theorem Tests.desk_holder {e : Entry} (r q c) (h : e.number = [1, 2, 3]) :
    (desk (some e) r q c).onlyHolder 7 e [1, 2, 3] := by
  refine ⟨by simp [desk_entry], h, ?_⟩
  intro j d hd hn
  rcases desk_cases hd with ⟨_, rfl⟩ | ⟨hj, _⟩
  · exact absurd hn (by decide)
  · exact hj

/-- No entry of a desk holds the number 999. -/
theorem Tests.desk_unknown {e : Entry} (r q c) (h : e.number = [1, 2, 3]) :
    ∀ ix d, (desk (some e) r q c).entry? ix = some d → d.number ≠ [9, 9, 9] := by
  intro ix d hd
  rcases desk_cases hd with ⟨_, rfl⟩ | ⟨_, he⟩
  · decide
  · cases he; rw [h]; decide

/-! ## Steps, restarts and invariants -/

theorem test_StepRunsTheFrontCommand_met :
    ({ State.reset with pending := [.holdoverFrame, .powerUp] } : State).pending = .holdoverFrame :: [.powerUp] := rfl

theorem test_EveryStepAnswersANextState_met : State.reset.pending = [] := rfl

/-- With a frame on the line, and with none. -/
theorem test_ColdRestartsLeaveColdValues_met : State.reset.takes ⟨7, 5, [0]⟩ = true ∧ State.reset.line ≠ none ∧
    ({ State.reset with line := none } : State).takes ⟨7, 5, [0]⟩ = true := by decide

theorem test_WarmRestartKeepsTheSettings_met : State.reset.takes ⟨7, 5, [1]⟩ = true ∧ State.reset.line ≠ none ∧
    ({ State.reset with line := none } : State).takes ⟨7, 5, [1]⟩ = true := by decide

/-- A desk takes a request of a short body. -/
theorem Tests.desk_takes (e r q c) (f : Frame) (h : f.fits = true) : (desk e r q c).takes f = true := by
  simp [State.takes, h, desk, State.putLoop, State.putCall, State.reset, State.cold]

theorem test_WarmRestartOfEntriesAndPorts_met :
    (∀ e r q c, (desk e r q c).takes ⟨7, 5, [1]⟩ = true ∧ ∃ t, exec (.restartWarm 5) (desk e r q c) = .next t) ∧
    (∀ e r q c, (desk e r q c).entry? 9 = none ∧ (desk e r q c).entry? 7 = e) ∧
    { talking with overdue := some .refresh }.overdue ≠ none ∧ seated.state = .admitted ∧ going.state = .moving ∧
    (asked none).state = .challenged ∧ resting.state = .unbound ∧ barred.state = .locked ∧ seated.overdue = none := by
  refine ⟨fun e r q c => ⟨desk_takes _ _ _ _ _ rfl, _, rfl⟩, fun e r q c => ?_, by decide⟩
  simp [desk_entry]

/-- The wired desk of a call in progress. -/
def Tests.inCall (q : List QueueRec) (state : CallState) : State :=
  desk (some talking) (taken .inCall) q (some (call state))

theorem Tests.inCall_wired (q state) : (inCall q state).wired := by
  apply desk_wired
  · rintro d ⟨⟩; constructor <;> decide
  · rintro d p ⟨⟩ ⟨⟩; exact ⟨rfl, rfl⟩
  · rintro ix ⟨⟩; exact ⟨rfl, _, rfl, rfl⟩
  · rintro d k ⟨⟩ ⟨⟩
  · intro h; exact absurd h (by decide)
  · intro d _ _; exact .inr (.inr rfl)
  · rintro k ⟨⟩; exact ⟨fun h : (1 : CallId) = 0 => absurd h (by decide), rfl, rfl, _, rfl, rfl, rfl⟩

/-- A wired desk without a call. -/
theorem Tests.quiet_wired {e : Entry} {r : PortRec} (q) (he : e.fieldsWell) (hl : e.liveCall = none)
    (hb : e.bound = none ∧ r.bound = none ∨ e.bound = some 37 ∧ r.bound = some 7)
    (hc : ∀ k, e.challenge = some k → k.port = 37 → r.bound = none) (hd : r.dial ≠ .dialling) :
    (desk (some e) r q none).wired := by
  apply desk_wired
  · rintro d ⟨⟩; exact he
  · rintro d p ⟨⟩ hp
    rcases hb with ⟨h, _⟩ | ⟨h, h'⟩
    · simp [h] at hp
    · rw [h] at hp; cases hp; exact ⟨rfl, h'⟩
  · intro ix hx
    rcases hb with ⟨_, h⟩ | ⟨h, h'⟩
    · simp [h] at hx
    · rw [h'] at hx; cases hx; exact ⟨rfl, e, rfl, h⟩
  · rintro d k ⟨⟩ hk; exact hc k hk
  · intro h; exact absurd h hd
  · rintro d ⟨⟩ h; simp [hl] at h
  · rintro k ⟨⟩

/-- A context of its own call, its key from held slot 31. -/
def Tests.keyed (state : CtxState) : Context :=
  ⟨state, some 1, some ⟨.trunk, .shuffle, .b256, 2⟩, some (.heldSlot 31 7), key, some ⟨0, key, 255, [], none⟩,
    some ⟨.hunt, true, 0, 0, key, none, 0, .none, Table.replicate 8 none, none, [], false⟩⟩

/-- Context 95 with its two paths, at slots 0 and 191. -/
def Tests.scrambling (state : CtxState) : State :=
  { State.reset.putContext 95 (keyed state) with
    connections := ((Table.replicate 192 none).set 0 (some ⟨191, .scramble 95, 1⟩)).set 191 (some ⟨0, .descramble 95, 1⟩) }

/-- A CONNECTED call over context 95. -/
def Tests.linkedCall : Call := ⟨1, .connected, .station, 37, 7, [1], .allow, [0, 191], [95], 1, some 0⟩

/-- The wired desk of that call. -/
def Tests.linked : State :=
  { desk (some talking) (taken .inCall) [] (some linkedCall) with
    contexts := (scrambling .active).contexts, connections := (scrambling .active).connections }

/-- The one call of its table. -/
theorem Tests.linked_calls (c : Call) : linked.inTable c ↔ c = linkedCall := by
  simp only [State.inTable]
  constructor
  · rintro ⟨i, h⟩
    rw [show linked.calls.get i = _ from desk_calls _ _ _ _ i] at h
    split_ifs at h
    exact (Option.some.inj h).symm
  · rintro rfl
    exact ⟨0, by simp [show linked.calls.get 0 = _ from desk_calls _ _ _ _ 0]⟩

theorem Tests.linked_context (x : CtxId) : linked.context x = if x = 95 then keyed .active else Context.free := by
  simp [linked, scrambling, State.context, State.reset, State.cold, Table.get_set]

theorem Tests.linked_path (d : SlotNo) : linked.connections.get d =
    if d = 191 then some ⟨0, .descramble 95, 1⟩ else if d = 0 then some ⟨191, .scramble 95, 1⟩ else none := by
  simp [linked, scrambling, Table.get_set]

theorem Tests.linked_callsWired : linked.callsWired := by
  have port : ∀ p, linked.port p = if p = 38 then free else if p = 37 then taken .inCall else PortRec.cold :=
    desk_port (some talking) (taken .inCall) [] (some linkedCall)
  constructor
  · intro p id h
    rw [port] at h
    split_ifs at h with h8 h7
    · cases h
    · cases h; exact ⟨linkedCall, (linked_calls _).mpr rfl, rfl, h7.symm⟩
    · cases h
  · intro c hc
    rw [(linked_calls c).mp hc, show linked.port linkedCall.port = taken .inCall from by
      rw [port, if_neg (by decide), if_pos (by decide)]]
    exact ⟨rfl, rfl⟩
  · intro ix e id h hl
    rcases desk_cases (e := some talking) (r := taken .inCall) (q := []) (c := some linkedCall) h with ⟨_, rfl⟩ | ⟨rfl, he⟩
    · cases hl
    · obtain rfl := Option.some.inj he
      obtain rfl := Option.some.inj hl
      exact ⟨linkedCall, (linked_calls _).mpr rfl, rfl, rfl⟩
  · intro p h
    rw [port] at h ⊢
    split_ifs at h ⊢ with h8 h7
    · exact absurd h (by unfold DialState.inCallStates; decide)
    · rfl
    · exact absurd h (by unfold DialState.inCallStates; decide)
  · intro c hc
    rw [(linked_calls c).mp hc]
    decide
  · intro x
    rw [linked_context]
    split_ifs <;> constructor <;> decide
  · intro x h
    rw [linked_context] at h ⊢
    split_ifs at h ⊢ with hx
    · exact ⟨linkedCall, (linked_calls _).mpr rfl, rfl, by rw [hx]; decide⟩
    · exact absurd rfl h
  · intro c x hc hx
    rw [(linked_calls c).mp hc] at hx ⊢
    rw [List.mem_singleton.mp hx, linked_context]
    exact ⟨rfl, rfl⟩
  · intro c hc
    rw [(linked_calls c).mp hc]
    refine ⟨fun h => absurd h (by decide), fun x y hx hy _ _ => ?_⟩
    rw [List.mem_singleton.mp hx, List.mem_singleton.mp hy]
  · refine ⟨fun x => ⟨?_, fun h => ?_⟩, .nil⟩
    · rintro ⟨w, hw, _⟩; cases hw
    · rw [linked_context] at h
      split_ifs at h <;> exact absurd h (by decide)
  · intro _; rfl
  · intro d p h
    refine ⟨linkedCall, (linked_calls _).mpr rfl, ?_⟩
    rw [linked_path] at h
    split_ifs at h with h1 h2 <;> cases h
    · exact ⟨rfl, by rw [h1]; decide⟩
    · exact ⟨rfl, by rw [h2]; decide⟩
  · intro c d hc hd
    rw [(linked_calls c).mp hc] at hd ⊢
    rw [linked_path]
    rcases List.mem_cons.mp hd with rfl | hd
    · exact ⟨_, rfl, rfl⟩
    · rw [List.mem_singleton.mp hd]; exact ⟨_, rfl, rfl⟩
  · intro d p x h ht
    rw [linked_path] at h
    have hx : x = 95 := by
      split_ifs at h <;> cases h <;> rcases ht with ht | ht <;> cases ht <;> rfl
    rw [linked_context, hx]
    split_ifs at h <;> cases h <;> rfl
  · intro x h
    have hx : x = 95 := by
      rw [linked_context] at h; by_contra hx; simp [hx, Context.free] at h
    rw [hx]
    refine ⟨⟨0, _, rfl, rfl, ?_⟩, 191, _, rfl, rfl, ?_⟩ <;> intro e q hq ht <;> rw [linked_path] at hq <;>
      split_ifs at hq with h1 h2 <;> cases hq <;> first | exact h1 | exact h2 | cases ht

theorem Tests.linked_wired : linked.wired := wired_of (s := desk (some talking) (taken .inCall) [] (some linkedCall)) (by
  apply desk_wired
  · rintro d ⟨⟩; constructor <;> decide
  · rintro d p ⟨⟩ ⟨⟩; exact ⟨rfl, rfl⟩
  · rintro ix ⟨⟩; exact ⟨rfl, _, rfl, rfl⟩
  · rintro d k ⟨⟩ ⟨⟩
  · intro h; exact absurd h (by decide)
  · intro d _ _; exact .inr (.inr rfl)
  · rintro k ⟨⟩; exact ⟨fun h : (1 : CallId) = 0 => absurd h (by decide), rfl, rfl, _, rfl, rfl, rfl⟩) rfl rfl rfl

theorem Tests.linked_sidesWell : linked.sidesWell := by
  intro x cfg h
  rw [linked_context] at h ⊢
  split_ifs at h ⊢ <;> cases h
  refine ⟨by decide, ?_, ?_⟩
  · rintro t ⟨⟩; decide
  · rintro r ⟨⟩; decide

/-- The loop 1 of a desk may leave addresses out, though not those of ports 37 and 38. -/
theorem Tests.desk_presenceWell (e r q c) (poll : Table Bool 32) (h : poll.get 5 = true ∧ poll.get 6 = true) :
    ((desk e r q c).putLoop 1 { ring q with pollList := poll }).presenceWell := by
  have loop : ∀ l, ((desk e r q c).putLoop 1 { ring q with pollList := poll }).loop l =
      if l = 1 then { ring q with pollList := poll } else LoopRec.cold := fun l => by
    by_cases hl : l = 1 <;>
      simp [desk, State.loop, State.putLoop, State.putCall, State.reset, State.cold, Table.get_set, hl]
  have seat : ∀ l st, portOf l st = 37 ∨ portOf l st = 38 → l = 1 ∧ (st = 5 ∨ st = 6) := by decide +kernel
  constructor
  · intro l; rw [loop]; split_ifs <;> simp [ring, LoopRec.cold]
  · intro l t ht
    rw [loop] at ht
    split_ifs at ht <;> cases ht
  · intro l st hl
    rw [loop] at hl
    have away : portOf l st ≠ 37 ∧ portOf l st ≠ 38 := by
      rw [← not_or]
      intro hp
      obtain ⟨rfl, rfl | rfl⟩ := seat l st hp <;> simp [ring, h] at hl
    have cold := desk_port e r q c (portOf l st)
    rw [if_neg away.2, if_neg away.1] at cold
    exact ⟨congrArg PortRec.presence cold, congrArg PortRec.miss cold⟩

/-- A desk whose loop 1 leaves address 0 out. -/
def Tests.spare (e : Option Entry) (r : PortRec) : State :=
  (desk e r [] none).putLoop 1 { ring [] with pollList := (Table.replicate 32 true).set 0 false }

theorem test_calls_and_presence_met :
    ({ linked with pending := [.holdoverFrame] } : State).wired ∧ linked.wired ∧ linked.callsWired ∧ linked.sidesWell ∧
    (linked.context 95).config.isSome ∧ (spare none free).presenceWell :=
  ⟨wired_of linked_wired rfl rfl rfl, linked_wired, linked_callsWired, linked_sidesWell, by decide +kernel,
    desk_presenceWell _ _ _ _ _ (by decide)⟩

theorem test_invariants_met :
    (∀ (s : State), s.pending = [.holdoverFrame] → ∃ t, step s = .next t) ∧
    (desk none free [] none).attentionWell ∧ ({ desk none free [] none with line := none } : State).lineWell ∧
    (desk none free [] none).ringWell ∧ (desk none free [] none).waitWell ∧
    (desk none free [] none).holdingWell ∧ (desk none free [] none).timeWell ∧ (desk none free [] none).counterWell := by
  refine ⟨fun s h => ⟨_, by simp only [step, h]; rfl⟩, ?_, ?_, ?_, ?_, ?_, ?_, ?_⟩
  · unfold State.attentionWell; decide
  · unfold State.lineWell; decide
  · intro i _; simp [desk, State.putLoop, State.putCall, State.reset, State.cold, RingSlot.empty]
  · unfold State.waitWell; decide
  · unfold State.holdingWell; decide
  · unfold State.timeWell; decide
  · unfold State.counterWell; decide

theorem test_BindingsAndCallsStayWired_met : ({ inCall [] .connected with pending := [.holdoverFrame] } : State).wired :=
  wired_of (inCall_wired [] .connected) rfl rfl rfl

theorem test_OutboundQueuesStayWell_met :
    (desk none free [⟨5, .relay []⟩, ⟨5, .notice .alert⟩] none).queuesWell := by
  intro l
  by_cases h : l = 1
  · subst h
    rw [desk_loop]
    refine ⟨by decide, by decide, by decide⟩
  · have : (desk none free [⟨5, .relay []⟩, ⟨5, .notice .alert⟩] none).loop l = LoopRec.cold := by
      simp [desk, State.loop, State.putLoop, State.putCall, State.reset, State.cold, Table.get_set, h]
    rw [this]
    refine ⟨by decide, by decide, by decide⟩

/-! ## Encodings and the control link -/

theorem test_RequestFramesDecodeBack_met :
    (Instr.connectCall 5 ⟨1, [⟨191, 0, 2, 0⟩, ⟨0, 191, 3, 0⟩], [⟨1, 31, 4294967295, 1, 2048, 16⟩]⟩).wellFormed = true ∧
    (Instr.readKeys 255).wellFormed = true ∧ (Instr.readKeys 255).frame? = some ⟨38, 255, []⟩ ∧
    (∀ kind tag body, Instr.readKeys 255 ≠ .unknownRequestKind kind tag body) := by
  exact ⟨by decide, by decide, by decide, by intro _ _ _ h; cases h⟩

theorem test_ReceivedFramesJoinOrAreDiscarded_met :
    State.reset.assembling = [] ∧ State.reset.holding.length < 2 ∧ (List.replicate 512 (0 : Byte)).length ≤ 512 ∧
    (1 ≤ (1 : Byte).toNat ∧ (125 : Byte).toNat ≤ 125) ∧ ((0 : Byte).toNat = 0 ∧ 125 < (126 : Byte).toNat) ∧
    2 ≤ ({ State.reset with holding := [⟨9, 0, [1]⟩, ⟨9, 1, [1]⟩] } : State).holding.length ∧
    (0 : Byte).toNat * 256 + (15 : Byte).toNat ≠ (octetSum (numWord (0 + 2)) + 9 + 3 + octetSum []) % 65536 ∧
    (∀ o ∈ ([1, 89, 91, 255] : List Byte), o ≠ 90) ∧
    ({ State.reset with assembling := [90] } : State).assembling ≠ [] ∧
    ((0 : Byte).toNat * 256 + (1 : Byte).toNat < 2 ∧ 514 < (2 : Byte).toNat * 256 + (3 : Byte).toNat) := by
  decide +kernel

theorem test_ArbiterSendsReplyThenOldestItem_met :
    ({ State.reset with reply := some ⟨9, 1, .done, []⟩ } : State).reply = some ⟨9, 1, .done, []⟩ ∧
    (∀ item, ({ State.reset with attention := [item] } : State).reply = none ∧
      ({ State.reset with attention := [item] } : State).attention = item :: []) ∧
    State.reset.attention = [] ∧
    (∀ line, ({ State.reset with line := line, handling := some ⟨⟨42, 1, .done, []⟩, true⟩ } : State).handling =
      some ⟨⟨42, 1, .done, []⟩, true⟩) ∧ State.reset.line ≠ none ∧
    ({ State.reset with handling := some ⟨⟨42, 1, .done, []⟩, false⟩ } : State).handling =
      some ⟨⟨42, 1, .done, []⟩, false⟩ := by
  refine ⟨by decide, fun _ => ⟨rfl, rfl⟩, by decide, fun _ => rfl, by decide, by decide⟩

theorem test_EveryRequestIsAnsweredOnce_met :
    (State.reset.takes ⟨100, 5, []⟩ = true ∧ decodeRequest ⟨1, 5, []⟩ = none ∧ decodeRequest ⟨125, 5, [1]⟩ = none) ∧
    ((Instr.readKeys 5).wellFormed = true ∧ (Instr.readKeys 5).frame? = some ⟨38, 5, []⟩ ∧
      State.reset.takes ⟨38, 5, []⟩ = true) ∧
    ({ State.reset with holding := [⟨9, 5, [1]⟩] } : State).takes ⟨38, 5, []⟩ = false := by
  decide +kernel

theorem test_RefusedRequestsChangeNothing_met :
    (Instr.readClass 5 8).frame? = some ⟨9, 5, [8]⟩ ∧ State.reset.takes ⟨9, 5, [8]⟩ = true ∧
    (∃ t, exec (.readClass 5 8) State.reset = .next t ∧ t.reply = some ⟨9, 5, .badRequest, []⟩) ∧
    (∃ t, exec (.setInterceptSet 5 0 191) State.reset = .next t ∧
      t.handling = some ⟨⟨24, 5, .done, []⟩, false⟩) :=
  ⟨by decide, by decide, ⟨_, rfl, by decide +kernel⟩, ⟨_, rfl, by decide +kernel⟩⟩

/-! ## Raising items, offering blocks, and lapses -/

theorem test_AttentionItemReplacesOrJoins_met :
    State.reset.line ≠ none ∧ ({ State.reset with attention := [⟨.restarted, 0, [0, 1]⟩] } : State).attentionWell ∧
    ((∀ i ∈ [(⟨.restarted, 0, [0, 1]⟩ : Item)], i.type = .keysShort → i.subject ≠ 0) ∧
      [(⟨.restarted, 0, [0, 1]⟩ : Item)].length < 128) ∧
    (({ State.reset with line := none } : State).line = none ∧ ({ State.reset with line := none } : State).lineWell) ∧
    (∀ i ∈ List.replicate 128 (⟨.keysShort, 0, []⟩ : Item), i.type = .keysShort → i.subject ≠ 1) ∧
    128 ≤ (List.replicate 128 (⟨.keysShort, 0, []⟩ : Item)).length := by
  unfold State.attentionWell State.lineWell
  decide +kernel

theorem test_DeviceBlocksReplaceAndAreWithdrawn_met :
    ((desk none free [] none).port 39).presence = .absent ∧ ((desk none free [] none).port 37).presence = .present ∧
    (∀ q ∈ ((desk none free [⟨5, .notice .alert⟩, ⟨6, .challenge 1⟩] none).loop 1).queue, ∀ n, q ≠ ⟨5, .challenge n⟩) ∧
    ((desk (some (asked none)) free [⟨5, .challenge 77⟩, ⟨5, .relay []⟩] none).loop 1).queueWell ∧
    ⟨5, .challenge 77⟩ ∈ ((desk (some (asked none)) free [⟨5, .challenge 77⟩, ⟨5, .relay []⟩] none).loop 1).queue ∧
    (desk (some (asked none)) free [] none).challengeAt 37 = some 7 ∧ (asked none).state = .challenged ∧
    ((desk (some going) (taken .idle) [] none).challengeAt 38 = some 7 ∧ going.state = .moving) := by
  simp only [desk_loop, desk_port]
  refine ⟨by decide, by decide, ?_, ⟨by decide, by decide, by decide⟩, by decide, by decide +kernel, by decide,
    by decide +kernel⟩
  intro q hq n
  simp only [ring, List.mem_cons, List.not_mem_nil, or_false] at hq
  rcases hq with rfl | rfl <;> simp

theorem test_LapsesAndLocksReleaseBindings_met :
    (talking.liveCall ≠ none ∧ (∀ r q c, (desk (some talking) r q c).entry? 7 = some talking)) ∧
    (seated.liveCall = none ∧ seated.bound = some 37 ∧ seated.state = .admitted ∧ seated.challenge = none) ∧
    (going.liveCall = none ∧ going.bound = some 37 ∧ going.state = .moving) ∧
    (resting.challenge = none ∧ resting.bound = none) := by
  refine ⟨⟨by decide, fun r q c => by simp [desk_entry]⟩, by decide⟩

theorem test_LocksEndChallenges_met :
    ((asked none).challenge = some ⟨37, 77, none⟩ ∧ (asked none).bound = none) ∧
    (going.challenge = some ⟨38, 77, some 0⟩ ∧ going.bound = some 37) ∧
    ((desk (some going) (taken .idle) [] none).entry? 7 = some going ∧
      ((desk (some going) (taken .idle) [] none).port 38).presence = .present) := by
  decide +kernel

/-! ## Readings and settings -/

/-- A request of a short body is taken right after power-up. -/
theorem Tests.reset_takes (f : Frame) (h : f.fits = true) : State.reset.takes f = true := by
  simp [State.takes, h, State.reset, State.cold]

theorem test_readings_met :
    (∀ f : Frame, f.fits = true → State.reset.takes f = true) ∧
    (7 < (8 : Byte).toNat ∧ (7 : ClassNo).val = (7 : Byte).toNat) ∧
    (23 < (24 : Byte).toNat ∧ (23 : ScreenNo).val = (23 : Byte).toNat) ∧ (255 : Port).val = (255 : Byte).toNat ∧
    (319 < (320 : Word).toNat ∧ (319 : ExtIx).val = (319 : Word).toNat) ∧
    (95 < (96 : Byte).toNat ∧ (95 : CtxId).val = (95 : Byte).toNat) := by
  exact ⟨reset_takes, by decide⟩

theorem test_ReadExtensionCallAndContext_met :
    (State.reset.entry? 319 = none ∧ ∀ r q c, (desk (some going) r q c).entry? 7 = some going) ∧
    State.reset.call? 255 = none ∧ (inCall [] .held).call? 1 = some (call .held) ∧
    (linked.call? 1 = some linkedCall ∧ linked.connections.get 0 = some ⟨191, .scramble 95, 1⟩ ∧
      linked.takes ⟨46, 5, [1]⟩ = true) ∧
    (State.reset.context 95).config = none ∧
    (linked.context 95 = keyed .active ∧ (keyed .active).config = some ⟨.trunk, .shuffle, .b256, 2⟩) ∧
    ((State.reset.putContext 95 { Context.free with state := .keyWait, config := some ⟨.station, .mask, .b256, 2⟩ }).context
      95).config = some ⟨.station, .mask, .b256, 2⟩ := by
  refine ⟨⟨by decide +kernel, fun r q c => by simp [desk_entry]⟩, by decide +kernel⟩

/-- An ENTER EXTENSION body for index 7 and number 123, with a home mark, a home port and a secret. -/
def Tests.entering (mark home : Byte) (secret : Key) : EnterBody :=
  ⟨7, 3, ⟨[1, 2, 3, 99, 99, 99], rfl⟩, secret, 2, 1, mark, home⟩

theorem Tests.entering_good (mark home : Byte) (secret : Key) (h : mark.toNat < 2) :
    (entering mark home secret).goodForm :=
  ⟨show (7 : Word).toNat < 320 by decide, show 3 ≤ (3 : Byte).toNat ∧ (3 : Byte).toNat ≤ 6 by decide,
    show ∀ i : Fin 6, i.val < 3 → ((⟨[1, 2, 3, 99, 99, 99], rfl⟩ : Table Byte 6).get i).toNat < 10 by decide,
    show (2 : Byte).toNat < 8 by decide, show (1 : Byte).toNat < 2 by decide, h⟩

theorem Tests.entering_carries (mark home : Byte) (secret : Key) :
    (entering mark home secret).carries 7
      ⟨[1, 2, 3], secret, 2, true, if mark = 1 then some (octetPort home) else none⟩ :=
  ⟨rfl, rfl, rfl, rfl, rfl, rfl⟩

theorem Tests.desk_elsewhere {e : Option Entry} (r q c) :
    ¬ (desk e r q c).numberElsewhere 7 [1, 2, 3] ∧ (desk e r q c).numberElsewhere 7 [1, 2, 4] := by
  refine ⟨?_, 8, other, by decide, by simp [desk_entry], rfl⟩
  rintro ⟨j, d, hj, hd, hn⟩
  rcases desk_cases hd with ⟨_, rfl⟩ | ⟨h, _⟩
  · exact absurd hn (by decide)
  · exact hj h

theorem test_EnterExtensionChecksAndStores_met :
    (¬ (⟨320, 3, ⟨[1, 2, 3, 0, 0, 0], rfl⟩, key, 0, 0, 0, 0⟩ : EnterBody).goodForm ∧
      ¬ (⟨0, 7, ⟨[1, 2, 3, 0, 0, 0], rfl⟩, key, 0, 0, 0, 0⟩ : EnterBody).goodForm ∧
      ¬ (⟨0, 3, ⟨[1, 2, 10, 0, 0, 0], rfl⟩, key, 0, 0, 0, 0⟩ : EnterBody).goodForm) ∧
    ((entering 1 37 key).goodForm ∧ (entering 1 37 key).carries 7 ⟨[1, 2, 3], key, 2, true, some 37⟩) ∧
    (∀ r q c, (desk none r q c).entry? 7 = none ∧ ¬ (desk none r q c).numberElsewhere 7 [1, 2, 3]) ∧
    ((⟨7, 3, ⟨[1, 2, 4, 0, 0, 0], rfl⟩, key, 2, 1, 0, 0⟩ : EnterBody).carries 7 ⟨[1, 2, 4], key, 2, true, none⟩ ∧
      ∀ e r q c, (desk e r q c).numberElsewhere 7 [1, 2, 4]) ∧
    (seated.bound = some 37 ∧ seated.challenge = none) ∧ ((asked none).challenge = some ⟨37, 77, none⟩) := by
  refine ⟨⟨fun h => absurd h.index (by decide), fun h => absurd h.count (by decide),
    fun h => absurd (h.digits 2 (by decide)) (by decide)⟩, ⟨entering_good _ _ _ (by decide), entering_carries _ _ _⟩,
    fun r q c => ⟨by simp [desk_entry], (desk_elsewhere r q c).1⟩,
    ⟨⟨rfl, rfl, rfl, rfl, rfl, rfl⟩, fun e r q c => (desk_elsewhere r q c).2⟩, by decide, by decide⟩

theorem test_EnterExtensionAbandonsAndLapses_met :
    ((entering 1 38 key).goodForm ∧ (entering 1 38 key).carries 7 ⟨[1, 2, 3], key, 2, true, some 38⟩) ∧
    ((entering 0 0 ⟨0, 0, 0, 0⟩).goodForm ∧
      (entering 0 0 ⟨0, 0, 0, 0⟩).carries 7 ⟨[1, 2, 3], ⟨0, 0, 0, 0⟩, 2, true, none⟩ ∧
      (⟨0, 0, 0, 0⟩ : Key) ≠ (asked none).secret) ∧
    ((asked none).state = .challenged ∧ (asked none).bound = none ∧ (asked none).challenge = some ⟨37, 77, none⟩) ∧
    (seated.state = .admitted ∧ seated.challenge = none ∧ seated.bound = some 37 ∧ (38 : Port) ≠ 37) ∧
    (∀ e r q c, (desk e r q c).entry? 7 = e ∧ ¬ (desk e r q c).numberElsewhere 7 [1, 2, 3] ∧
      (desk e r q c).takes ⟨1, 5, (entering 1 38 key).octets⟩ = true) := by
  refine ⟨⟨entering_good _ _ _ (by decide), entering_carries _ _ _⟩,
    ⟨entering_good _ _ _ (by decide), entering_carries _ _ _, by decide⟩, by decide, by decide, fun e r q c =>
      ⟨by simp [desk_entry], (desk_elsewhere r q c).1, desk_takes _ _ _ _ _ (by decide)⟩⟩

theorem test_EnterExtensionOnAMovingEntry_met :
    (going.state = .moving ∧ going.challenge = some ⟨38, 77, some 0⟩ ∧ going.bound = some 37 ∧ going.secret = key) ∧
    ((entering 1 99 key).goodForm ∧ (entering 1 99 key).carries 7 ⟨[1, 2, 3], key, 2, true, some 99⟩) ∧
    ((entering 1 37 key).goodForm ∧ (entering 1 37 key).carries 7 ⟨[1, 2, 3], key, 2, true, some 37⟩) ∧
    ((entering 0 0 ⟨0, 0, 0, 0⟩).goodForm ∧
      (entering 0 0 ⟨0, 0, 0, 0⟩).carries 7 ⟨[1, 2, 3], ⟨0, 0, 0, 0⟩, 2, true, none⟩) ∧
    ((entering 1 38 key).goodForm ∧ (entering 1 38 key).carries 7 ⟨[1, 2, 3], key, 2, true, some 38⟩) ∧
    ((desk (some going) (taken .idle) [] none).entry? 7 = some going ∧
      ¬ (desk (some going) (taken .idle) [] none).numberElsewhere 7 [1, 2, 3] ∧
      ∀ b : EnterBody, b.octets.length ≤ 512 → (desk (some going) (taken .idle) [] none).takes ⟨1, 5, b.octets⟩ = true) := by
  refine ⟨by decide, ⟨entering_good _ _ _ (by decide), entering_carries _ _ _⟩,
    ⟨entering_good _ _ _ (by decide), entering_carries _ _ _⟩, ⟨entering_good _ _ _ (by decide), entering_carries _ _ _⟩,
    ⟨entering_good _ _ _ (by decide), entering_carries _ _ _⟩, by simp [desk_entry], (desk_elsewhere _ _ _).1,
    fun b h => desk_takes _ _ _ _ _ (by simpa [Frame.fits] using h)⟩

theorem test_EraseAndUnlockByIndex_met :
    319 < (320 : Word).toNat ∧ (desk none free [] none).takes ⟨2, 5, wordOctets 320⟩ = true ∧
    (desk none free [] none).takes ⟨3, 5, wordOctets 320⟩ = true ∧
    ((9 : ExtIx).val = (9 : Word).toNat ∧ (desk none free [] none).entry? 9 = none ∧
      (desk none free [] none).takes ⟨2, 5, wordOctets 9⟩ = true ∧ (desk none free [] none).takes ⟨3, 5, wordOctets 9⟩ = true) ∧
    (going.liveCall = none ∧ going.challenge = some ⟨38, 77, some 0⟩ ∧ going.bound = some 37) := by
  decide +kernel

theorem test_EraseAndUnlockExtension_met :
    (∀ e r q c, (desk (some e) r q c).entry? 7 = some e ∧ (desk (some e) r q c).takes ⟨2, 5, wordOctets 7⟩ = true ∧
      (desk (some e) r q c).takes ⟨3, 5, wordOctets 7⟩ = true) ∧
    talking.liveCall ≠ none ∧ (resting.liveCall = none ∧ resting.challenge = none ∧ resting.bound = none) ∧
    (seated.challenge = none ∧ seated.bound = some 37) ∧
    ((asked none).challenge = some ⟨37, 77, none⟩ ∧ (asked none).bound = none) ∧ resting.state ≠ .locked ∧
    (barred.state = .locked ∧ barred.lock = some (.seconds 0)) := by
  refine ⟨fun e r q c => ⟨by simp [desk_entry], desk_takes _ _ _ _ _ (by decide), desk_takes _ _ _ _ _ (by decide)⟩, ?_⟩
  decide

theorem test_SetClassAndSetScreenStoreRecords_met :
    (∀ b : ClassBody, b.octets.length ≤ 512 → State.reset.takes ⟨8, 5, b.octets⟩ = true) ∧
    (7 < (8 : Byte).toNat ∧ 3 < (4 : Byte).toNat ∧ 1 < (2 : Byte).toNat) ∧
    ((7 : ClassNo).val = (7 : Byte).toNat ∧ Verdict.clear.octet = 3 ∧ KeyWaitPolicy.drop.octet = 1) ∧
    (⟨7, 3, 1, 49, 0, 0, 9, 99⟩ : ClassBody).octets.length ≤ 512 ∧
    (([none, some 11, some 0] : List (Option Digit)).map (fun d => (d.map Fin.val).getD 12) =
      ((⟨[12, 11, 0, 99, 99, 99, 99, 99, 99, 99, 99, 99], rfl⟩ : Table Byte 12).cells.take 3).map BitVec.toNat) ∧
    (∃ i : Fin 12, i.val < 3 ∧
      12 < ((⟨[12, 11, 13, 0, 0, 0, 0, 0, 0, 0, 0, 0], rfl⟩ : Table Byte 12).get i).toNat) := by
  refine ⟨fun b h => reset_takes _ (by simpa [Frame.fits] using h), by decide, by decide, by decide, by decide,
    2, by decide⟩

theorem test_SetDeviceAndSetIntercept_met :
    State.reset.takes ⟨6, 5, [0, 0, 0, 0]⟩ = true ∧
    State.reset.takes ⟨6, 5, [1, 33] ++ (1 :: wordOctets 1999) ++ [1, 0] ++ (1 :: keyOctets key)⟩ = true ∧
    (191 < (192 : Byte).toNat ∧ (1 : Byte).toNat < (2 : Byte).toNat) ∧
    ((191 : Byte).toNat ≤ (191 : Byte).toNat ∧ (191 : Byte).toNat ≤ 191) ∧
    State.reset.takes ⟨24, 5, [1, 191, 191]⟩ = true ∧ State.reset.takes ⟨24, 5, [0, 0, 191]⟩ = true := by
  decide

/-- A mark above 1, a setting left out, and an octet too many. -/
theorem test_SetDeviceRefusesABadBody_met : ∀ body ∈ ([[2, 0, 0, 0], [0, 0, 0], [0, 0, 0, 0, 0]] : List (List Byte)),
    State.reset.takes ⟨6, 5, body⟩ = true ∧
    ∀ (absence idle : Option Byte) (interdigit : Option Word) (nonceKey : Option Key),
      body ≠ (match absence with | some o => [1, o] | none => [0]) ++
        (match interdigit with | some w => 1 :: wordOctets w | none => [0]) ++
        (match idle with | some o => [1, o] | none => [0]) ++
        (match nonceKey with | some k => 1 :: keyOctets k | none => [0]) := by
  intro body hb
  refine ⟨reset_takes _ (by revert hb; revert body; decide), ?_⟩
  simp only [List.mem_cons, List.not_mem_nil, or_false] at hb
  rintro (_ | a) (_ | i) (_ | d) (_ | k) <;> rcases hb with rfl | rfl | rfl <;> simp

/-! ## Station loops -/

theorem test_SetLoopByTheLoopsEnable_met :
    (7 < (8 : Byte).toNat ∧ 1 < (2 : Byte).toNat) ∧
    (State.reset.loop 7).enable = false ∧ (7 : LoopNo).val = (7 : Byte).toNat ∧
    (∀ st : Station, (pollListOf ⟨[1, 0, 0, 128], rfl⟩).get st =
      ((⟨[1, 0, 0, 128], rfl⟩ : Table Byte 4).get ⟨st.val / 8, by omega⟩).toNat.testBit (st.val % 8)) ∧
    (inCall [] .connected).wired ∧ ((inCall [] .connected).loop 1).enable = true ∧
    (((inCall [] .connected).loop 1).pollList.get 0 = true ∧ (pollListOf ⟨[1, 0, 0, 128], rfl⟩).get 0 = true) ∧
    (((inCall [] .connected).loop 1).pollList.get 5 = true ∧ (pollListOf ⟨[1, 0, 0, 128], rfl⟩).get 5 = false) ∧
    (inCall [] .connected).takes ⟨16, 5, (⟨1, 1, ⟨[1, 0, 0, 128], rfl⟩⟩ : LoopBody).octets⟩ = true := by
  refine ⟨by decide, by decide, by decide, by decide, inCall_wired _ _, by decide +kernel, by decide +kernel,
    by decide +kernel, desk_takes _ _ _ _ _ (by decide)⟩

/-- Address 5 removed from the list of loop 1, its extension ADMITTED; address 6, a MOVING extension's challenge pending
there; and address 0 added. -/
theorem test_SetLoopRunsTheAbsenceProcedure_met :
    ((1 : LoopNo).val = (1 : Byte).toNat ∧ (1 : Byte).toNat ≤ 1 ∧ (0 : Byte).toNat ≤ 1) ∧
    ((desk (some seated) (taken .blocked) [] none).wired ∧ (desk (some going) (taken .idle) [] none).wired) ∧
    (((desk (some seated) (taken .blocked) [] none).loop 1).enable = true ∧
      ((desk (some seated) (taken .blocked) [] none).loop 1).pollList.get 5 = true ∧
      (pollListOf ⟨[1, 0, 0, 0], rfl⟩).get 5 = false ∧
      ((desk (some seated) (taken .blocked) [] none).port (portOf 1 5)).presence = .present) ∧
    (seated.bound = some 37 ∧ loopOf 37 = 1 ∧ stationOf 37 = 5 ∧ seated.liveCall = none) ∧
    (going.challenge = some ⟨38, 77, some 0⟩ ∧ loopOf 38 = 1 ∧ stationOf 38 = 6) ∧ talking.liveCall ≠ none ∧
    ((spare (some seated) (taken .idle)).wired ∧ (spare (some seated) (taken .idle)).presenceWell ∧
      ((spare (some seated) (taken .idle)).loop 1).enable = true ∧
      ((spare (some seated) (taken .idle)).loop 1).pollList.get 0 = false ∧ (pollListOf ⟨[1, 0, 0, 0], rfl⟩).get 0 = true ∧
      (spare (some seated) (taken .idle)).takes ⟨16, 5, (⟨1, 1, ⟨[1, 0, 0, 0], rfl⟩⟩ : LoopBody).octets⟩ = true) := by
  have still : ∀ dial, dial ≠ DialState.dialling → (desk (some seated) (taken dial) [] none).wired := fun dial h =>
    quiet_wired _ (by constructor <;> decide) rfl (.inr ⟨rfl, rfl⟩) (fun _ h => by cases h) h
  refine ⟨by decide, ⟨still _ (by decide), ?_⟩, by decide +kernel, by decide, by decide, by decide,
    wired_of (still .idle (by decide)) rfl rfl rfl, desk_presenceWell _ _ _ _ _ (by decide), by decide +kernel⟩
  refine quiet_wired _ (by constructor <;> decide) rfl (.inr ⟨rfl, rfl⟩) ?_ (by decide)
  rintro k ⟨⟩ h
  exact absurd h (by decide)

theorem test_SendToStationQueuesARelay_met :
    (32 < (List.replicate 33 (0 : Byte)).length ∧ (List.replicate 32 (0 : Byte)).length ≤ 32) ∧
    ((State.reset.loop (loopOf 255)).enable = false ∧ (255 : Port).val = (255 : Byte).toNat) ∧
    (((desk none free [] none).loop (loopOf 37)).enable = true ∧
      ((desk none free [] none).loop (loopOf 37)).pollList.get (stationOf 37) = true ∧
      ((desk none free [] none).port 37).presence = .present ∧
      ((desk none free [] none).loop (loopOf 37)).relayCount < 8) ∧
    ((desk none free [] none).port 39).presence = .absent ∧
    8 ≤ ((desk none free (List.replicate 8 ⟨5, .relay []⟩) none).loop (loopOf 37)).relayCount ∧
    (desk none free [] none).takes ⟨18, 5, 37 :: List.replicate 32 0⟩ = true := by
  decide +kernel

theorem test_TurnSendsABlockAndStartsItsTimer_met :
    (((desk none free [] none).loop 1).state = .idleCycle ∧ ((desk none free [] none).loop 1).turn = none ∧
      ((desk none free [] none).loop 1).turnGoesTo 0) ∧
    ({ ring [] with position := some 31 } : LoopRec).turnGoesTo 0 ∧
    ({ ring [] with position := some 30 } : LoopRec).turnGoesTo 31 ∧
    ((ring [⟨5, .notice .alert⟩, ⟨0, .relay [1]⟩, ⟨0, .challenge 77⟩]).queue =
        [⟨5, .notice .alert⟩] ++ ⟨0, .relay [1]⟩ :: [⟨0, .challenge 77⟩] ∧
      (∀ q ∈ ([⟨5, .notice .alert⟩] : List QueueRec), q.station ≠ 0) ∧ (OutBlock.relay [1]).kindBody = (13, [1])) ∧
    (∀ nonce, some (OutBlock.notice .alert) ≠ some (.challenge nonce)) ∧
    (((desk (some (asked none)) free [] none).putLoop 1
        { ring [] with turn := some ⟨5, some (.challenge 77), [], .sending⟩ }).loop 1).turn =
      some ⟨5, some (.challenge 77), [], .sending⟩ ∧
    (((desk (some (asked none)) free [] none).putLoop 1
        { ring [] with turn := some ⟨5, some (.challenge 77), [], .sending⟩ }).challengeAt (portOf 1 5) = some 7 ∧
      (asked none).challenge = some ⟨37, 77, none⟩) := by
  refine ⟨⟨by decide +kernel, by decide +kernel, ?_⟩, ?_, ?_, by decide, by simp, by decide +kernel, by decide +kernel⟩
  · rw [desk_loop]
    exact ⟨by decide, .inr ⟨by rintro p ⟨⟩, by intro k hk; exact absurd hk (by simp)⟩⟩
  · refine ⟨by decide, .inr ⟨?_, by intro k hk; exact absurd hk (by simp)⟩⟩
    rintro p ⟨⟩
    decide
  · exact ⟨by decide, .inl ⟨30, rfl, by decide⟩⟩

/-- A desk whose loop 1 waits for a reply of station 5 (port 37). -/
def Tests.waiting (e : Option Entry) (r : PortRec) : State :=
  (desk e r [] none).putLoop 1 { ring [] with turn := some ⟨5, none, [], .window⟩ }

theorem Tests.waiting_awaits (e r) : (waiting e r).awaits 1 5 :=
  ⟨⟨5, none, [], .window⟩, by simp [waiting, State.loop, State.putLoop], rfl, rfl⟩

theorem test_MissedTurnsCountUpToAbsence_met :
    (∀ e r, (waiting e r).awaits 1 5) ∧ portOf 1 5 = 37 ∧
    min 32 (((waiting none { free with miss := 6 }).port 37).miss + 1) < (waiting none free).absenceLimit ∧
    ((waiting none { free with presence := .absent, miss := 32 }).port 37).presence = .absent ∧
    ((waiting none { free with miss := 7 }).port 37).presence = .present ∧
    (waiting none free).absenceLimit ≤ min 32 (((waiting none { free with miss := 7 }).port 37).miss + 1) ∧
    (((waiting none { free with miss := 7 }).port 37).bound = none ∧
      (waiting none { free with miss := 7 }).challengeAt 37 = none) ∧
    (((waiting (some seated) { taken .idle with miss := 7 }).port 37).bound = some 7 ∧
      (waiting (some seated) { taken .idle with miss := 7 }).challengeAt 37 = none) ∧
    (waiting (some (asked none)) { free with miss := 7 }).challengeAt 37 = some 7 := by
  exact ⟨waiting_awaits, by decide +kernel⟩

theorem test_missedTurns_garbled :
    (waiting none { free with miss := 7 }).awaits 1 5 ∧ ([⟨7, true, false⟩] : List LoopChar) ≠ [] ∧ ∀ block, ¬ validReply 5 [⟨7, true, false⟩] block := by
  refine ⟨waiting_awaits _ _, by decide, ?_⟩
  rintro (_ | ⟨kind, body⟩) h
  · exact absurd (show ([⟨7, true, false⟩] : List LoopChar) = [⟨BitVec.ofNat 8 (5 + 1), true, false⟩] from h) (by decide)
  · have := congrArg List.length h.2
    simp at this

theorem test_ValidReplyHandsItsBlockOn_met :
    (waiting none free).awaits 1 5 ∧ validReply 5 [⟨6, true, false⟩] none ∧
    validReply 5 [⟨6, true, false⟩, ⟨3, false, false⟩, ⟨0, false, false⟩, ⟨252, false, false⟩] (some (3, [])) ∧
    decodeStationBlock 3 [] = some .checkIn ∧
    validReply 5 [⟨6, true, false⟩, ⟨8, false, false⟩, ⟨0, false, false⟩, ⟨247, false, false⟩] (some (8, [])) ∧
    decodeStationBlock 8 [] = none ∧ ((waiting none free).port 37).presence = .present := by
  refine ⟨waiting_awaits _ _, rfl, ⟨by decide, rfl⟩, by decide, ⟨by decide, rfl⟩, by decide, by decide +kernel⟩

theorem test_StationBlocksByKind_met :
    (∀ d ∈ ([9, 0, 9] : List Digit), d.val < 10) ∧ (List.replicate 16 (11 : Digit)).length ≤ 16 ∧
    (List.replicate 32 (0 : Byte)).length ≤ 32 ∧ 32 < (List.replicate 33 (0 : Byte)).length ∧
    16 < (List.replicate 17 (0 : Byte)).length ∧ 1 < (2 : Byte).toNat ∧ (∃ o ∈ ([12] : List Byte), 11 < o.toNat) ∧
    (([0, 0, 0] : List Byte).length ≠ 4 ∧ ([0] : List Byte) ≠ []) ∧ 7 < (8 : Byte).toNat ∧ (∃ o ∈ ([1, 2, 10] : List Byte), 9 < o.toNat) ∧
    (desk none free [] none).blockArrives 37 (.feature []) :=
  ⟨by decide, by decide, by decide, by decide, by decide, by decide, ⟨12, by decide⟩, by decide, by decide,
    ⟨10, by decide⟩, ⟨.inl (by decide +kernel), by decide +kernel⟩⟩

theorem test_LoopBreakAndRestore_met :
    ((inCall [] .connected).wired ∧ ((inCall [] .connected).loop 1).state = .idleCycle) ∧
    (desk (some (asked none)) free [⟨5, .challenge 77⟩] none).wired ∧
    (((desk (some (asked none)) free [⟨5, .challenge 77⟩] none).loop 1).state = .idleCycle) ∧
    (((desk none free [] none).putLoop 1 { ring [] with state := .fault }).loop 1).state = .fault := by
  refine ⟨⟨inCall_wired _ _, by decide +kernel⟩, ?_, by decide +kernel, by decide +kernel⟩
  exact quiet_wired _ (by constructor <;> decide) rfl (.inl ⟨rfl, rfl⟩) (fun _ _ _ => rfl) (by decide)

/-! ## Admission -/

theorem Tests.desk_arrives {e q c} {r : PortRec} (h : r.presence = .present) (b : StationBlock) :
    (desk e r q c).blockArrives 37 b ∧ (desk e r q c).blockArrives 38 b := by
  refine ⟨⟨.inl rfl, ?_⟩, .inl rfl, ?_⟩ <;> simp [desk_port, h, free]

theorem test_RegisterIsDenied_met :
    (∀ number, (desk (some resting) free [] none).blockArrives 37 (.register number)) ∧
    ((desk (some resting) free [] none).challengeAt 37 = none ∧
      ∀ ix d, (desk (some resting) free [] none).entry? ix = some d → d.number ≠ [9, 9, 9]) ∧
    ((desk (some barred) free [] none).onlyHolder 7 barred [1, 2, 3] ∧ barred.state = .locked) ∧
    ((desk (some { resting with home := some 38, failures := 1 }) free [] none).onlyHolder 7
        { resting with home := some 38, failures := 1 } [1, 2, 3] ∧
      min 15 (1 + 1) < ((desk none free [] none).classes.get 2).threshold) ∧
    ((desk (some { resting with home := some 38, failures := 2 }) free [] none).onlyHolder 7
        { resting with home := some 38, failures := 2 } [1, 2, 3] ∧
      ((desk none free [] none).classes.get 2).threshold ≤ min 15 (2 + 1)) ∧
    ((desk (some seated) (taken .waiting) [] none).onlyHolder 7 seated [1, 2, 3] ∧
      (desk (some seated) (taken .waiting) [] none).wayClear 37 7 ∧
      ((desk (some seated) (taken .waiting) [] none).port 37).bound = some 7 ∧
      ((desk (some seated) (taken .waiting) [] none).port 37).dial ≠ .idle) ∧
    ((desk (some (asked none)) free [] none).onlyHolder 7 (asked none) [1, 2, 3] ∧
      (desk (some (asked none)) free [] none).wayClear 38 7 ∧ (asked none).challenge = some ⟨37, 77, none⟩ ∧
      ((desk (some (asked none)) free [] none).port 38).bound = none) ∧
    ((desk (some talking) (taken .inCall) [] none).onlyHolder 7 talking [1, 2, 3] ∧
      (desk (some talking) (taken .inCall) [] none).wayClear 38 7 ∧ talking.liveCall ≠ none ∧
      ((desk (some talking) (taken .inCall) [] none).port 38).bound = none) := by
  refine ⟨fun _ => (desk_arrives rfl _).1, ⟨by decide +kernel, desk_unknown _ _ _ rfl⟩,
    ⟨desk_holder _ _ _ rfl, rfl⟩, ⟨desk_holder _ _ _ rfl, by decide +kernel⟩, ⟨desk_holder _ _ _ rfl, by decide +kernel⟩,
    ⟨desk_holder _ _ _ rfl, ?_, by decide +kernel, by decide +kernel⟩,
    ⟨desk_holder _ _ _ rfl, ?_, by decide +kernel, by decide +kernel⟩,
    ⟨desk_holder _ _ _ rfl, ?_, by decide +kernel, by decide +kernel⟩⟩ <;> unfold State.wayClear <;> decide +kernel

/-- The port of another extension: entry 8 holds the number, entry 7 sits at port 37. -/
theorem test_RegisterIsDenied_by_the_port_of_another :
    (desk (some seated) (taken .blocked) [] none).onlyHolder 8 other [1, 2, 4] ∧
    (desk (some seated) (taken .blocked) [] none).wayClear 37 8 ∧
    ((desk (some seated) (taken .blocked) [] none).port 37).bound = some 7 ∧ (7 : ExtIx) ≠ 8 ∧
    ((desk (some seated) (taken .blocked) [] none).port 37).dial ≠ .idle ∧
    ((desk (some seated) (taken .idle) [] none).port 37).dial = .idle := by
  refine ⟨⟨by simp [desk_entry], rfl, ?_⟩, ?_, by decide +kernel⟩
  · intro j d hd hn
    rcases desk_cases hd with ⟨h, _⟩ | ⟨_, h⟩
    · exact h
    · cases h; exact absurd hn (by decide)
  · unfold State.wayClear; decide +kernel

theorem test_RegisterIssuesAChallenge_met :
    ((desk (some (asked none)) free [⟨5, .challenge 77⟩] none).challengeAt 37 = some 7 ∧
      (∀ ix d, (desk (some (asked none)) free [⟨5, .challenge 77⟩] none).entry? ix = some d → d.number ≠ [9, 9, 9]) ∧
      (asked none).challenge = some ⟨37, 77, none⟩ ∧ (asked none).state = .challenged) ∧
    ((desk (some resting) free [] none).onlyHolder 7 resting [1, 2, 3] ∧
      (desk (some resting) free [] none).wayClear 37 7 ∧ resting.home = none ∧ resting.challenge = none ∧
      ((desk (some resting) free [] none).port 37).bound = none) ∧
    ((desk (some (asked (some 0))) free [] none).onlyHolder 7 (asked (some 0)) [1, 2, 3] ∧
      (desk (some (asked (some 0))) free [] none).wayClear 37 7) ∧
    ((desk (some going) (taken .idle) [] none).onlyHolder 7 going [1, 2, 3] ∧
      (desk (some going) (taken .idle) [] none).wayClear 38 7 ∧ going.challenge = some ⟨38, 77, some 0⟩ ∧
      ((desk (some going) (taken .idle) [] none).port 38).bound = none) := by
  refine ⟨⟨by decide +kernel, desk_unknown _ _ _ rfl, rfl, rfl⟩, ⟨desk_holder _ _ _ rfl, ?_, rfl, rfl, by decide +kernel⟩,
    ⟨desk_holder _ _ _ rfl, ?_⟩, desk_holder _ _ _ rfl, ?_, rfl, by decide +kernel⟩ <;> unfold State.wayClear <;>
    decide +kernel

theorem test_RegisterAgainMovesOrTakesOver_met :
    (desk (some seated) (taken .idle) [] none).onlyHolder 7 seated [1, 2, 3] ∧
    ((desk (some seated) (taken .idle) [] none).wayClear 37 7 ∧ (desk (some seated) (taken .idle) [] none).wayClear 38 7 ∧
      (desk (some seated) (taken .idle) [] none).wayClear 37 8) ∧
    (∀ number, (desk (some seated) (taken .idle) [] none).blockArrives 37 (.register number) ∧
      (desk (some seated) (taken .idle) [] none).blockArrives 38 (.register number)) ∧
    (seated.home = none ∧ seated.challenge = none ∧ seated.liveCall = none ∧ seated.bound = some 37) ∧
    (((desk (some seated) (taken .idle) [] none).port 37).bound = some 7 ∧
      ((desk (some seated) (taken .idle) [] none).port 38).bound = none ∧
      ((desk (some seated) (taken .idle) [] none).port 37).dial = .idle) ∧
    (other.state = .unbound ∧ other.challenge = none ∧ other.home = none) := by
  refine ⟨desk_holder _ _ _ rfl, ?_, fun _ => desk_arrives rfl _, by decide, by decide +kernel, by decide⟩
  unfold State.wayClear
  decide +kernel

/-- The challenge of entry 7 pending at port 37, where the number of entry 8 registers. -/
theorem test_RegisterClearsTheWayFirst_met :
    (desk (some (asked none)) free [⟨5, .challenge 77⟩] none).wired ∧
    (desk (some (asked none)) free [⟨5, .challenge 77⟩] none).blockArrives 37 (.register [1, 2, 4]) ∧
    (desk (some (asked none)) free [⟨5, .challenge 77⟩] none).entry? 7 = some (asked none) ∧
    (asked none).challenge = some ⟨37, 77, none⟩ ∧ (asked none).number ≠ [1, 2, 4] :=
  ⟨quiet_wired _ (by constructor <;> decide) rfl (.inl ⟨rfl, rfl⟩) (fun _ _ _ => rfl) (by decide),
    (desk_arrives rfl _).1, by simp [desk_entry], rfl, by decide⟩

/-- Entry 7 idle at port 37; entry 8, which takes it over, UNBOUND, challenged elsewhere, or in a call elsewhere and so denied
afterwards. -/
theorem test_TakeoverStandsWhateverFollows_met :
    ∀ e ∈ [other, { other with state := .challenged, challenge := some ⟨39, 77, none⟩ },
      { other with state := .admitted, bound := some 39, refresh := some 9, liveCall := some 2 }],
    ∀ s, s = (desk (some seated) (taken .idle) [] none).putEntry 8 (some e) →
      s.blockArrives 37 (.register [1, 2, 4]) ∧ s.onlyHolder 8 e [1, 2, 4] ∧ s.wayClear 37 8 ∧ e.state ≠ .locked ∧
      e.home = none ∧ (7 : ExtIx) ≠ 8 ∧ (s.port 37).bound = some 7 ∧ s.entry? 7 = some seated ∧
      (s.port 37).dial = .idle ∧ seated.bound = some 37 ∧ seated.state = .admitted := by
  rintro e he s rfl
  have number : e.number = [1, 2, 4] ∧ e.state ≠ .locked ∧ e.home = none := by
    simp only [List.mem_cons, List.not_mem_nil, or_false] at he
    rcases he with rfl | rfl | rfl <;> exact ⟨rfl, by decide, rfl⟩
  have entry : ∀ j, ((desk (some seated) (taken .idle) [] none).putEntry 8 (some e)).entry? j =
      if j = 8 then some e else if j = 7 then some seated else none := fun j => by
    by_cases h8 : j = 8 <;> by_cases h7 : j = 7 <;>
      simp [desk, State.entry?, State.putEntry, State.putLoop, State.putCall, State.reset, State.cold, Table.get_set, h8, h7]
  have arrives := (desk_arrives (e := some seated) (q := []) (c := none) (r := taken .idle) rfl (.register [1, 2, 4])).1
  refine ⟨arrives, ⟨by simp [entry], number.1, ?_⟩, ?_, number.2.1, number.2.2, by decide, rfl, by simp [entry], rfl,
    rfl, rfl⟩
  · intro j d hd hn
    rw [entry] at hd
    split_ifs at hd with h8 h7
    · exact h8
    · cases hd; exact absurd hn (by decide)
  · simp only [List.mem_cons, List.not_mem_nil, or_false] at he
    unfold State.wayClear
    rcases he with rfl | rfl | rfl <;> decide +kernel

theorem test_MatchingAnswerAdmits_met :
    ((desk (some (asked (some 0))) free [] none).challengeAt 37 = some 7 ∧
      (asked (some 0)).challenge = some ⟨37, 77, some 0⟩ ∧ (asked (some 0)).state = .challenged) ∧
    ((desk (some going) (taken .idle) [] none).challengeAt 38 = some 7 ∧ going.challenge = some ⟨38, 77, some 0⟩ ∧
      going.state = .moving ∧ going.bound = some 37 ∧
      ((desk (some going) (taken .idle) [] none).port 37).dial = .idle) ∧
    (∀ e r response, r.presence = .present → (desk e r [] none).blockArrives 37 (.answer response) ∧
      (desk e r [] none).blockArrives 38 (.answer response)) := by
  refine ⟨by decide +kernel, by decide +kernel, fun e r _ h => desk_arrives h _⟩

theorem test_FailedAnswersCountFailures_met :
    (desk (some resting) free [] none).challengeAt 37 = none ∧
    (desk (some (asked none)) free [] none).challengeAt 37 = some 7 ∧
    (desk (some (asked (some 0))) free [] none).wired ∧ (desk (some going) (taken .idle) [] none).wired ∧
    (desk (some (asked (some 0))) free [] none).challengeAt 37 = some 7 ∧
    (asked (some 0)).challenge = some ⟨37, 77, some 0⟩ ∧
    ((desk (some (asked (some 0))) free [] none).port 37).presence = .present ∧
    (0 : Long) ≠ longOf (mix 77 key) (mix (77 + 1) key) := by
  refine ⟨by decide +kernel, by decide +kernel, ?_, ?_, by decide +kernel⟩
  · exact quiet_wired _ (by constructor <;> decide) rfl (.inl ⟨rfl, rfl⟩) (fun _ _ _ => rfl) (by decide)
  · refine quiet_wired _ (by constructor <;> decide) rfl (.inr ⟨rfl, rfl⟩) ?_ (by decide)
    rintro k ⟨⟩ h
    exact absurd h (by decide)

theorem test_CheckInReloadsAndRefreshExpiryLapses_met :
    (∀ e r, r.presence = .present → (desk e r [] none).blockArrives 37 .checkIn) ∧
    ((desk (some resting) free [] none).port 37).bound = none ∧
    (∀ e dial, ((desk (some e) (taken dial) [] none).port 37).bound = some 7 ∧
      (desk (some e) (taken dial) [] none).entry? 7 = some e) ∧
    going.state = .moving ∧ seated.state = .admitted ∧ { seated with refreshDue := true }.refreshDue = true :=
  ⟨fun _ _ h => (desk_arrives h _).1, by decide +kernel, fun e dial => by simp [desk_port, desk_entry, taken], by decide⟩

/-! ## Dialling and screening -/

theorem test_OffHookAndOnHookByDialState_met :
    (∀ e r b, r.presence = .present → (desk e r [] none).blockArrives 37 b) ∧
    (∀ e dial, ((desk (some e) (taken dial) [] none).port 37).dial = dial ∧
      ((desk (some e) (taken dial) [] none).port 37).bound = some 7 ∧
      ((desk (some e) (taken dial) [] none).port 37).call = some 1 ∧
      (desk (some e) (taken dial) [] none).entry? 7 = some e) ∧
    (((desk none free [] none).port 37).dial = .idle ∧ ((desk none free [] none).port 37).bound = none) ∧
    seated.state = .admitted ∧ going.state = .moving :=
  ⟨fun _ _ _ h => (desk_arrives h _).1, fun e dial => by simp [desk_port, desk_entry, taken], by decide +kernel⟩

theorem test_DigitsAreCollectedAndEvaluated_met :
    (∀ flag codes, (desk (some seated) (taken .dialling) [] none).blockArrives 37 (.digits flag codes)) ∧
    (((desk (some seated) (taken .dialling) [] none).port 37).dial = .dialling ∧
      ((desk (some seated) (taken .dialling) [] none).port 37).interdigit = some 0 ∧
      ((desk (some seated) (taken .dialling) [] none).port 37).buffer = []) ∧
    ((List.replicate 8 (11 : Digit)).length + (List.replicate 15 (0 : Digit)).length < 24 ∧
      24 ≤ (List.replicate 8 (11 : Digit)).length + (List.replicate 16 (0 : Digit)).length) ∧
    ((desk (some seated) { taken .dialling with buffer := [9] } [] none).port 37).buffer ≠ [] ∧
    ((desk (some seated) (taken .blocked) [] none).port 37).dial ≠ .dialling :=
  ⟨fun _ _ => (desk_arrives rfl _).1, by decide +kernel⟩

theorem test_EvaluationBarsOrRequestsAFreshCall_met :
    (((desk (some seated) (taken .dialling) [] none).port 37).bound = some 7 ∧
      (desk (some seated) (taken .dialling) [] none).entry? 7 = some seated) ∧
    decidingScreen (desk (some seated) (taken .dialling) [] none).screens 2 [9] = none ∧
    ((desk (some seated) (taken .dialling) [] none).classes.get 2).defaultVerdict ≠ .bar ∧
    decidingScreen ((desk (some seated) (taken .dialling) [] none).screens.set 23
      ⟨true, Table.replicate 8 true, 0, [none], 1, 24, false, false, .bar⟩) 2 [9] = some 23 ∧
    (∀ i : Fin 128, (Table.replicate 128 (some (call .held)) : Table (Option Call) 128).get i ≠ none) ∧
    ((inCall [] .held).calls.get 1 = none ∧ (∀ j : Fin 128, j < 1 → (inCall [] .held).calls.get j ≠ none) ∧
      (inCall [] .held).freshId = 2) := by
  decide +kernel

theorem test_freshId_wraps :
    ({ inCall [] .held with nextId := 255 } : State).freshId = 2 ∧ ({ State.reset with nextId := 255 } : State).freshId = 1 := by
  decide +kernel

/-! ## Calls -/

theorem test_OpenCallOffersACall_met :
    (∀ e r q c, (desk e r q c).takes ⟨40, 5, wordOctets 7 ++ [3]⟩ = true ∧ (desk e r q c).entry? 7 = e) ∧
    (319 < (320 : Word).toNat ∧ (0 : Byte) = 0 ∧ 4 ≤ (4 : Byte).toNat) ∧
    ((7 : ExtIx).val = (7 : Word).toNat ∧ Verdict.clear.octet = 3 ∧ Verdict.clear ≠ .bar) ∧
    (going.state = .moving ∧ resting.state = .unbound ∧ (asked none).state = .challenged ∧ barred.state = .locked) ∧
    (seated.state = .admitted ∧ seated.bound = some 37 ∧
      ((desk (some seated) (taken .blocked) [] none).port 37).dial ≠ .idle ∧
      ((desk (some seated) (taken .idle) [] none).port 37).dial = .idle ∧
      (desk (some seated) (taken .idle) [] none).calls.get 0 = none ∧
      (desk (some seated) (taken .idle) [] none).freshId = 1) ∧
    (∀ i : Fin 128, (Table.replicate 128 (some (call .held)) : Table (Option Call) 128).get i ≠ none) := by
  exact ⟨fun e r q c => ⟨desk_takes _ _ _ _ _ (by decide), by simp [desk_entry]⟩, by decide +kernel⟩

/-- A CONNECT CALL body for call 1 in clear, and one over a TRUNK or a STATION context. -/
def Tests.inClear : ConnectBody := ⟨1, [⟨0, 191, 0, 0⟩, ⟨191, 0, 1, 0⟩], []⟩
def Tests.secured (far : Byte) : ConnectBody := ⟨1, [⟨0, 191, 2, 0⟩, ⟨191, 0, 3, 0⟩], [⟨far, 31, 7, 0, 2048, 16⟩]⟩

/-- A desk with a REQUESTED call and a key in held slot 31. -/
def Tests.ready : State := { inCall [] .requested with heldKeys := (Table.replicate 32 none).set 31 (some key) }

theorem Tests.ready_wired : ready.wired := wired_of (inCall_wired [] .requested) rfl rfl rfl

theorem test_ConnectCallChecksInOrder_met :
    (∀ b : ConnectBody, b.octets.length ≤ 512 → ready.takes ⟨41, 5, b.octets⟩ = true) ∧
    ready.call? 2 = none ∧ ready.call? 1 = some (call .requested) ∧
    ((inCall [] .held).call? 1 = some (call .held) ∧ (call .held).state ≠ .requested ∧ (call .held).state ≠ .offered) ∧
    connectPlans? ⟨1, [], []⟩ = none ∧
    connectPlans? inClear = some ([⟨0, 191, .pass⟩, ⟨191, 0, .mute⟩], []) ∧
    connectPlans? (secured 0) = some ([⟨0, 191, .scramble 0⟩, ⟨191, 0, .descramble 0⟩], [⟨.station, .mask, 2048, 16⟩]) ∧
    connectPlans? (secured 1) =
      some ([⟨0, 191, .scramble 0⟩, ⟨191, 0, .descramble 0⟩], [⟨.trunk 31 7, .mask, 2048, 16⟩]) ∧
    (ready.heldKeys.get 30 = none ∧ ready.heldKeys.get 31 ≠ none) ∧
    (¬ ([0, 0] : List SlotNo).Nodup ∧ ([0, 191] : List SlotNo).Nodup ∧ ready.connections.get 191 = none) ∧
    ((List.finRange 96).filter (fun x => decide ((State.context { ready with
        contexts := Table.replicate 96 { Context.free with state := .active } } x).state = .free))).length < 1 ∧
    16 < (List.replicate 16 (⟨0, 1⟩ : WaitItem)).length + 1 := by
  refine ⟨fun b h => ?_, by decide +kernel⟩
  simp [ready, inCall, State.takes, Frame.fits, h, desk, State.putLoop, State.putCall, State.reset, State.cold]

theorem test_ConnectCallInstallsPathsAndContexts_met :
    ready.wired ∧ ready.calls.get 0 = some (call .requested) ∧ (call .requested).id = inClear.call ∧
    ready.connectRefusal (call .requested) [⟨0, 191, .pass⟩, ⟨191, 0, .mute⟩] [] = none ∧
    ready.connectRefusal (call .requested) [⟨0, 191, .scramble 0⟩, ⟨191, 0, .descramble 0⟩]
      [⟨.trunk 31 7, .mask, 2048, 16⟩] = none ∧
    ready.connectRefusal (call .requested) [⟨0, 191, .scramble 0⟩, ⟨191, 0, .descramble 0⟩]
      [⟨.station, .mask, 2048, 16⟩] = none ∧
    (ready.entry? 7 = some talking ∧ (ready.context 0).state = .free ∧ ready.supplier = .stopped ∧
      ready.heldKeys.get 31 = some key) :=
  ⟨ready_wired, by decide +kernel⟩

/-- Two contexts, one TRUNK and one STATION, their B and L to be adjusted. -/
def Tests.doubled : ConnectBody :=
  ⟨1, [⟨0, 191, 2, 0⟩, ⟨191, 0, 3, 0⟩, ⟨1, 190, 2, 1⟩, ⟨190, 1, 3, 1⟩], [⟨1, 31, 7, 1, 600, 40⟩, ⟨0, 0, 0, 0, 255, 1⟩]⟩

/-- Its supplier STOPPED, or SUSPENDED with context 95 waiting ahead. -/
theorem test_ConnectRunsTheServingPass_met :
    ∀ s ∈ [ready, { ready.putContext 95 { Context.free with state := .keyWait, call := some 1 } with
      supplier := .suspended, waitQueue := [⟨95, 5⟩] }],
      s.wired ∧ s.takes ⟨41, 5, doubled.octets⟩ = true ∧ s.calls.get 0 = some (call .requested) ∧ s.entry? 7 = some talking ∧
      connectPlans? doubled = some ([⟨0, 191, .scramble 0⟩, ⟨191, 0, .descramble 0⟩, ⟨1, 190, .scramble 1⟩,
        ⟨190, 1, .descramble 1⟩], [⟨.trunk 31 7, .shuffle, 600, 40⟩, ⟨.station, .mask, 255, 1⟩]) ∧
      s.connectRefusal (call .requested) [⟨0, 191, .scramble 0⟩, ⟨191, 0, .descramble 0⟩, ⟨1, 190, .scramble 1⟩,
        ⟨190, 1, .descramble 1⟩] [⟨.trunk 31 7, .shuffle, 600, 40⟩, ⟨.station, .mask, 255, 1⟩] = none ∧
      ((List.finRange 96).filter (fun x => decide ((s.context x).state = .free))).take 2 = [0, 1] ∧
      s.heldKeys.get 31 = some key := by
  intro s hs
  simp only [List.mem_cons, List.not_mem_nil, or_false] at hs
  rcases hs with rfl | rfl
  · exact ⟨ready_wired, by decide +kernel⟩
  · exact ⟨wired_of ready_wired rfl rfl rfl, by decide +kernel⟩

/-- The same with the supplier RUNNING or SUSPENDED, a key at the draw pointer or none. -/
theorem test_ConnectServesItsOwnContext_met :
    ∀ x ∈ [Supplier.running, .suspended], ∀ slot ∈ [⟨.device, key⟩, RingSlot.empty], ∀ s : State,
      s = { ready with supplier := x, ring := ready.ring.set 0 slot } →
      s.wired ∧ s.calls.get 0 = some (call .requested) ∧ s.connectRefusal (call .requested)
        [⟨0, 191, .scramble 0⟩, ⟨191, 0, .descramble 0⟩] [⟨.station, .mask, 2048, 16⟩] = none ∧
      s.entry? 7 = some talking ∧ (s.context 0).state = .free ∧ s.supplier ≠ .stopped ∧ s.waitQueue = [] ∧
      s.pointer = 0 ∧ s.ring.get 0 = slot := by
  rintro x hx slot hs s rfl
  simp only [List.mem_cons, List.not_mem_nil, or_false] at hx hs
  refine ⟨wired_of ready_wired rfl rfl rfl, ?_⟩
  rcases hx with rfl | rfl <;> rcases hs with rfl | rfl <;> decide +kernel

theorem test_HoldAndRetrieve_met :
    (∀ f : Frame, f.fits = true → ∀ state, (inCall [] state).takes f = true) ∧ (inCall [] .held).call? 255 = none ∧
    (∀ state, (inCall [] state).call? 1 = some (call state) ∧ (inCall [] state).findCall 1 = some 0) := by
  refine ⟨fun f h state => desk_takes _ _ _ _ _ h, by decide +kernel, fun state => ?_⟩
  cases state <;> decide +kernel

theorem test_CallEndFreesEverything_met :
    (inCall [] .held).wired ∧ (inCall [] .held).calls.get 0 = some (call .held) ∧
    (inCall [] .held).entry? 7 = some talking ∧ talking.overdue = none ∧
    (call .requested).state = .requested ∧ (call .offered).state = .offered :=
  ⟨inCall_wired _ _, by decide +kernel⟩

/-- The call's extension is Overdue. -/
theorem test_CallEndCompletesADeferredLapse_met :
    (desk (some { talking with overdue := some .refresh }) (taken .inCall) [] (some (call .held))).wired ∧
    (desk (some { talking with overdue := some .refresh }) (taken .inCall) [] (some (call .held))).calls.get 0 =
      some (call .held) ∧
    (desk (some { talking with overdue := some .refresh }) (taken .inCall) [] (some (call .held))).entry? 7 =
      some { talking with overdue := some .refresh } := by
  refine ⟨?_, by decide +kernel⟩
  apply desk_wired
  · rintro d ⟨⟩; constructor <;> decide
  · rintro d p ⟨⟩ ⟨⟩; exact ⟨rfl, rfl⟩
  · rintro ix ⟨⟩; exact ⟨rfl, _, rfl, rfl⟩
  · rintro d k ⟨⟩ ⟨⟩
  · intro h; exact absurd h (by decide)
  · intro d _ _; exact .inr (.inr rfl)
  · rintro k ⟨⟩; exact ⟨fun h : (1 : CallId) = 0 => absurd h (by decide), rfl, rfl, _, rfl, rfl, rfl⟩

/-- A call that waits for the key of context 0, its time run out. -/
def Tests.short : State :=
  { (inCall [] .connecting).putContext 0 { Context.free with state := .keyWait, call := some 1 } with
    waitQueue := [⟨0, 0⟩], ring := (Table.replicate 128 RingSlot.empty).set 127 ⟨.device, key⟩, pointer := 127 }

theorem Tests.short_wired : short.wired := wired_of (inCall_wired [] .connecting) rfl rfl rfl

theorem test_KeyWaitExpiryAppliesThePolicy_met :
    short.wired ∧ (⟨0, 0⟩ : WaitItem) ∈ short.waitQueue ∧ (short.context 0).call = some 1 ∧
    short.calls.get 0 = some (call .connecting) ∧ short.entry? 7 = some talking ∧
    (short.classes.get 2).policy = .fallClear ∧ (call .connecting).verdict = .allow ∧
    (((Table.replicate 8 { ClassRec.cold with policy := .drop } : Table ClassRec 8).get 2).policy = .drop) :=
  ⟨short_wired, by decide +kernel⟩

/-! ## The key store, frames and the time base -/

/-- A pass that another request than the first waiter's own began, and one that its own began. -/
theorem test_ServingPassLeavesItsOwnCall_met :
    short.wired ∧ short.waitQueue = ⟨0, 0⟩ :: [] ∧ short.ring.get short.pointer = ⟨.device, key⟩ ∧
    (short.context 0).call = some (call .connecting).id ∧ short.calls.get 0 = some (call .connecting) ∧
    short.entry? (call .connecting).ext = some talking ∧ (none : Option CtxId) ≠ some 0 ∧ some (1 : CtxId) ≠ some 0 :=
  ⟨short_wired, by decide +kernel⟩

theorem test_ServingPassesAndDrawRequests_met :
    State.reset.waitQueue = [] ∧
    ({ short with pointer := 0 } : State).waitQueue ≠ [] ∧
    ((({ short with pointer := 0 } : State).ring.get 0).owner = .host) ∧
    (short.wired ∧ short.waitQueue = ⟨0, 0⟩ :: [] ∧ short.ring.get short.pointer = ⟨.device, key⟩) ∧
    (State.reset.takes ⟨35, 5, []⟩ = true ∧ State.reset.takes ⟨36, 5, []⟩ = true ∧ State.reset.takes ⟨37, 5, []⟩ = true) ∧
    State.reset.supplier = .stopped ∧ ({ State.reset with supplier := .suspended } : State).supplier ≠ .stopped := by
  exact ⟨by decide, by decide, by decide +kernel, ⟨short_wired, by decide +kernel⟩, by decide, by decide, by decide⟩

theorem test_KeyRequestsWriteTheStore_met :
    State.reset.takes ⟨32, 5, (⟨127, List.replicate 8 key⟩ : DepositBody).octets⟩ = true ∧
    (127 < (128 : Byte).toNat ∧ (127 : Byte).toNat ≤ 127 ∧ 8 < (List.replicate 9 key).length) ∧
    (∃ k, k < (List.replicate 8 key).length ∧ (short.ring.get ⟨(120 + k) % 128, Nat.mod_lt _ (by decide)⟩).owner = .device) ∧
    (∀ k : Fin 8, (State.reset.ring.get ⟨(127 + k.val) % 128, Nat.mod_lt _ (by decide)⟩).owner = .host) ∧
    (31 < (32 : Byte).toNat ∧ (31 : HeldSlot).val = (31 : Byte).toNat) ∧
    (State.reset.takes ⟨33, 5, 31 :: keyOctets key⟩ = true ∧ State.reset.takes ⟨34, 5, [31]⟩ = true) :=
  ⟨by decide, by decide, ⟨7, by decide +kernel⟩, by decide +kernel, by decide, by decide⟩

theorem test_ServedFrameDrivesSlotsAndContexts_met :
    (scrambling .active).connections.get 0 = some ⟨191, .scramble 95, 1⟩ ∧
    (scrambling .active).connections.get 191 = some ⟨0, .descramble 95, 1⟩ ∧
    (∀ d, ∀ p ∈ (scrambling .active).connections.get d, p.transform = .scramble 95 → d = 0) ∧
    (∀ d, ∀ p ∈ (scrambling .active).connections.get d, p.transform = .descramble 95 → d = 191) ∧
    (((scrambling .active).context 95).state = .active ∧ ((scrambling .held).context 95).state = .held ∧
      ((scrambling .keyWait).context 95).state = .keyWait ∧ ((scrambling .held).context 94).state = .free) ∧
    (scrambling .active).intercept.get 191 = false ∧
    (∀ mark : Transform, ((Table.replicate 192 none).set 191 (some (⟨0, mark, 1⟩ : Path))).get 191 =
      some ⟨0, mark, 1⟩) ∧
    ((inCall [] .held).call? 1 = some (call .held) ∧ (inCall [] .held).call? 2 = none) := by
  exact ⟨by decide +kernel, by decide +kernel, by decide +kernel, by decide +kernel, by decide +kernel,
    by decide +kernel, fun _ => Table.get_set_self _ _ _, by decide +kernel⟩

/-- The reports of a frame served with every input octet 3, as a function of the context: a side in HUNT has none. -/
theorem test_ServedFrameRaisesTheReports_met :
    linked.callsWired ∧ ((linked.context 95).state = .active ∧ (linked.context 94).state = .free) ∧
    ∀ (x : CtxId) (cfg : CtxConfig) (r : RxPart) (d : SlotNo) (p : Path),
      (linked.context x).state = .active ∨ (linked.context x).state = .held → (linked.context x).config = some cfg →
      (linked.context x).rx = some r → linked.connections.get d = some p → p.transform = .descramble x →
      none = (r.step cfg.interval cfg.mode cfg.loss (linked.context x).key0 3).2.map
        (RxEvent.item x (linked.context x).call) := by
  refine ⟨linked_callsWired, by decide +kernel, ?_⟩
  intro x cfg r d p hs hc hr _ _
  rw [linked_context] at *
  split_ifs at * with hx
  · cases hc; cases hr; rfl
  · simp [Context.free] at hc

theorem test_PulsesHoldoverAndRestore_met :
    ({ State.reset with timeBase := ⟨.highway, 1, 0, 0, 0, 0⟩ } : State).timeBase.source = .highway ∧
    (120000 ≤ 120000 ∧ 130000 ≤ 130000 ∧ 119999 < 120000) ∧ State.reset.timeBase.source = .holdover ∧
    (15 = if ∃ n, some 130000 = some n ∧ 120000 ≤ n ∧ n ≤ 130000 then 14 + 1 else 1) ∧
    (16 = if ∃ n, some 120000 = some n ∧ 120000 ≤ n ∧ n ≤ 130000 then 15 + 1 else 1) ∧
    (1 = if ∃ n, some 130001 = some n ∧ 120000 ≤ n ∧ n ≤ 130000 then 15 + 1 else 1) := by
  refine ⟨by decide, by decide, by decide, ?_, ?_, ?_⟩ <;> simp

theorem test_FramesTicksAndSeconds_met :
    ({ State.reset with timeBase := ⟨.holdover, 0, 0, 6, 999, 0⟩ } : State).timeBase.tickDivider < 7 ∧
    ({ State.reset with timeBase := ⟨.holdover, 0, 0, 7, 999, 0⟩ } : State).timeBase.tickDivider = 7 ∧
    seated.state = .admitted ∧ (barred.state = .locked ∧ barred.lock = some (.seconds 0)) ∧
    (resting.state = .unbound ∧ (asked (some 3)).state = .challenged) ∧ State.reset.entry? 9 = none ∧
    { barred with lock := some .untilUnlocked }.lock = some .untilUnlocked := by
  decide +kernel

/-! ## Mixing and scrambling -/

theorem test_TransmitSideEmits_met :
    (7 % 256 < 8 ∧ 8 ≤ 8 % 256) ∧ (14 % 8 ≠ 7 ∧ 15 % 8 = 7 ∧ (255 + 1) % Interval.b256.frames = 0) ∧
    (15 + 1) % Interval.b256.frames ≠ 0 ∧ ([1, 2, 3, 4, 5, 6, 7] : List Byte).length ≤ 15 % 8 ∧
    (⟨[1, 2, 3, 4, 5, 6, 7, 8], rfl⟩ : Table Byte 8).cells = [1, 2, 3, 4, 5, 6, 7] ++ [8] ∧ (65534 + 1 < 256 * Interval.b256.frames ∧ 65535 + 1 = 256 * Interval.b256.frames) := by
  decide

theorem test_AlignedReceiverRecoversVoice_met :
    8 ≤ 8 % Interval.b256.frames ∧ 16 % 8 = 0 ∧ 16 ≤ 16 % Interval.b256.frames := by
  decide

/-- A LOCKED side whose rebuild block the octet of frame 23 fills, and one with a ready block. -/
theorem test_ReceiveOutputAndHandOver_met :
    ((RxPart.start key).state = .hunt ∧ (RxPart.start key).ready = none) ∧
    ({ RxPart.start key with state := .locked, n := 23, ready := some (Table.replicate 8 3) }.ready =
        some (Table.replicate 8 3) ∧ 23 % 8 = 7 ∧ 23 % Interval.b256.frames ≠ 4 ∧ 16 ≤ 23 % Interval.b256.frames ∧
      (23 + 1) % Interval.b256.frames ≠ 0) ∧
    (24 % 8 ≠ 7 ∧ 255 % 8 = 7 ∧ (255 + 1) % Interval.b256.frames = 0) ∧
    (65534 + 1 < 256 * Interval.b256.frames ∧ 65535 + 1 = 256 * Interval.b256.frames ∧
      65535 % Interval.b256.frames ≠ 4) := by
  decide

theorem test_ReceiverFindsItsFirstLock_met :
    (RxPart.start key).state = .hunt ∧ (RxPart.start key).virgin = true ∧
    ((4 : Byte).toNat ≥ 4 ∧ (3 : Byte).toNat < 4) ∧ (250 : Byte).toNat = 255 - ((2 : Byte).toNat + (3 : Byte).toNat) % 256 ∧
    (Mode.shuffle = .mask ↔ (3 : Byte).toNat < 2) ∧ (3 : Byte).toNat % 2 = 1 ∧ (2 : Byte).toNat % 2 = 0 := by
  decide

/-- A receive side in LOCKED at the check frame of a beacon, with q 128 of epoch 0. -/
def Tests.judging : RxPart := { RxPart.start key with
  state := .locked, virgin := false, n := 128 * 256 + 4, window := [150, 105, 128, 0], stepped := true }

theorem test_LockedReceiverRelocksAndJudges_met :
    (judging.n / Interval.b256.frames = 128 ∧ judging.n < 256 * Interval.b256.frames ∧
      judging.n % Interval.b256.frames = 4 ∧ judging.window = [150, 105, 128, 0]) ∧
    ((150 : Byte) = 150 ∧ (105 : Byte) = 105 ∧ (0 : Byte).toNat < 4 ∧
      (127 : Byte).toNat = 255 - ((128 : Byte).toNat + (0 : Byte).toNat) % 256 ∧ (Mode.mask = .mask ↔ (0 : Byte).toNat < 2)) ∧
    (judging.epoch.toNat % 2 = 0 ∧ judging.epoch.toNat % 2 ≠ 1 ∧ judging.previous = none) ∧
    (judging.miss + 1 < 2 ∧ 1 ≤ judging.miss + 1) ∧
    { judging with previous := some key }.previous = some key ∧
    ({ RxPart.start key with virgin := false, parse := .seenInfo 2 3 }.state = .hunt ∧
      { RxPart.start key with virgin := false, parse := .seenInfo 2 3 }.parse = .seenInfo 2 3) ∧
    ({ judging with state := .failed }.state = .failed ∧
      { judging with state := .failed, n := 65535 }.n + 1 = 256 * Interval.b256.frames) := by
  decide

/-- A HUNT side that refuses its candidate, and one without; a following side at each kind of position. -/
theorem test_ReceiverCountersAndWindow_met :
    ({ RxPart.start key with parse := .seenInfo 2 3, n := 65535 }.state = .hunt ∧ (250 : Byte).toNat ≠ 251 ∧
      ∀ q info, (RxPart.start key).parse ≠ .seenInfo q info) ∧
    ((judging.state = .locked ∨ judging.state = .flywheel) ∧ { judging with n := 65535 }.n % Interval.b256.frames ≠ 4) ∧
    (256 % Interval.b256.frames = 0 ∧ 1 ≤ 257 % Interval.b256.frames ∧ 259 % Interval.b256.frames ≤ 3 ∧
      5 ≤ 261 % Interval.b256.frames) ∧
    (judging.n + 1 < 256 * Interval.b256.frames ∧ { judging with n := 65535 }.n + 1 = 256 * Interval.b256.frames) := by
  refine ⟨⟨rfl, by decide, by rintro q info ⟨⟩⟩, by decide, by decide, by decide⟩

/-! ## Figures the spec works out -/

/-- The worked case of R21, the response of "Example: the response to a challenge" and the key of epoch 1. -/
theorem test_mix_figures : mix 5 key = 45540 ∧ mix 40 key = 45184 ∧ mixPair 4 key = 737653220 ∧
    nextKey key = ⟨55624, 61544, 2653, 25461⟩ := by decide +kernel

/-- The wrapped call key of R29's example and the trunk key of R30's. -/
theorem test_wrapKey_figures : wrapKey 2 key ⟨1000, 2000, 3000, 4000⟩ = ⟨27088, 26146, 8271, 48708⟩ ∧
    trunkKey 2 key = ⟨27192, 25074, 11255, 45540⟩ := by decide +kernel

/-- The two worked shuffle words of R35. -/
theorem test_shuffle_figures : shuffleWord 5 key = 12644 ∧
    (List.range 8).map (fun j => (shufflePosition 45547 j).val) = [2, 1, 0, 7, 6, 5, 4, 3] ∧
    (List.range 8).map (fun j => (shufflePosition 12644 j).val) = [1, 2, 3, 4, 5, 6, 7, 0] := by decide +kernel

/-- Rows of "The first frames and an epoch wrap in MASK mode": frames 2, 4, 13, 40 and 65284 of epoch 0. -/
theorem test_transmit_figures :
    [2, 4, 5, 65284].map (fun n => (⟨0, key, n, [], none⟩ : TxPart).output .b256 .mask false 255 85) = [0, 255, 255, 0] ∧
    (⟨0, key, 13, [], none⟩ : TxPart).output .b256 .mask false 255 85 = 15 ∧
    (⟨0, key, 40, [], none⟩ : TxPart).output .b256 .mask false 255 11 = 139 ∧
    (⟨0, key, 65535, [], none⟩ : TxPart).step .b256 .mask false 9 = ⟨1, ⟨55624, 61544, 2653, 25461⟩, 0, [], none⟩ := by
  decide +kernel

/-- "Worked frames": OPEN CALL and its reply, the CHALLENGE block's characters, and the DENIED report. -/
theorem test_worked_frames :
    (Instr.openCall 7 12 2).frame?.map Frame.octets = some [90, 0, 5, 40, 7, 0, 12, 2, 0, 66] ∧
    (Sending.reply ⟨40, 7, .done, [23]⟩).octets = [90, 0, 4, 168, 7, 0, 23, 0, 202] ∧
    (OutBlock.challenge 1782079986).kindBody = (8, [106, 56, 97, 242]) ∧
    (Sending.report (.denied 70 .badAnswer (some 31)) false).octets =
      [90, 0, 9, 254, 0, 8, 0, 70, 0, 4, 0, 31, 1, 120] := by decide +kernel

/-- "Example: a class written out of range". -/
theorem test_setClass_figure :
    ∃ t, exec (.setClass 9 ⟨2, 2, 1, 40, 5, 0, 7200, 800⟩) State.reset = .next t ∧
      t.classes.get 2 = ⟨.scramble, .drop, 50, 5, 0, 3600, 800⟩ ∧ t.reply = some ⟨8, 9, .adjusted, []⟩ :=
  ⟨_, rfl, by decide +kernel⟩

/-- A cold class read back, and a class above 7 refused (R15). -/
theorem test_readClass : ∃ t, exec (.readClass 5 7) State.reset = .next t ∧
    t.reply = some ⟨9, 5, .done, [1, 0, 3, 232, 3, 1, 44, 2, 88, 1, 244]⟩ := ⟨_, rfl, by decide +kernel⟩

/-- A REGISTER, a matching ANSWER and an OFF-HOOK take an entry from UNBOUND to DIALLING. -/
theorem test_register : ∃ t, exec (.register 37 [1, 2, 3]) (desk (some resting) free [] none) = .next t ∧
    (t.entry? 7).map Entry.state = some .challenged ∧ (t.loop 1).queue.length = 1 := ⟨_, rfl, by decide +kernel⟩
theorem test_answer : ∃ t, exec (.answer 37 (longOf (mix 77 key) (mix 78 key))) (desk (some (asked (some 0))) free [] none) =
    .next t ∧ (t.entry? 7).map Entry.state = some .admitted ∧ (t.port 37).bound = some 7 := ⟨_, rfl, by decide +kernel⟩
theorem test_offHook : ∃ t, exec (.offHook 37) (desk (some seated) (taken .idle) [] none) = .next t ∧
    (t.port 37).dial = .dialling ∧ (t.port 37).interdigit = some 8000 := ⟨_, rfl, by decide +kernel⟩

/-- A call connected over a TRUNK context, held and cleared. -/
theorem test_connectCall : ∃ t, exec (.connectCall 5 (secured 1)) ready = .next t ∧
    (t.call? 1).map Call.state = some .connected ∧ (t.context 0).state = .active ∧
    (t.context 0).key0 = trunkKey 7 key := ⟨_, rfl, by decide +kernel⟩
theorem test_holdCall : ∃ t, exec (.holdCall 5 1) (inCall [] .connected) = .next t ∧
    (t.call? 1).map Call.state = some .held := ⟨_, rfl, by decide +kernel⟩
theorem test_clearCall : ∃ t, exec (.clearCall 5 1) (inCall [] .connected) = .next t ∧ t.call? 1 = none ∧
    (t.port 37).dial = .blocked := ⟨_, rfl, by decide +kernel⟩
theorem test_keyWaitExpiry : ∃ t, exec (.keyWaitExpiry 0) short = .next t ∧ (t.call? 1).map Call.state = some .connected ∧
    t.attention = [⟨.callConnected, 1, [1, 1]⟩] := ⟨_, rfl, by decide +kernel⟩

/-- Key requests, a poll, a missed pulse and the link. -/
theorem test_startDraw : ∃ t, exec (.startDraw 5) short = .next t ∧ (t.context 0).state = .active ∧ t.pointer = 0 ∧
    t.supplier = .running := ⟨_, rfl, by decide +kernel⟩
theorem test_loopTurnStart : ∃ t, exec (.loopTurnStart 1) (desk none free [] none) = .next t ∧
    (t.loop 1).turn = some ⟨0, none, [⟨1, true, false⟩], .sending⟩ := ⟨_, rfl, by decide +kernel⟩
theorem test_pulseMissing :
    ∃ t, exec (.pulseMissing (Table.replicate 192 0)) { State.reset with timeBase := ⟨.highway, 2, 0, 0, 0, 5⟩ } = .next t ∧
      t.timeBase = ⟨.holdover, 0, 0, 1, 0, 0⟩ ∧ t.attention = [⟨.clockLost, 0, []⟩] :=
  ⟨_, rfl, by decide +kernel⟩
theorem test_reset_line :
    State.reset.line.map Sending.octets = some [90, 0, 8, 254, 0, 34, 0, 0, 0, 0, 1, 1, 41] := by decide +kernel
theorem test_transmitterFree :
    ∃ t, exec .transmitterFree { State.reset with attention := [⟨.clockLost, 0, []⟩, ⟨.keysShort, 0, []⟩] } = .next t ∧
      t.line = some (.report ⟨.clockLost, 0, []⟩ false) ∧ t.attention = [⟨.keysShort, 0, []⟩] := ⟨_, rfl, by decide +kernel⟩
theorem test_raise_on_a_free_line :
    ({ State.reset with line := none, lost := true } : State).raise ⟨.clockLost, 0, []⟩ =
      { State.reset with line := some (.report ⟨.clockLost, 0, []⟩ true) } := by decide +kernel

end
end

/-!
PROOFS. The invariant of O10: the directory, the port table and the call table stay in agreement (State.wired).
-/

namespace Sys2Proof.Machine

/-! ## Kin: updates that leave every wire where it is

`s.kin t` says that each record of t stands where the same record of s stands: bound alike, in the same call, and challenged
nowhere else. Such an update keeps State.wired whatever else it writes, and updates of this kind compose. -/

/-- The entry `d` may take the place of `e` without a wire being moved. -/
structure Entry.kin (e d : Entry) : Prop where
  fields : e.fieldsWell → d.fieldsWell ∧ (e.state = .admitted → d.state = .admitted)
  bound : d.bound = e.bound
  live : d.liveCall = e.liveCall
  challenge : ∀ c, d.challenge = some c → ∃ k, e.challenge = some k ∧ k.port = c.port

/-- The port record `q` may take the place of `r` without a wire being moved. -/
structure PortRec.kin (r q : PortRec) : Prop where
  bound : q.bound = r.bound
  dialling : q.dial = .dialling → r.dial = .dialling
  inCall : r.dial.inCallStates → q.dial.inCallStates

/-- The call `d` may take the place of `c` without a wire being moved. -/
structure Call.kin (c d : Call) : Prop where
  id : d.id = c.id
  ext : d.ext = c.ext
  port : d.port = c.port

/-- Every entry, port and call of `t` may take the place of the same one of `s`. -/
structure State.kin (s t : State) : Prop where
  entry : ∀ ix, Option.Rel Entry.kin (s.entry? ix) (t.entry? ix)
  port : ∀ p, (s.port p).kin (t.port p)
  call : ∀ i, Option.Rel Call.kin (s.calls.get i) (t.calls.get i)

theorem Entry.kin.refl (e : Entry) : e.kin e := ⟨fun h => ⟨h, id⟩, rfl, rfl, fun c h => ⟨c, h, rfl⟩⟩

theorem Entry.kin.trans {e d f : Entry} (h : e.kin d) (k : d.kin f) : e.kin f where
  fields w := ⟨(k.fields (h.fields w).1).1, fun a => (k.fields (h.fields w).1).2 ((h.fields w).2 a)⟩
  bound := k.bound.trans h.bound
  live := k.live.trans h.live
  challenge c hc := by
    obtain ⟨m, hm, hp⟩ := k.challenge c hc
    obtain ⟨n, hn, hq⟩ := h.challenge m hm
    exact ⟨n, hn, hq.trans hp⟩

theorem PortRec.kin.refl (r : PortRec) : r.kin r := ⟨rfl, id, id⟩

theorem PortRec.kin.trans {r q u : PortRec} (h : r.kin q) (k : q.kin u) : r.kin u :=
  ⟨k.bound.trans h.bound, h.dialling ∘ k.dialling, k.inCall ∘ h.inCall⟩

theorem Call.kin.refl (c : Call) : c.kin c := ⟨rfl, rfl, rfl⟩

theorem Call.kin.trans {c d f : Call} (h : c.kin d) (k : d.kin f) : c.kin f :=
  ⟨k.id.trans h.id, k.ext.trans h.ext, k.port.trans h.port⟩

/-- Two optional records, both there or neither, the second made from the first by a function. -/
theorem rel_map {α : Type} {r : α → α → Prop} {f : α → α} (h : ∀ a, r a (f a)) (o : Option α) :
    Option.Rel r o (o.map f) := by
  cases o with
  | none => exact .none
  | some a => exact .some (h a)

theorem rel_refl {α : Type} {r : α → α → Prop} (h : ∀ a, r a a) (o : Option α) : Option.Rel r o o := by
  simpa using rel_map (f := id) h o

theorem rel_trans {α : Type} {r : α → α → Prop} (h : ∀ a b c, r a b → r b c → r a c) {o q u : Option α}
    (hq : Option.Rel r o q) (hu : Option.Rel r q u) : Option.Rel r o u := by
  cases hq with
  | none => exact hu
  | some hab =>
    cases hu with
    | some hbc => exact .some (h _ _ _ hab hbc)

/-- A record there after has one there before. -/
theorem rel_before {α : Type} {r : α → α → Prop} {o q : Option α} {b : α} (h : Option.Rel r o q) (hq : q = some b) :
    ∃ a, o = some a ∧ r a b := by
  cases h with
  | none => cases hq
  | some hab => cases hq; exact ⟨_, rfl, hab⟩

/-- A record there before has one there after. -/
theorem rel_after {α : Type} {r : α → α → Prop} {o q : Option α} {a : α} (h : Option.Rel r o q) (ho : o = some a) :
    ∃ b, q = some b ∧ r a b := by
  cases h with
  | none => cases ho
  | some hab => cases ho; exact ⟨_, rfl, hab⟩

namespace State.kin

/-- States that agree on the directory, the ports and the calls are kin. -/
theorem of_eq {s t : State} (hd : t.directory = s.directory) (hp : t.ports = s.ports) (hc : t.calls = s.calls) :
    s.kin t where
  entry ix := by
    simp only [State.entry?, hd]
    exact rel_refl Entry.kin.refl _
  port p := by
    simp only [State.port, hp]
    exact .refl _
  call i := by
    rw [hc]
    exact rel_refl Call.kin.refl _

theorem refl (s : State) : s.kin s := of_eq rfl rfl rfl

theorem trans {s t u : State} (h : s.kin t) (k : t.kin u) : s.kin u where
  entry ix := rel_trans (r := Entry.kin) (fun _ _ _ => .trans) (h.entry ix) (k.entry ix)
  port p := (h.port p).trans (k.port p)
  call i := rel_trans (r := Call.kin) (fun _ _ _ => .trans) (h.call i) (k.call i)

/-- Kin keeps the wiring. -/
theorem wired {s t : State} (k : s.kin t) (h : s.wired) : t.wired := by
  constructor
  case fields =>
    intro ix d hd
    obtain ⟨e, he, hk⟩ := rel_before (k.entry ix) hd
    exact (hk.fields (h.fields ix e he)).1
  case portOfEntry =>
    intro ix d p hd hb
    obtain ⟨e, he, hk⟩ := rel_before (k.entry ix) hd
    rw [(k.port p).bound]
    exact h.portOfEntry ix e p he (hk.bound ▸ hb)
  case entryOfPort =>
    intro p ix hb
    obtain ⟨e, he, hp⟩ := h.entryOfPort p ix ((k.port p).bound ▸ hb)
    obtain ⟨d, hd, hk⟩ := rel_after (k.entry ix) he
    exact ⟨d, hd, hk.bound.trans hp⟩
  case challengedPort =>
    intro ix d c hd hc
    obtain ⟨e, he, hk⟩ := rel_before (k.entry ix) hd
    obtain ⟨m, hm, hp⟩ := hk.challenge c hc
    rw [(k.port _).bound, ← hp]
    exact h.challengedPort ix e m he hm
  case oneChallenge =>
    intro ix jx d f c m hd hf hc hm hp
    obtain ⟨e, he, hk⟩ := rel_before (k.entry ix) hd
    obtain ⟨g, hg, hl⟩ := rel_before (k.entry jx) hf
    obtain ⟨c', hc', hcp⟩ := hk.challenge c hc
    obtain ⟨m', hm', hmp⟩ := hl.challenge m hm
    exact h.oneChallenge ix jx e g c' m' he hg hc' hm' (hcp.trans (hp.trans hmp.symm))
  case dialling =>
    intro p hp
    obtain ⟨ix, e, hb, he, ha⟩ := h.dialling p ((k.port p).dialling hp)
    obtain ⟨d, hd, hk⟩ := rel_after (k.entry ix) he
    exact ⟨ix, d, (k.port p).bound.trans hb, hd, (hk.fields (h.fields ix e he)).2 ha⟩
  case liveDial =>
    intro ix d p hd hl hb
    obtain ⟨e, he, hk⟩ := rel_before (k.entry ix) hd
    exact (k.port p).inCall (h.liveDial ix e p he (hk.live ▸ hl) (hk.bound ▸ hb))
  case idNonzero =>
    intro i d hd
    obtain ⟨c, hc, hk⟩ := rel_before (k.call i) hd
    exact hk.id ▸ h.idNonzero i c hc
  case idDistinct =>
    intro i j d f hd hf hid
    obtain ⟨c, hc, hk⟩ := rel_before (k.call i) hd
    obtain ⟨g, hg, hl⟩ := rel_before (k.call j) hf
    exact h.idDistinct i j c g hc hg (hk.id ▸ hl.id ▸ hid)
  case callEntry =>
    intro i d hd
    obtain ⟨c, hc, hk⟩ := rel_before (k.call i) hd
    obtain ⟨e, he, hl, hb⟩ := h.callEntry i c hc
    obtain ⟨f, hf, hm⟩ := rel_after (k.entry c.ext) he
    exact ⟨f, hk.ext ▸ hf, by rw [hm.live, hl, hk.id], by rw [hm.bound, hb, hk.port]⟩

/-! ### One record written -/

theorem putEntry {s : State} {ix : ExtIx} {e d : Entry} (he : s.entry? ix = some e) (k : e.kin d) :
    s.kin (s.putEntry ix (some d)) where
  entry jx := by
    rw [entry_putEntry]
    split
    case isTrue hx => subst hx; rw [he]; exact .some k
    case isFalse => exact rel_refl Entry.kin.refl _
  port _ := .refl _
  call _ := rel_refl Call.kin.refl _

theorem modEntry {f : Entry → Entry} (h : ∀ e : Entry, e.kin (f e)) (ix : ExtIx) (s : State) : s.kin (s.modEntry ix f) where
  entry jx := by
    rw [entry_modEntry]
    split
    case isTrue hx => subst hx; exact rel_map h _
    case isFalse => exact rel_refl Entry.kin.refl _
  port _ := .refl _
  call _ := rel_refl Call.kin.refl _

theorem putPort {s : State} {p : Port} {r : PortRec} (k : (s.port p).kin r) : s.kin (s.putPort p r) where
  entry _ := rel_refl Entry.kin.refl _
  port q := by
    rw [port_putPort]
    split
    case isTrue hq => subst hq; exact k
    case isFalse => exact .refl _
  call _ := rel_refl Call.kin.refl _

theorem modCall {f : Call → Call} (h : ∀ c : Call, c.kin (f c)) (id : CallId) (s : State) : s.kin (s.modCall id f) := by
  unfold State.modCall
  split
  case h_2 => exact refl s
  case h_1 slot _ =>
    refine ⟨fun _ => rel_refl Entry.kin.refl _, fun _ => .refl _, fun i => ?_⟩
    rw [putCall_calls, Table.get_set]
    split
    case isTrue hi => subst hi; exact rel_map h _
    case isFalse => exact rel_refl Call.kin.refl _

theorem putLoop (l : LoopNo) (r : LoopRec) (s : State) : s.kin (s.putLoop l r) := of_eq rfl rfl rfl

theorem putContext (c : CtxId) (x : Context) (s : State) : s.kin (s.putContext c x) := of_eq rfl rfl rfl

theorem raise (i : Item) (s : State) : s.kin (s.raise i) := of_eq rfl rfl rfl

theorem spendNonce (s : State) : s.kin s.spendNonce := of_eq rfl rfl rfl

/-- A fold of operations that each leave the wires in place leaves them in place. -/
theorem foldl {α : Type} {f : State → α → State} (h : ∀ (s : State) a, s.kin (f s a)) (as : List α) (s : State) :
    s.kin (as.foldl f s) := by
  induction as generalizing s with
  | nil => exact refl s
  | cons a as ih => exact (h s a).trans (ih _)

end State.kin

/-- A challenge abandoned: nothing but the challenge and the state it gave the entry goes (R52, R67, R78). -/
theorem Entry.kin.revert (e : Entry) : e.kin e.revert where
  fields w := by
    obtain ⟨hb, hc, hl, hv, ho⟩ := w
    refine ⟨⟨?bound, ?challenge, ?lock, ?live, ho⟩, fun ha => by simp [Entry.revert, ha]⟩
    case bound => cases hs : e.state <;> simpa [Entry.revert, hs] using hb
    case challenge => cases hs : e.state <;> simp [Entry.revert, hs]
    case lock => cases hs : e.state <;> simpa [Entry.revert, hs] using hl
    case live => exact fun h => by simp [Entry.revert, hv h]
  bound := rfl
  live := rfl
  challenge c hc := by cases hc

/-! ## Offering, withdrawing, denying and abandoning (R58 to R60, R63, R67) -/

namespace State.kin

theorem loseChallenge (p : Port) (n : Long) (s : State) : s.kin (s.loseChallenge p n) := by
  unfold State.loseChallenge
  split
  case h_2 => exact refl s
  case h_1 =>
    refine modEntry (fun e => ?_) _ s
    split
    case h_2 => exact .refl e
    case h_1 =>
      split
      case isTrue => exact .revert e
      case isFalse => exact .refl e

theorem loseBlock (p : Port) (q : Option QueueRec) (s : State) : s.kin (s.loseBlock p q) := by
  unfold State.loseBlock
  split
  case h_1 => exact loseChallenge _ _ s
  case h_2 => exact refl s

theorem offer (p : Port) (b : OutBlock) (s : State) : s.kin (s.offer p b) := by
  unfold State.offer
  split
  case h_1 => exact refl s
  case h_2 => exact (putLoop _ _ s).trans (loseBlock _ _ _)

theorem withdraw (p : Port) (n : Long) (s : State) : s.kin (s.withdraw p n) := putLoop _ _ s

theorem deny (p : Port) (r : DenyReason) (ix : Option ExtIx) (s : State) : s.kin (s.deny p r ix) := by
  unfold State.deny
  split
  case h_1 => exact refl s
  case h_2 => exact (offer _ _ s).trans (raise _ _)

theorem abandon (ix : ExtIx) (s : State) : s.kin (s.abandon ix) := by
  unfold State.abandon
  split
  case h_2 => exact refl s
  case h_1 e he =>
    split
    case h_2 => exact refl s
    case h_1 => exact (withdraw _ _ s).trans (putEntry he (.revert e))

end State.kin

end Sys2Proof.Machine

namespace Sys2Proof.Machine

/-! ## What the fields of an entry say of each other (R2, R3, R4) -/

namespace Entry.fieldsWell

variable {e : Entry}

/-- An entry with a live call is ADMITTED, so that it is bound, and has neither challenge nor lock. -/
theorem of_live (h : e.fieldsWell) (hl : e.liveCall.isSome) :
    e.state = .admitted ∧ e.bound.isSome ∧ e.challenge = none ∧ e.lock = none := by
  have ha := h.live hl
  refine ⟨ha, h.bound.mpr (.inl ha), ?_, ?_⟩
  · simpa [ha] using h.challenge
  · simpa [ha] using h.lock

/-- An entry without a live call is not overdue. -/
theorem not_overdue (h : e.fieldsWell) (hl : e.liveCall = none) : e.overdue = none := by
  simpa [hl] using h.overdue

/-- A challenged entry is CHALLENGED, or MOVING; it has no live call. -/
theorem of_challenge (h : e.fieldsWell) {c : Challenge} (hc : e.challenge = some c) :
    (e.state = .challenged ∧ e.bound = none ∨ e.state = .moving ∧ e.bound.isSome) ∧ e.liveCall = none ∧
      e.lock = none ∧ e.overdue = none := by
  obtain ⟨hb, hk, hl, hv, ho⟩ := h
  have hs := hk.mp (by simp [hc])
  have hn : e.liveCall = none := by
    cases hx : e.liveCall with
    | none => rfl
    | some _ => simp [hv (by simp [hx])] at hs
  refine ⟨?_, hn, ?_, by simpa [hn] using ho⟩
  · rcases hs with hs | hs
    · exact .inl ⟨hs, by simpa [hs] using hb⟩
    · exact .inr ⟨hs, hb.mpr (.inr hs)⟩
  · rcases hs with hs | hs <;> simpa [hs] using hl

/-- An entry without port and challenge, neither ADMITTED nor in any state that needs one of them, has its fields well. -/
theorem unbound {d : Entry} (hs : d.state = .unbound) (hb : d.bound = none) (hc : d.challenge = none)
    (hk : d.lock = none) (hl : d.liveCall = none) (ho : d.overdue = none) : d.fieldsWell := by
  constructor <;> simp [hs, hb, hc, hk, hl, ho]

end Entry.fieldsWell

/-! ## A port with no challenge pending at it -/

/-- No challenge is pending at the port. -/
def State.unchallenged (s : State) (p : Port) : Prop :=
  ∀ ix e c, s.entry? ix = some e → e.challenge = some c → c.port ≠ p

/-- A challenge found at a port is one of an entry of the directory. -/
theorem State.challengeAt_found {s : State} {p : Port} {ix : ExtIx} (h : s.challengeAt p = some ix) :
    ∃ e c, s.entry? ix = some e ∧ e.challenge = some c ∧ c.port = p := by
  have hp := Table.find?_passes h
  cases he : s.directory.get ix with
  | none => simp [he] at hp
  | some e =>
    cases hc : e.challenge with
    | none => simp [he, hc] at hp
    | some c => exact ⟨e, c, he, hc, by simpa [he, hc] using hp⟩

/-- No challenge found at a port: none is pending there. -/
theorem State.challengeAt_none {s : State} {p : Port} (h : s.challengeAt p = none) : s.unchallenged p := by
  intro ix e c he hc
  have hp := Table.find?_none h ix
  have hd : s.directory.get ix = some e := he
  simpa [hd, hc] using hp

/-- No challenge pending at a port: none is found there. -/
theorem State.unchallenged.challengeAt {s : State} {p : Port} (h : s.unchallenged p) : s.challengeAt p = none := by
  cases hx : s.challengeAt p with
  | none => rfl
  | some ix =>
    obtain ⟨e, c, he, hc, hp⟩ := State.challengeAt_found hx
    exact absurd hp (h ix e c he hc)

/-- A bound port has no challenge pending. -/
theorem State.wired.unchallenged {s : State} (h : s.wired) {p : Port} {ix : ExtIx} (hb : (s.port p).bound = some ix) :
    s.unchallenged p := by
  rintro jx e c he hc rfl
  simp [h.challengedPort jx e c he hc] at hb

/-- The only challenge at a port gone, none is pending there. -/
theorem State.wired.unchallenged_putEntry {s : State} (h : s.wired) {ix : ExtIx} {e d : Entry} {c : Challenge}
    (he : s.entry? ix = some e) (hc : e.challenge = some c) (hd : d.challenge = none) :
    (s.putEntry ix (some d)).unchallenged c.port := by
  intro jx f k hf hk hp
  rw [State.entry_putEntry] at hf
  split at hf
  case isTrue => cases hf; simp [hd] at hk
  case isFalse hx => exact hx (h.oneChallenge jx ix f e k c hf he hk hc hp)

@[simp] theorem State.loseBlock_calls (p : Port) (q : Option QueueRec) (s : State) : (s.loseBlock p q).calls = s.calls := by
  unfold State.loseBlock State.loseChallenge
  split
  · split <;> rfl
  · rfl

@[simp] theorem State.offer_calls (p : Port) (b : OutBlock) (s : State) : (s.offer p b).calls = s.calls := by
  unfold State.offer
  split <;> simp

/-- With no challenge pending at the port, a block taken out of its queue abandons nothing (R59). -/
theorem State.unchallenged.loseBlock {s : State} {p : Port} (h : s.unchallenged p) (q : Option QueueRec) :
    s.loseBlock p q = s := by
  unfold State.loseBlock State.loseChallenge
  split
  case h_1 => rw [h.challengeAt]
  case h_2 => rfl

/-- A block offered for a port with no challenge pending leaves the directory as it is (R59). -/
theorem State.unchallenged.offer_directory {s : State} {p : Port} (h : s.unchallenged p) (b : OutBlock) :
    (s.offer p b).directory = s.directory := by
  unfold State.offer
  split
  case h_1 => rfl
  case h_2 => exact (congrArg State.directory (State.unchallenged.loseBlock (s := s.putLoop _ _) h _)).trans rfl

theorem State.unchallenged.entry_offer {s : State} {p : Port} (h : s.unchallenged p) (b : OutBlock) (ix : ExtIx) :
    (s.offer p b).entry? ix = s.entry? ix := by
  simp only [State.entry?, h.offer_directory b]

/-! ## An entry leaves its port

`s.unseats ix t`: t is s but for the entry at `ix`, which is bound nowhere or gone, and the port it was bound at. -/

/-- The entry at an index has left the port it was bound at, if any. -/
structure State.unseats (ix : ExtIx) (s t : State) : Prop where
  others : ∀ jx, jx ≠ ix → t.entry? jx = s.entry? jx
  own : ∀ d, t.entry? ix = some d → d.fieldsWell ∧ d.bound = none
  challenge : ∀ d c, t.entry? ix = some d → d.challenge = some c →
    ∃ e k, s.entry? ix = some e ∧ e.challenge = some k ∧ k.port = c.port
  seat : ∀ p, (s.port p).bound = some ix → (t.port p).bound = none ∧ (t.port p).dial ≠ .dialling
  ports : ∀ p, (s.port p).bound ≠ some ix → t.port p = s.port p
  calls : t.calls = s.calls

/-- A challenge after was pending at the same port, for the same entry, before. -/
theorem State.unseats.challenged {ix : ExtIx} {s t : State} (u : s.unseats ix t) {jx : ExtIx} {d : Entry} {c : Challenge}
    (hd : t.entry? jx = some d) (hc : d.challenge = some c) :
    ∃ e k, s.entry? jx = some e ∧ e.challenge = some k ∧ k.port = c.port := by
  by_cases hx : jx = ix
  · subst hx
    exact u.challenge d c hd hc
  · exact ⟨d, c, (u.others jx hx) ▸ hd, hc, rfl⟩

/-- A port unbound before is unbound after. -/
theorem State.unseats.bound_none {ix : ExtIx} {s t : State} (u : s.unseats ix t) {p : Port}
    (hp : (s.port p).bound = none) : (t.port p).bound = none := by
  rw [u.ports p (by simp [hp]), hp]

/-- The entry of a bound port, after, is another one, bound there before. -/
theorem State.unseats.bound_some {ix : ExtIx} {s t : State} (u : s.unseats ix t) {p : Port} {jx : ExtIx}
    (hp : (t.port p).bound = some jx) : t.port p = s.port p ∧ jx ≠ ix := by
  by_cases hx : (s.port p).bound = some ix
  · simp [(u.seat p hx).1] at hp
  · have hq := u.ports p hx
    exact ⟨hq, fun h => hx (hq ▸ h ▸ hp)⟩

/-- An entry without a live call may leave its port. -/
theorem State.unseats.wired {ix : ExtIx} {s t : State} (u : s.unseats ix t) (h : s.wired)
    (idle : ∀ e, s.entry? ix = some e → e.liveCall = none) : t.wired := by
  constructor
  case fields =>
    intro jx d hd
    by_cases hx : jx = ix
    · subst hx; exact (u.own d hd).1
    · exact h.fields jx d (u.others jx hx ▸ hd)
  case portOfEntry =>
    intro jx d p hd hb
    by_cases hx : jx = ix
    · subst hx; simp [(u.own d hd).2] at hb
    · have hp := h.portOfEntry jx d p (u.others jx hx ▸ hd) hb
      rw [u.ports p (by simp [hp, hx]), hp]
  case entryOfPort =>
    intro p jx hb
    obtain ⟨hp, hx⟩ := u.bound_some hb
    rw [u.others jx hx]
    exact h.entryOfPort p jx (hp ▸ hb)
  case challengedPort =>
    intro jx d c hd hc
    obtain ⟨e, k, he, hk, hp⟩ := u.challenged hd hc
    exact u.bound_none (hp ▸ h.challengedPort jx e k he hk)
  case oneChallenge =>
    intro jx kx d f c m hd hf hc hm hp
    obtain ⟨e, c', he, hc', hcp⟩ := u.challenged hd hc
    obtain ⟨g, m', hg, hm', hmp⟩ := u.challenged hf hm
    exact h.oneChallenge jx kx e g c' m' he hg hc' hm' (hcp.trans (hp.trans hmp.symm))
  case dialling =>
    intro p hp
    by_cases hb : (s.port p).bound = some ix
    · exact absurd hp (u.seat p hb).2
    · rw [u.ports p hb] at hp ⊢
      obtain ⟨jx, e, hj, he, ha⟩ := h.dialling p hp
      exact ⟨jx, e, hj, (u.others jx (fun hx => hb (hx ▸ hj))).trans he, ha⟩
  case liveDial =>
    intro jx d p hd hl hb
    by_cases hx : jx = ix
    · subst hx; simp [(u.own d hd).2] at hb
    · have hs := u.others jx hx ▸ hd
      have hp := h.portOfEntry jx d p hs hb
      rw [u.ports p (by simp [hp, hx])]
      exact h.liveDial jx d p hs hl hb
  case idNonzero => rw [u.calls]; exact h.idNonzero
  case idDistinct => rw [u.calls]; exact h.idDistinct
  case callEntry =>
    intro i c hc
    obtain ⟨e, he, hl, hb⟩ := h.callEntry i c (u.calls ▸ hc)
    refine ⟨e, (u.others _ fun hx => ?_).trans he, hl, hb⟩
    simp [idle e (hx ▸ he)] at hl

/-! ## Releasing a binding (R64), lapses (R69, R81), locks (R66) and counted failures (R65) -/

/-- An entry whose binding is released (R64). -/
def Entry.released (e : Entry) : Entry := { e with bound := none, refresh := none, refreshDue := false, overdue := none }

theorem State.releaseBinding_bound {s : State} {ix : ExtIx} {e : Entry} {q : Port} (he : s.entry? ix = some e)
    (hb : e.bound = some q) :
    s.releaseBinding ix = (s.putEntry ix (some e.released)).putPort q (s.port q).unbind := by
  simp [State.releaseBinding, he, hb, Entry.released]

@[simp] theorem PortRec.unbind_bound (r : PortRec) : r.unbind.bound = none := by
  unfold PortRec.unbind
  split <;> rfl

theorem PortRec.unbind_dial (r : PortRec) : r.unbind.dial ≠ .dialling := by
  unfold PortRec.unbind
  split
  case isTrue => exact nofun
  case isFalse h => exact h

/-- The port of a bound entry is the only one it is bound at. -/
theorem State.wired.bound_iff {s : State} (h : s.wired) {ix : ExtIx} {e : Entry} {q : Port} (he : s.entry? ix = some e)
    (hb : e.bound = some q) (p : Port) : (s.port p).bound = some ix ↔ p = q := by
  constructor
  · intro hp
    obtain ⟨d, hd, hdp⟩ := h.entryOfPort p ix hp
    obtain rfl := Option.some.inj (hd.symm.trans he)
    exact Option.some.inj (hdp.symm.trans hb)
  · rintro rfl
    exact h.portOfEntry ix e p he hb

/-- An entry bound nowhere is bound to no port. -/
theorem State.wired.bound_ne {s : State} (h : s.wired) {ix : ExtIx} {e : Entry} (he : s.entry? ix = some e)
    (hb : e.bound = none) (p : Port) : (s.port p).bound ≠ some ix := by
  intro hp
  obtain ⟨d, hd, hdp⟩ := h.entryOfPort p ix hp
  obtain rfl := Option.some.inj (hd.symm.trans he)
  simp [hb] at hdp

end Sys2Proof.Machine

namespace Sys2Proof.Machine

/-! ## One directory position rewritten

`s.rewrites ix o t`: of the directory, the ports and the calls, t differs from s in the position `ix` alone, which holds `o`.
So stands a state in the middle of a procedure that has changed an entry and sent its blocks. -/

/-- The state with one directory position rewritten, whatever else of the loops and the link has changed. -/
structure State.rewrites (ix : ExtIx) (o : Option Entry) (s t : State) : Prop where
  entry : ∀ jx, t.entry? jx = if jx = ix then o else s.entry? jx
  ports : t.ports = s.ports
  calls : t.calls = s.calls

namespace State.rewrites

variable {s t : State} {ix : ExtIx} {o : Option Entry}

theorem port (r : s.rewrites ix o t) (p : Port) : t.port p = s.port p := by simp only [State.port, r.ports]

theorem own (r : s.rewrites ix o t) : t.entry? ix = o := by simp [r.entry]

theorem putEntry (s : State) (ix : ExtIx) (o : Option Entry) : s.rewrites ix o (s.putEntry ix o) :=
  ⟨fun _ => entry_putEntry _ _ _ _, rfl, rfl⟩

/-- A second rewriting of the position takes the place of the first. -/
theorem trans {u : State} {q : Option Entry} (r : s.rewrites ix o t) (k : t.rewrites ix q u) : s.rewrites ix q u :=
  ⟨fun jx => by rw [k.entry, r.entry]; split_ifs <;> rfl, k.ports.trans r.ports, k.calls.trans r.calls⟩

theorem raise (r : s.rewrites ix o t) (i : Item) : s.rewrites ix o (t.raise i) := ⟨r.entry, r.ports, r.calls⟩

/-- The entry of a position rewritten to hold no challenge leaves the port of the challenge it had unchallenged. -/
theorem unchallenged {e d : Entry} {c : Challenge} (r : s.rewrites ix (some d) t) (h : s.wired)
    (he : s.entry? ix = some e) (hc : e.challenge = some c) (hd : d.challenge = none) : t.unchallenged c.port := by
  intro jx f k hf hk
  exact h.unchallenged_putEntry he hc hd jx f k (by rw [entry_putEntry, ← r.entry, hf]) hk

theorem offer {p : Port} (r : s.rewrites ix o t) (hp : t.unchallenged p) (b : OutBlock) :
    s.rewrites ix o (t.offer p b) :=
  ⟨fun jx => (hp.entry_offer b jx).trans (r.entry jx), by simp [r.ports], by simp [r.calls]⟩

theorem deny {p : Port} (r : s.rewrites ix o t) (hp : t.unchallenged p) (x : DenyReason) (y : Option ExtIx) :
    s.rewrites ix o (t.deny p x y) := by
  unfold State.deny
  split
  case h_1 => exact r
  case h_2 => exact (r.offer hp _).raise _

end State.rewrites

/-- A port bound before a position was rewritten to hold no challenge elsewhere than before is unchallenged after. -/
theorem State.wired.unchallenged_rewrites {s t : State} (h : s.wired) {ix : ExtIx} {e : Entry} {o : Option Entry}
    (r : s.rewrites ix o t) (he : s.entry? ix = some e)
    (challenge : ∀ d c, o = some d → d.challenge = some c → e.challenge = some c) {q : Port}
    (hq : (s.port q).bound ≠ none) : t.unchallenged q := by
  obtain ⟨x, hx⟩ := Option.ne_none_iff_exists'.mp hq
  intro jx f k hf hk
  rw [r.entry] at hf
  split at hf
  case isTrue => exact h.unchallenged hx ix e k he (challenge f k hf hk)
  case isFalse => exact h.unchallenged hx jx f k hf hk

/-! ### The position rewritten, and the port its entry was bound at let go -/

/-- The state with one directory position rewritten and one port let go. -/
structure State.vacates (ix : ExtIx) (q : Port) (o : Option Entry) (s t : State) : Prop where
  entry : ∀ jx, t.entry? jx = if jx = ix then o else s.entry? jx
  seat : (t.port q).bound = none ∧ (t.port q).dial ≠ .dialling
  port : ∀ p, p ≠ q → t.port p = s.port p
  calls : t.calls = s.calls

namespace State.vacates

variable {s t : State} {ix : ExtIx} {q : Port} {o : Option Entry}

theorem own (v : s.vacates ix q o t) : t.entry? ix = o := by simp [v.entry]

theorem trans {u : State} {o' : Option Entry} (v : s.vacates ix q o t) (k : t.rewrites ix o' u) : s.vacates ix q o' u where
  entry jx := by rw [k.entry, v.entry]; split_ifs <;> rfl
  seat := by rw [k.port]; exact v.seat
  port p hp := (k.port p).trans (v.port p hp)
  calls := k.calls.trans v.calls

end State.vacates

/-- A rewritten position whose bound entry is released, and a block offered for its port: only the entry and its port
change (R64). -/
theorem State.rewrites.release {s t : State} {ix : ExtIx} {e d : Entry} {q : Port} (r : s.rewrites ix (some d) t)
    (h : s.wired) (he : s.entry? ix = some e) (hb : e.bound = some q) (hd : d.bound = some q)
    (challenge : ∀ c, d.challenge = some c → e.challenge = some c) (b : OutBlock) :
    s.vacates ix q (some d.released) ((t.releaseBinding ix).offer q b) := by
  have hq : (s.port q).bound ≠ none := by simp [h.portOfEntry ix e q he hb]
  have r' := r.trans (.putEntry t ix (some d.released))
  have hu : ((t.putEntry ix (some d.released)).putPort q (t.port q).unbind).unchallenged q :=
    h.unchallenged_rewrites r' he (by rintro f c ⟨⟩ hc; exact challenge c hc) hq
  rw [State.releaseBinding_bound r.own hd]
  refine ⟨fun jx => ?_, ?_, fun p hp => ?_, by simp [r.calls]⟩
  · rw [hu.entry_offer, State.entry_putPort, r'.entry]
  · simp [(t.port q).unbind_dial]
  · simp [hp, r.port]

/-- An unbound entry's record replaced by one bound nowhere, or by none. -/
theorem State.rewrites.unseats {s t : State} {ix : ExtIx} {e : Entry} {o : Option Entry} (r : s.rewrites ix o t)
    (h : s.wired) (he : s.entry? ix = some e) (hb : e.bound = none)
    (own : ∀ d, o = some d → d.fieldsWell ∧ d.bound = none)
    (challenge : ∀ d c, o = some d → d.challenge = some c → e.challenge = some c) : s.unseats ix t where
  others jx hx := by rw [r.entry, if_neg hx]
  own d hd := own d (r.own ▸ hd)
  challenge d c hd hc := ⟨e, c, he, challenge d c (r.own ▸ hd) hc, rfl⟩
  seat p hp := absurd hp (h.bound_ne he hb p)
  ports p _ := r.port p
  calls := r.calls

/-- A bound entry's record replaced by one bound nowhere, or by none, and its port let go. -/
theorem State.vacates.unseats {s t : State} {ix : ExtIx} {e : Entry} {q : Port} {o : Option Entry}
    (v : s.vacates ix q o t) (h : s.wired) (he : s.entry? ix = some e) (hb : e.bound = some q)
    (own : ∀ d, o = some d → d.fieldsWell ∧ d.bound = none)
    (challenge : ∀ d c, o = some d → d.challenge = some c → e.challenge = some c) : s.unseats ix t where
  others jx hx := by rw [v.entry, if_neg hx]
  own d hd := own d (v.own ▸ hd)
  challenge d c hd hc := ⟨e, c, he, challenge d c (v.own ▸ hd) hc, rfl⟩
  seat p hp := by
    rw [(h.bound_iff he hb p).mp hp]
    exact v.seat
  ports p hp := v.port p fun hx => hp ((h.bound_iff he hb p).mpr hx)
  calls := v.calls

/-! ## Lapses (R69, R81) -/

/-- An entry whose binding lapses, well again once it is in its new state (R69, R81). -/
theorem Entry.released_lapsed_fieldsWell {e : Entry} (h : e.fieldsWell) (hl : e.liveCall = none) (hb : e.bound.isSome) :
    ({ e.released with state := e.state.lapsed } : Entry).fieldsWell := by
  have hs := h.bound.mp hb
  obtain ⟨_, hc, hk, _, _⟩ := h
  rcases hs with hs | hs <;>
    constructor <;> simp_all [Entry.released, AdmissionState.lapsed]

/-- A binding released and the entry's state lapsed, as R69 and R81 do, keeps the wiring. -/
theorem State.wired.release_lapsed {s : State} (h : s.wired) {ix : ExtIx} {e : Entry} {q : Port}
    (he : s.entry? ix = some e) (hl : e.liveCall = none) (hb : e.bound = some q) :
    s.unseats ix ((s.releaseBinding ix).modEntry ix (fun e => { e with state := e.state.lapsed })) := by
  rw [State.releaseBinding_bound he hb]
  have v : s.vacates ix q (some { e.released with state := e.state.lapsed })
      (((s.putEntry ix (some e.released)).putPort q (s.port q).unbind).modEntry ix
        (fun e => { e with state := e.state.lapsed })) := by
    refine ⟨fun jx => ?_, ?_, fun p hp => ?_, rfl⟩
    · simp only [State.entry_modEntry, State.entry_putPort, State.entry_putEntry, if_true, Option.map_some]
      split_ifs <;> rfl
    · simp [State.modEntry, (s.port q).unbind_dial]
    · simp [State.modEntry, hp]
  refine v.unseats h he hb ?_ ?_
  · rintro d ⟨⟩
    exact ⟨Entry.released_lapsed_fieldsWell (h.fields ix e he) hl (by simp [hb]), rfl⟩
  · rintro d c ⟨⟩ hc
    exact hc

theorem State.wired.lapse {s : State} (h : s.wired) (ix : ExtIx) (c : LapseCause) : (s.lapse ix c).wired := by
  unfold State.lapse
  split
  case h_1 => exact h
  case h_2 e he =>
    split
    case isTrue hl =>
      have k : e.kin { e with overdue := some c } :=
        ⟨fun w => ⟨⟨w.bound, w.challenge, w.lock, w.live, fun _ => hl⟩, id⟩, rfl, rfl, fun c hc => ⟨c, hc, rfl⟩⟩
      exact (State.kin.putEntry he k).wired h
    case isFalse hl =>
      have hn : e.liveCall = none := by simpa using hl
      split
      case h_1 => exact h
      case h_2 q hb =>
        have hu := (h.release_lapsed he hn hb).wired h (fun d hd => by
          obtain rfl := Option.some.inj (hd.symm.trans he)
          exact hn)
        exact ((State.kin.offer _ _ _).trans (State.kin.raise _ _)).wired hu

/-! ## Locks and counted failures (R65, R66) -/

/-- Step 1 of the locking procedure leaves the entry without its challenge. -/
theorem State.wired.lockChallenge_rewrites {s : State} (h : s.wired) {ix : ExtIx} {e : Entry} (he : s.entry? ix = some e) :
    s.rewrites ix (some { e with challenge := none }) (s.lockChallenge ix) := by
  unfold State.lockChallenge
  simp only [he]
  cases hc : e.challenge with
  | none =>
    have hx : ({ e with challenge := none } : Entry) = e := by rw [← hc]
    refine ⟨fun jx => ?_, rfl, rfl⟩
    rw [hx]
    split_ifs with hj
    · rw [hj, he]
    · rfl
  | some c =>
    have r : s.rewrites ix (some { e with challenge := none })
        ((s.withdraw c.port c.nonce).putEntry ix (some { e with challenge := none })) :=
      ⟨fun _ => State.entry_putEntry _ _ _ _, rfl, rfl⟩
    exact r.deny (r.unchallenged h he hc rfl) _ _

/-- An entry LOCKED for a lock period (R66). -/
def Entry.lockedFor (period : Nat) (e : Entry) : Entry := { e with state := .locked, lock := some (lockOf period) }

/-- The record of a LOCKED entry, bound nowhere and with no challenge, is well. -/
theorem Entry.fieldsWell.locked {d : Entry} (hs : d.state = .locked) (hb : d.bound = none) (hc : d.challenge = none)
    (hk : d.lock.isSome) (hl : d.liveCall = none) (ho : d.overdue = none) : d.fieldsWell := by
  constructor <;> simp [hs, hb, hc, hk, hl, ho]

/-- Steps 3 and 4 of the locking procedure on an entry that has lost its challenge and its binding. -/
theorem State.lockEntry_rewrites {s : State} {ix : ExtIx} {e : Entry} (he : s.entry? ix = some e) :
    s.rewrites ix (some (e.lockedFor (s.classOf e).lockPeriod)) (s.lockEntry ix) := by
  unfold State.lockEntry
  simp only [he]
  exact (State.rewrites.putEntry _ _ _).raise _

/-- The locking procedure leaves the entry LOCKED and bound nowhere. -/
theorem State.wired.lockOut {s : State} (h : s.wired) {ix : ExtIx} {e : Entry} (he : s.entry? ix = some e)
    (hl : e.liveCall = none) : s.unseats ix (s.lockOut ix) := by
  have r := h.lockChallenge_rewrites he
  have ho : e.overdue = none := (h.fields ix e he).not_overdue hl
  unfold State.lockOut State.lockBinding
  simp only [r.own]
  cases hb : e.bound with
  | none =>
    refine (r.trans (State.lockEntry_rewrites r.own)).unseats h he hb ?_ (by rintro d c ⟨⟩ ⟨⟩)
    rintro d ⟨⟩
    exact ⟨.locked rfl hb rfl rfl hl ho, hb⟩
  | some q =>
    have v := r.release h he hb hb nofun (.notice .reregister)
    refine (v.trans (State.lockEntry_rewrites v.own)).unseats h he hb ?_ (by rintro d c ⟨⟩ ⟨⟩)
    rintro d ⟨⟩
    exact ⟨.locked rfl rfl rfl rfl hl rfl, rfl⟩

theorem State.wired.countFailure {s : State} (h : s.wired) (ix : ExtIx) : (s.countFailure ix).wired := by
  unfold State.countFailure
  split
  case h_1 => exact h
  case h_2 e he =>
    have k : e.kin { e with failures := min 15 (e.failures + 1) } :=
      ⟨fun w => ⟨⟨w.bound, w.challenge, w.lock, w.live, w.overdue⟩, id⟩, rfl, rfl, fun c hc => ⟨c, hc, rfl⟩⟩
    have hw := (State.kin.putEntry he k).wired h
    dsimp only
    split
    case isFalse => exact hw
    case isTrue hx =>
      have hl : e.liveCall = none := by
        simp only [Bool.and_eq_true, Option.isNone_iff_eq_none] at hx
        exact hx.1
      refine (hw.lockOut (State.rewrites.putEntry _ _ _).own hl).wired hw fun d hd => ?_
      obtain rfl := Option.some.inj (hd.symm.trans (State.rewrites.putEntry _ _ _).own)
      exact hl

/-! ## A mismatching ANSWER (R78, R74) -/

theorem State.wired.mismatch {s : State} (h : s.wired) {x : ExtIx} {e : Entry} {c : Challenge} {p : Port}
    (he : s.entry? x = some e) (hc : e.challenge = some c) (hp : c.port = p) (reason : DenyReason) :
    (s.mismatch p reason x e).wired := by
  subst hp
  unfold State.mismatch
  have r := State.rewrites.putEntry s x (some { e with challenge := none })
  have k := r.deny (r.unchallenged h he hc rfl) reason (some x)
  refine State.wired.countFailure ((State.kin.putEntry he (.revert e)).trans ⟨fun jx => ?_, fun q => ?_, fun i => ?_⟩
    |>.wired h) x
  · rw [State.entry_modEntry, k.entry, if_pos rfl, State.entry_putEntry, k.entry]
    have hx : ({ e with challenge := none } : Entry).revert = e.revert := rfl
    split_ifs
    · exact .some (hx ▸ .refl _)
    · exact rel_refl Entry.kin.refl _
  · simp only [State.modEntry, State.port_putEntry, k.port]
    exact .refl _
  · simp only [State.modEntry, State.putEntry_calls, k.calls]
    exact rel_refl Call.kin.refl _

end Sys2Proof.Machine

namespace Sys2Proof.Machine

/-! ## A challenge issued (R73) -/

/-- An entry takes a pending challenge at an unbound port where no other entry's challenge is pending. -/
theorem State.wired.putEntry_challenge {s : State} (h : s.wired) {x : ExtIx} {e d : Entry} {p : Port}
    (he : s.entry? x = some e) (hd : d.fieldsWell) (bound : d.bound = e.bound) (live : e.liveCall = none)
    (hc : ∀ c, d.challenge = some c → c.port = p) (hp : (s.port p).bound = none)
    (clear : ∀ y f k, s.entry? y = some f → f.challenge = some k → k.port = p → y = x)
    (idle : ∀ q, e.bound = some q → (s.port q).dial ≠ .dialling) (dead : d.liveCall = none) :
    (s.putEntry x (some d)).wired := by
  have split : ∀ {jx f}, (s.putEntry x (some d)).entry? jx = some f → jx = x ∧ f = d ∨ jx ≠ x ∧ s.entry? jx = some f := by
    intro jx f hf
    rw [State.entry_putEntry] at hf
    split at hf
    case isTrue hx => exact .inl ⟨hx, (Option.some.inj hf).symm⟩
    case isFalse hx => exact .inr ⟨hx, hf⟩
  have off : ∀ {jx}, jx ≠ x → (s.putEntry x (some d)).entry? jx = s.entry? jx := fun hx => by
    rw [State.entry_putEntry, if_neg hx]
  constructor
  case fields =>
    intro jx f hf
    rcases split hf with ⟨_, rfl⟩ | ⟨_, hf⟩
    · exact hd
    · exact h.fields jx f hf
  case portOfEntry =>
    intro jx f q hf hb
    rcases split hf with ⟨rfl, rfl⟩ | ⟨_, hf⟩
    · exact h.portOfEntry jx e q he (bound ▸ hb)
    · exact h.portOfEntry jx f q hf hb
  case entryOfPort =>
    intro q jx hb
    obtain ⟨f, hf, hfb⟩ := h.entryOfPort q jx hb
    by_cases hx : jx = x
    · subst hx
      obtain rfl := Option.some.inj (hf.symm.trans he)
      exact ⟨d, by simp, bound.trans hfb⟩
    · exact ⟨f, (off hx).trans hf, hfb⟩
  case challengedPort =>
    intro jx f c hf hk
    rcases split hf with ⟨_, rfl⟩ | ⟨_, hf⟩
    · exact hc c hk ▸ hp
    · exact h.challengedPort jx f c hf hk
  case oneChallenge =>
    intro jx kx f g c m hf hg hcf hmg hcm
    rcases split hf with ⟨hx, hfd⟩ | ⟨_, hf'⟩ <;> rcases split hg with ⟨hy, hgd⟩ | ⟨_, hg'⟩
    · rw [hx, hy]
    · subst hfd
      exact hx.trans (clear kx g m hg' hmg (hcm ▸ hc c hcf)).symm
    · subst hgd
      exact (clear jx f c hf' hcf (hcm.trans (hc m hmg))).trans hy.symm
    · exact h.oneChallenge jx kx f g c m hf' hg' hcf hmg hcm
  case dialling =>
    intro q hq
    obtain ⟨jx, f, hb, hf, ha⟩ := h.dialling q hq
    refine ⟨jx, f, hb, (off fun hx => ?_).trans hf, ha⟩
    subst hx
    obtain rfl := Option.some.inj (hf.symm.trans he)
    obtain ⟨g, hg, hgq⟩ := h.entryOfPort q jx hb
    obtain rfl := Option.some.inj (hg.symm.trans he)
    exact idle q hgq hq
  case liveDial =>
    intro jx f q hf hl hb
    rcases split hf with ⟨_, rfl⟩ | ⟨_, hf⟩
    · simp [dead] at hl
    · exact h.liveDial jx f q hf hl hb
  case idNonzero => exact h.idNonzero
  case idDistinct => exact h.idDistinct
  case callEntry =>
    intro i c hi
    obtain ⟨f, hf, hl, hb⟩ := h.callEntry i c hi
    refine ⟨f, (off fun hx => ?_).trans hf, hl, hb⟩
    obtain rfl := Option.some.inj ((hx ▸ hf).symm.trans he)
    simp [live] at hl

/-- The record of an entry challenged at a port, CHALLENGED or still MOVING (R73). -/
def Entry.challengedAt (p : Port) (nonce : Long) (e : Entry) : Entry :=
  { e with
    challenge := some ⟨p, nonce, none⟩
    state := if e.state = .moving then .moving else .challenged }

/-- An entry that may be challenged: without call, lock and overdue mark, and bound only when it is MOVING. -/
structure Entry.challengeable (e : Entry) : Prop where
  live : e.liveCall = none
  lock : e.lock = none
  overdue : e.overdue = none
  bound : e.bound.isSome ↔ e.state = .moving

theorem Entry.challengeable.fieldsWell {e : Entry} (h : e.challengeable) (p : Port) (n : Long) :
    (e.challengedAt p n).fieldsWell := by
  obtain ⟨hl, hk, ho, hb⟩ := h
  by_cases hs : e.state = .moving <;> constructor <;> simp [Entry.challengedAt, hs, hl, hk, ho, hb]

/-- A state with one position rewritten is kin to the plain write of it. -/
theorem State.rewrites.kin {s t : State} {ix : ExtIx} {o : Option Entry} (r : s.rewrites ix o t) :
    (s.putEntry ix o).kin t where
  entry jx := by
    rw [r.entry, State.entry_putEntry]
    exact rel_refl Entry.kin.refl _
  port p := r.port p ▸ .refl _
  call i := by
    rw [r.calls]
    exact rel_refl Call.kin.refl _

/-- The challenge issued is a rewriting of the entry's position, followed by its CHALLENGE block (R73). -/
theorem State.issueChallenge_rewrites {s : State} {x : ExtIx} {e : Entry} (he : s.entry? x = some e) (p : Port) :
    ∃ t, s.rewrites x (some (e.challengedAt p s.nonce)) t ∧ s.issueChallenge p x = t.offer p (.challenge s.nonce) := by
  unfold State.issueChallenge
  simp only [he]
  refine ⟨_, ⟨fun jx => ?_, ?_, ?_⟩, rfl⟩
  · rw [State.entry_putEntry]
    cases e.challenge <;> rfl
  · cases e.challenge <;> rfl
  · cases e.challenge <;> rfl

/-- No challenge but the entry's own is pending at the port. -/
def State.clearFor (s : State) (p : Port) (x : ExtIx) : Prop :=
  ∀ y f k, s.entry? y = some f → f.challenge = some k → k.port = p → y = x

/-- A challenge issued at an unbound port whose way is clear keeps the wiring, also where the entry's record `d` was first
put in the place of `e`. -/
theorem State.wired.issueChallenge {s t : State} (h : s.wired) {x : ExtIx} {e d : Entry} {p : Port}
    (he : s.entry? x = some e) (r : s.rewrites x (some d) t) (hd : d.challengeable) (bound : d.bound = e.bound)
    (live : e.liveCall = none) (hp : (s.port p).bound = none) (clear : s.clearFor p x)
    (idle : ∀ q, e.bound = some q → (s.port q).dial ≠ .dialling) : (t.issueChallenge p x).wired := by
  obtain ⟨u, k, hu⟩ := State.issueChallenge_rewrites r.own p
  rw [hu]
  refine ((r.trans k).kin.trans (State.kin.offer _ _ _)).wired
    (h.putEntry_challenge he (hd.fieldsWell _ _) bound live ?_ hp clear idle hd.live)
  rintro c ⟨⟩
  rfl

/-! ## REGISTER (R67 to R73) -/

/-- Once the way is clear, no challenge but the named entry's is pending at the port (R67). -/
theorem State.wired.clearWay {s : State} (h : s.wired) (p : Port) (x : ExtIx) : (s.clearWay p (some x)).clearFor p x := by
  unfold State.clearWay
  split
  case h_2 hn =>
    intro y f k hf hk hp
    exact absurd hp (State.challengeAt_none hn y f k hf hk)
  case h_1 y hy =>
    obtain ⟨e, c, he, hc, hcp⟩ := State.challengeAt_found hy
    have only : ∀ z f k, s.entry? z = some f → f.challenge = some k → k.port = p → z = y :=
      fun z f k hf hk hp => h.oneChallenge z y f e k c hf he hk hc (hp.trans hcp.symm)
    split
    case isTrue hyx => exact Option.some.inj hyx ▸ only
    case isFalse =>
      intro z f k hf hk hp
      simp only [State.abandon, he, hc, State.entry_putEntry] at hf
      split at hf
      case isTrue => cases hf; cases hk
      case isFalse hz => exact absurd (only z f k hf hk hp) hz

/-- An entry in a wired state at an IDLE port has no live call. -/
theorem State.wired.live_none {s : State} (h : s.wired) {x : ExtIx} {e : Entry} {q : Port} (he : s.entry? x = some e)
    (hb : e.bound = some q) (hq : (s.port q).dial = .idle) : e.liveCall = none := by
  cases hl : e.liveCall with
  | none => rfl
  | some _ => simpa [hq, DialState.inCallStates] using h.liveDial x e q he (by simp [hl]) hb

theorem State.wired.registerChallenge {s : State} (h : s.wired) {p : Port} {x : ExtIx} (clear : s.clearFor p x)
    (hp : ∀ e, s.entry? x = some e → e.challenge = none ∨ (∃ c, e.challenge = some c ∧ c.port = p) → (s.port p).bound = none)
    (hx : ∀ e, s.entry? x = some e → e.state ≠ .admitted ∧ e.state ≠ .locked) : (s.registerChallenge p x).wired := by
  unfold State.registerChallenge
  split
  case h_1 => exact h
  case h_2 e he =>
    split
    case isTrue => exact (State.kin.deny _ _ _ s).wired h
    case isFalse hn =>
      have hw := h.fields x e he
      obtain ⟨ha, hk⟩ := hx e he
      have hl : e.liveCall = none := by
        by_contra hl
        exact ha (hw.live (Option.isSome_iff_ne_none.mpr hl))
      refine h.issueChallenge he (r := ⟨fun jx => ?_, rfl, rfl⟩) ⟨hl, ?_, hw.not_overdue hl, ?_⟩ rfl hl (hp e he ?_) clear
        fun q hb hq => ?_
      · split_ifs with hj
        · rw [hj, he]
        · rfl
      · simpa [hk] using hw.lock
      · simpa [ha] using hw.bound
      · cases hc : e.challenge with
        | none => exact .inl rfl
        | some c => exact .inr ⟨c, rfl, by simpa [hc] using hn⟩
      · obtain ⟨jx, f, hfb, hf, hfa⟩ := h.dialling q hq
        obtain rfl := Option.some.inj (hfb.symm.trans (h.portOfEntry x e q he hb))
        obtain rfl := Option.some.inj (hf.symm.trans he)
        exact ha hfa

theorem State.wired.registerMove {s : State} (h : s.wired) {p q : Port} {x : ExtIx} {e : Entry} (clear : s.clearFor p x)
    (hp : (s.port p).bound = none) (he : s.entry? x = some e) (ha : e.state = .admitted) (hb : e.bound = some q) :
    (s.registerMove p q x e).wired := by
  unfold State.registerMove
  split
  case isTrue => exact (State.kin.deny _ _ _ s).wired h
  case isFalse hn =>
    have hw := h.fields x e he
    obtain ⟨hl, hd⟩ : e.liveCall = none ∧ (s.port q).dial = .idle := by simpa using hn
    refine h.issueChallenge he (.putEntry s x _) ⟨hl, ?_, hw.not_overdue hl, ?_⟩ rfl hl hp clear fun r hr => ?_
    · simpa [ha] using hw.lock
    · simp [hb]
    · obtain rfl := Option.some.inj (hb.symm.trans hr)
      simp [hd]

/-- A bound entry without a live call released and made UNBOUND (R70). -/
theorem State.wired.release_unbound {s : State} (h : s.wired) {x : ExtIx} {e : Entry} {q : Port}
    (he : s.entry? x = some e) (ha : e.state = .admitted) (hb : e.bound = some q) (hl : e.liveCall = none) :
    s.vacates x q (some { e.released with state := .unbound })
        ((s.releaseBinding x).modEntry x (fun e => { e with state := .unbound })) ∧
      ((s.releaseBinding x).modEntry x (fun e => { e with state := .unbound })).wired := by
  have hw := h.fields x e he
  rw [State.releaseBinding_bound he hb]
  have v : s.vacates x q (some { e.released with state := .unbound })
      (((s.putEntry x (some e.released)).putPort q (s.port q).unbind).modEntry x (fun e => { e with state := .unbound })) := by
    refine ⟨fun jx => ?_, ?_, fun p hp => ?_, rfl⟩
    · simp only [State.entry_modEntry, State.entry_putPort, State.entry_putEntry, if_true, Option.map_some]
      split_ifs <;> rfl
    · simp [State.modEntry, (s.port q).unbind_dial]
    · simp [State.modEntry, hp]
  have hc : e.challenge = none := by simpa [ha] using hw.challenge
  have hk : e.lock = none := by simpa [ha] using hw.lock
  refine ⟨v, (v.unseats h he hb ?_ ?_).wired h fun f hf => Option.some.inj (hf.symm.trans he) ▸ hl⟩
  · rintro d ⟨⟩
    exact ⟨.unbound rfl rfl hc hk hl rfl, rfl⟩
  · rintro d c ⟨⟩ hx
    exact hx

theorem State.wired.registerAgain {s : State} (h : s.wired) {p : Port} {x : ExtIx} {e : Entry} (clear : s.clearFor p x)
    (he : s.entry? x = some e) (ha : e.state = .admitted) (hb : e.bound = some p) : (s.registerAgain p x).wired := by
  unfold State.registerAgain
  split
  case isTrue => exact (State.kin.deny _ _ _ s).wired h
  case isFalse hn =>
    have hw := h.fields x e he
    have hl := h.live_none he hb (by simpa using hn)
    obtain ⟨v, hv⟩ := h.release_unbound he ha hb hl
    refine hv.issueChallenge (d := { e.released with state := .unbound }) v.own ⟨fun jx => ?_, rfl, rfl⟩
      ⟨hl, ?_, rfl, by simp [Entry.released]⟩ rfl hl v.seat.1 (fun y f k hf hk hp => ?_) nofun
    · split_ifs with hj
      · rw [hj, v.own]
      · rfl
    · simpa [ha, Entry.released] using hw.lock
    · rw [v.entry] at hf
      split at hf
      case isTrue hy => exact hy
      case isFalse => exact clear y f k hf hk hp

/-- The cases of R70 to R73, for an entry whose way at the port is clear and that alone may be bound there. -/
theorem State.wired.registerEntry {s : State} (h : s.wired) {p : Port} {x : ExtIx} (clear : s.clearFor p x)
    (hp : (s.port p).bound = none ∨ (s.port p).bound = some x)
    (hk : ∀ e, s.entry? x = some e → e.state ≠ .locked) : (s.registerEntry p x).wired := by
  unfold State.registerEntry
  split
  case h_1 => exact h
  case h_2 e he =>
    split
    case h_1 q ha hb =>
      split
      case isTrue hq => exact h.registerAgain clear he ha (hq ▸ hb)
      case isFalse hq =>
        refine h.registerMove clear (hp.resolve_right fun hx => hq ?_) he ha hb
        exact ((h.bound_iff he hb p).mp hx).symm
    case h_2 hna =>
      have ha : e.state ≠ .admitted := by
        intro ha
        obtain ⟨q, hq⟩ := Option.isSome_iff_exists.mp ((h.fields x e he).bound.mpr (.inl ha))
        exact hna q ha hq
      refine h.registerChallenge clear (fun f hf hc => ?_) fun f hf => ?_
      · obtain rfl := Option.some.inj (hf.symm.trans he)
        refine hp.resolve_right fun hx => ?_
        obtain ⟨g, hg, hgp⟩ := h.entryOfPort p x hx
        obtain rfl := Option.some.inj (hg.symm.trans he)
        have hm : g.state = .moving := ((h.fields x g he).bound.mp (by simp [hgp])).resolve_left ha
        rcases hc with hc | ⟨c, hc, rfl⟩
        · simpa [hc, hm] using (h.fields x g he).challenge
        · simp [h.challengedPort x g c he hc] at hx
      · obtain rfl := Option.some.inj (hf.symm.trans he)
        exact ⟨ha, hk f he⟩

theorem State.wired.registerAt {s : State} (h : s.wired) {p : Port} {x : ExtIx} (clear : s.clearFor p x)
    (hk : ∀ e, s.entry? x = some e → e.state ≠ .locked) : (s.registerAt p x).wired := by
  unfold State.registerAt
  split
  case h_2 hp => exact h.registerEntry clear (.inl hp) hk
  case h_1 y hy =>
    split
    case isTrue hx => exact h.registerEntry clear (.inr (hx ▸ hy)) hk
    case isFalse hx =>
      split
      case isTrue => exact (State.kin.deny _ _ _ s).wired h
      case isFalse hn =>
        obtain ⟨f, hf, hfp⟩ := h.entryOfPort p y hy
        have hl := h.live_none hf hfp (by simpa using hn)
        have u := h.release_lapsed hf hl hfp
        have hw : (s.takeOver p y).wired := (State.kin.raise _ _).wired
          (u.wired h fun g hg => Option.some.inj (hg.symm.trans hf) ▸ hl)
        refine hw.registerEntry ?_ (.inl (u.seat p hy).1) fun e he => hk e ((u.others x (Ne.symm hx)) ▸ he)
        intro z g k hg hk' hp
        obtain ⟨g', k', hg', hk'', hkp⟩ := u.challenged (jx := z) hg hk'
        exact clear z g' k' hg' hk'' (hkp.trans hp)

theorem State.wired.registerCases {s : State} (h : s.wired) {p : Port} {x : Option ExtIx}
    (clear : ∀ y, x = some y → s.clearFor p y) : (s.registerCases p x).wired := by
  unfold State.registerCases
  split
  case h_1 => exact (State.kin.deny _ _ _ s).wired h
  case h_2 x =>
    split
    case h_1 => exact h
    case h_2 e he =>
      split_ifs with hlock
      · exact (State.kin.deny _ _ _ s).wired h
      · exact ((State.kin.deny _ _ _ s).wired h).countFailure x
      · exact h.registerAt (clear x rfl) fun f hf => Option.some.inj (hf.symm.trans he) ▸ hlock

theorem State.kin.clearWay (p : Port) (x : Option ExtIx) (s : State) : s.kin (s.clearWay p x) := by
  unfold State.clearWay
  split
  case h_2 => exact refl s
  case h_1 =>
    split
    case isTrue => exact refl s
    case isFalse => exact abandon _ s

theorem State.wired.registerBlock {s : State} (h : s.wired) (p : Port) (number : List Digit) :
    (s.registerBlock p number).wired := by
  unfold State.registerBlock
  refine ((State.kin.clearWay p _ s).wired h).registerCases fun y hy => ?_
  rw [hy]
  exact h.clearWay p y

end Sys2Proof.Machine

namespace Sys2Proof.Machine

/-! ## A binding made (R76, R77)

`s.seats x p t`: t is s but for the entry at `x`, which is ADMITTED and bound at `p` without a challenge, and the port it was
bound at before, if any. -/

/-- The entry at an index is bound at a port, its challenge gone and its old port let go. -/
structure State.seats (x : ExtIx) (p : Port) (s t : State) : Prop where
  others : ∀ jx, jx ≠ x → t.entry? jx = s.entry? jx
  own : ∃ d, t.entry? x = some d ∧ d.fieldsWell ∧ d.state = .admitted ∧ d.bound = some p ∧ d.challenge = none ∧
    d.liveCall = none
  seat : (t.port p).bound = some x
  left : ∀ q, q ≠ p → (s.port q).bound = some x → (t.port q).bound = none ∧ (t.port q).dial ≠ .dialling
  ports : ∀ q, q ≠ p → (s.port q).bound ≠ some x → t.port q = s.port q
  calls : t.calls = s.calls

/-- An entry may be bound at the port its challenge was pending at. -/
theorem State.seats.wired {x : ExtIx} {p : Port} {s t : State} (b : s.seats x p t) (h : s.wired) {e : Entry}
    {c : Challenge} (he : s.entry? x = some e) (hc : e.challenge = some c) (hp : c.port = p) : t.wired := by
  obtain ⟨others, ⟨d, hd, hw, hda, hdb, hdc, hdl⟩, seat, left, ports, calls⟩ := b
  have vacant : (s.port p).bound = none := hp ▸ h.challengedPort x e c he hc
  have quiet : e.liveCall = none := ((h.fields x e he).of_challenge hc).2.1
  have own : ∀ {f}, t.entry? x = some f → f = d := fun hf => Option.some.inj (hf.symm.trans hd)
  have unmoved : ∀ {q jx}, (s.port q).bound = some jx → jx ≠ x → t.port q = s.port q := fun {q jx} hq hx =>
    ports q (fun hqp => by simp [hqp, vacant] at hq) (fun hq' => hx (Option.some.inj (hq.symm.trans hq')))
  constructor
  case fields =>
    intro jx f hf
    by_cases hx : jx = x
    · subst hx; exact own hf ▸ hw
    · exact h.fields jx f (others jx hx ▸ hf)
  case portOfEntry =>
    intro jx f q hf hb
    by_cases hx : jx = x
    · subst hx
      obtain rfl := Option.some.inj ((own hf ▸ hb).symm.trans hdb)
      exact seat
    · have hq := h.portOfEntry jx f q (others jx hx ▸ hf) hb
      rw [unmoved hq hx, hq]
  case entryOfPort =>
    intro q jx hb
    by_cases hqp : q = p
    · obtain rfl := Option.some.inj (seat.symm.trans (hqp ▸ hb))
      exact ⟨d, hd, hqp ▸ hdb⟩
    · by_cases hx : (s.port q).bound = some x
      · simp [(left q hqp hx).1] at hb
      · rw [ports q hqp hx] at hb
        rw [others jx fun hj => hx (hj ▸ hb)]
        exact h.entryOfPort q jx hb
  case challengedPort =>
    intro jx f k hf hk
    by_cases hx : jx = x
    · subst hx; simp [own hf, hdc] at hk
    · have hf' := others jx hx ▸ hf
      have hb := h.challengedPort jx f k hf' hk
      rw [ports k.port (fun hkp => hx (h.oneChallenge jx x f e k c hf' he hk hc (hkp.trans hp.symm))) (by simp [hb]), hb]
  case oneChallenge =>
    intro jx kx f g k m hf hg hk hm hkm
    have off : ∀ {j y l}, t.entry? j = some y → y.challenge = some l → s.entry? j = some y := fun {j y l} hy hl =>
      others j (fun hj => by
        subst hj
        simp [own hy, hdc] at hl) ▸ hy
    exact h.oneChallenge jx kx f g k m (off hf hk) (off hg hm) hk hm hkm
  case dialling =>
    intro q hq
    by_cases hqp : q = p
    · exact ⟨x, d, hqp ▸ seat, hd, hda⟩
    · by_cases hx : (s.port q).bound = some x
      · exact absurd hq (left q hqp hx).2
      · rw [ports q hqp hx] at hq ⊢
        obtain ⟨jx, f, hb, hf, ha⟩ := h.dialling q hq
        exact ⟨jx, f, hb, (others jx fun hj => hx (hj ▸ hb)).trans hf, ha⟩
  case liveDial =>
    intro jx f q hf hl hb
    by_cases hx : jx = x
    · subst hx; simp [own hf, hdl] at hl
    · have hf' := others jx hx ▸ hf
      rw [unmoved (h.portOfEntry jx f q hf' hb) hx]
      exact h.liveDial jx f q hf' hl hb
  case idNonzero => rw [calls]; exact h.idNonzero
  case idDistinct => rw [calls]; exact h.idDistinct
  case callEntry =>
    intro i k hk
    obtain ⟨f, hf, hl, hb⟩ := h.callEntry i k (calls ▸ hk)
    refine ⟨f, (others _ fun hx => ?_).trans hf, hl, hb⟩
    obtain rfl := Option.some.inj ((hx ▸ hf).symm.trans he)
    simp [quiet] at hl

/-- The record of an entry bound at a port by an answer (R76). -/
def Entry.boundAt (p : Port) (interval : Nat) (e : Entry) : Entry :=
  { e with state := .admitted, bound := some p, refresh := some interval, refreshDue := false, overdue := none }

theorem Entry.boundAt_fieldsWell {e : Entry} (hc : e.challenge = none) (hk : e.lock = none) (hl : e.liveCall = none)
    (p : Port) (n : Nat) : (e.boundAt p n).fieldsWell := by
  constructor <;> simp [Entry.boundAt, hc, hk, hl]

/-- Binding an entry is one write of the entry and one of the port, and an ADMIT offered (R76). -/
theorem State.bind_eq {s : State} {x : ExtIx} {e : Entry} (he : s.entry? x = some e) (p : Port) :
    s.bind p x = ((s.putEntry x (some (e.boundAt p (s.classOf e).refreshInterval))).putPort p
      { s.port p with bound := some x }).offer p (.admission (s.classOf e).refreshInterval) := by
  simp [State.bind, he, Entry.boundAt]

/-- An entry that has left its old port and lost its challenge is bound. -/
theorem State.wired.bind {s t : State} (h : s.wired) {x : ExtIx} {e d : Entry} {c : Challenge} {p : Port}
    (he : s.entry? x = some e) (hc : e.challenge = some c) (hp : c.port = p)
    (others : ∀ jx, jx ≠ x → t.entry? jx = s.entry? jx) (own : t.entry? x = some d)
    (hd : d.challenge = none ∧ d.lock = none ∧ d.liveCall = none)
    (left : ∀ q, (s.port q).bound = some x → (t.port q).bound = none ∧ (t.port q).dial ≠ .dialling)
    (ports : ∀ q, (s.port q).bound ≠ some x → t.port q = s.port q) (calls : t.calls = s.calls) :
    (t.bind p x).wired := by
  rw [State.bind_eq own]
  refine (State.kin.offer _ _ _).wired (State.seats.wired (x := x) (p := p) ?_ h he hc hp)
  refine ⟨fun jx hx => ?_, ⟨d.boundAt p _, ?_, Entry.boundAt_fieldsWell hd.1 hd.2.1 hd.2.2 p (t.classOf d).refreshInterval,
    rfl, rfl, hd.1, hd.2.2⟩, ?_,
    fun q hq hb => ?_, fun q hq hb => ?_, calls⟩
  · simp [hx, others]
  · simp
  · simp
  · simpa [hq] using left q hb
  · simpa [hq] using ports q hb

theorem State.wired.matchingAnswer {s : State} (h : s.wired) {x : ExtIx} {e : Entry} {c : Challenge} {p : Port}
    (he : s.entry? x = some e) (hc : e.challenge = some c) (hp : c.port = p) : (s.matchingAnswer p x e).wired := by
  obtain ⟨hs, hl, hk, _⟩ := (h.fields x e he).of_challenge hc
  have r := State.rewrites.putEntry s x (some e.answered)
  unfold State.matchingAnswer
  dsimp only
  split
  case h_1 q hm hb =>
    have v := r.release h he hb hb nofun (.notice .moved)
    refine ((State.kin.raise _ _).trans (State.kin.raise _ _)).wired (h.bind he hc hp (fun jx hx => ?_) v.own
      ⟨rfl, hk, hl⟩ (fun q' hq' => ?_) (fun q' hq' => v.port q' fun hq => hq' ?_) v.calls)
    · exact (v.entry jx).trans (if_neg hx)
    · rw [(h.bound_iff he hb q').mp hq']
      exact v.seat
    · exact (h.bound_iff he hb q').mpr hq
  case h_2 hn =>
    have hb : e.bound = none := by
      rcases hs with ⟨_, hb⟩ | ⟨hm, hb⟩
      · exact hb
      · obtain ⟨q, hq⟩ := Option.isSome_iff_exists.mp hb
        exact absurd hq (hn q hm)
    exact (State.kin.raise _ _).wired (h.bind he hc hp (fun jx hx => (r.entry jx).trans (if_neg hx)) r.own ⟨rfl, hk, hl⟩
      (fun q hq => absurd hq (h.bound_ne he hb q)) (fun q _ => r.port q) r.calls)

theorem State.wired.answerBlock {s : State} (h : s.wired) (p : Port) (response : Long) : (s.answerBlock p response).wired := by
  unfold State.answerBlock
  split
  case h_1 => exact (State.kin.deny _ _ _ s).wired h
  case h_2 x hx =>
    obtain ⟨e, c, he, hc, hp⟩ := State.challengeAt_found hx
    simp only [he, hc]
    split_ifs
    · exact (State.kin.deny _ _ _ s).wired h
    · exact h.matchingAnswer he hc hp
    · exact h.mismatch he hc hp _

theorem State.wired.answerExpiry {s : State} (h : s.wired) (x : ExtIx) : (s.answerExpiry x).wired := by
  unfold State.answerExpiry
  split
  case h_1 => exact h
  case h_2 e he =>
    split
    case h_1 => exact h
    case h_2 c hc =>
      split
      case isTrue => exact h.mismatch he hc rfl _
      case isFalse => exact h

/-! ## Check-ins, refreshes and locks at their end (R79, R80, R5, R11) -/

theorem State.wired.checkInBlock {s : State} (h : s.wired) (p : Port) : (s.checkInBlock p).wired := by
  unfold State.checkInBlock
  split
  case h_1 => exact (State.kin.deny _ _ _ s).wired h
  case h_2 x _ =>
    split
    case h_1 => exact (State.kin.deny _ _ _ s).wired h
    case h_2 e he =>
      split
      case isFalse => exact (State.kin.deny _ _ _ s).wired h
      case isTrue =>
        have k : e.kin (e.checkIn p (s.classOf e).refreshInterval) := by
          refine ⟨fun w => ⟨⟨w.bound, w.challenge, w.lock, w.live, fun ho => w.overdue ?_⟩, id⟩, rfl, rfl,
            fun c hc => ⟨c, hc, rfl⟩⟩
          simp only [Entry.checkIn] at ho
          split at ho
          · exact ho
          · cases ho
        exact (State.kin.putEntry he k).wired h

theorem State.wired.refreshEnd {s : State} (h : s.wired) (x : ExtIx) : (s.refreshEnd x).wired := by
  unfold State.refreshEnd
  split
  case h_1 => exact h
  case h_2 e he =>
    split
    case isFalse => exact h
    case isTrue =>
      have k : e.kin { e with refreshDue := false } :=
        ⟨fun w => ⟨⟨w.bound, w.challenge, w.lock, w.live, w.overdue⟩, id⟩, rfl, rfl, fun c hc => ⟨c, hc, rfl⟩⟩
      exact ((State.kin.putEntry he k).wired h).lapse x .refresh

/-- A LOCKED entry unlocked: it has neither port, challenge, call nor overdue mark to lose. -/
theorem Entry.kin.unlocked {e : Entry} (hs : e.state = .locked) : e.kin e.unlocked where
  fields w := by
    refine ⟨?_, fun ha => by simp [hs] at ha⟩
    have hl : e.liveCall = none := by
      by_contra hl
      simpa [hs] using w.live (Option.isSome_iff_ne_none.mpr hl)
    have hb : e.bound = none := by simpa [hs] using w.bound
    have hc : e.challenge = none := by simpa [hs] using w.challenge
    exact .unbound rfl hb hc rfl hl (w.not_overdue hl)
  bound := rfl
  live := rfl
  challenge c hc := ⟨c, hc, rfl⟩

theorem State.kin.unlock {s : State} {x : ExtIx} {e : Entry} (he : s.entry? x = some e) (hs : e.state = .locked) :
    s.kin (s.unlock x e) := (putEntry he (.unlocked hs)).trans (raise _ _)

theorem State.wired.lockEnd {s : State} (h : s.wired) (x : ExtIx) : (s.lockEnd x).wired := by
  unfold State.lockEnd
  split
  case h_1 => exact h
  case h_2 e he =>
    split
    case isFalse => exact h
    case isTrue hk => exact (State.kin.unlock he ((h.fields x e he).lock.mp (by simp [hk]))).wired h

/-! ## ENTER and ERASE EXTENSION (R6 to R10) -/

theorem Stored.fresh_fieldsWell (f : Stored) : f.fresh.fieldsWell := .unbound rfl rfl rfl rfl rfl rfl

/-- An entry put at a free position, bound nowhere and not challenged. -/
theorem State.wired.putEntry_fresh {s : State} (h : s.wired) {x : ExtIx} (hx : s.entry? x = none) (f : Stored) :
    (s.putEntry x (some f.fresh)).wired := by
  refine State.unseats.wired (ix := x) (s := s) ⟨fun jx hj => by simp [hj], fun d hd => ?_, fun d c hd hc => ?_,
    fun p hp => ?_, fun _ _ => rfl, rfl⟩ h (fun e he => by simp [hx] at he)
  · obtain rfl := Option.some.inj ((State.rewrites.putEntry s x _).own.symm.trans hd)
    exact ⟨f.fresh_fieldsWell, rfl⟩
  · obtain rfl := Option.some.inj ((State.rewrites.putEntry s x _).own.symm.trans hd)
    cases hc
  · obtain ⟨e, he, _⟩ := h.entryOfPort p x hp
    simp [hx] at he

theorem State.kin.enterAbandon (x : ExtIx) (old : Key) (s : State) : s.kin (s.enterAbandon x old) := by
  unfold State.enterAbandon
  split
  case h_1 => exact refl s
  case h_2 =>
    split
    case h_1 => exact refl s
    case h_2 =>
      split_ifs
      · exact (abandon _ s).trans (offer _ _ _)
      · exact (abandon _ s).trans (offer _ _ _)
      · exact refl s

theorem State.wired.enterLapse {s : State} (h : s.wired) (x : ExtIx) : (s.enterLapse x).wired := by
  unfold State.enterLapse
  split
  case h_1 => exact h
  case h_2 =>
    split
    case h_1 =>
      split_ifs
      · exact h.lapse x _
      · exact h
    case h_2 => exact h

theorem State.wired.enter {s : State} (h : s.wired) (x : ExtIx) (f : Stored) : (s.enter x f).wired := by
  unfold State.enter
  split
  case h_1 hx => exact h.putEntry_fresh hx f
  case h_2 e he =>
    have k : e.kin (e.restock f) :=
      ⟨fun w => ⟨⟨w.bound, w.challenge, w.lock, w.live, w.overdue⟩, id⟩, rfl, rfl, fun c hc => ⟨c, hc, rfl⟩⟩
    exact (((State.kin.putEntry he k).trans (State.kin.enterAbandon x _ _)).wired h).enterLapse x

theorem PortRec.erased_bound (r : PortRec) : r.erased.bound = none := by
  unfold PortRec.erased
  split <;> rfl

theorem PortRec.erased_dial (r : PortRec) : r.erased.dial ≠ .dialling := by
  unfold PortRec.erased
  split
  case isTrue => exact nofun
  case isFalse h => exact fun hd => h (.inl hd)

/-- Step 1 of R10 leaves the entry without its challenge. -/
theorem State.wired.eraseChallenge_rewrites {s : State} (h : s.wired) {x : ExtIx} {e : Entry} (he : s.entry? x = some e) :
    s.rewrites x (some { e with challenge := none }) (s.eraseChallenge x e) := by
  unfold State.eraseChallenge
  cases hc : e.challenge with
  | none =>
    have hx : ({ e with challenge := none } : Entry) = e := by rw [← hc]
    refine ⟨fun jx => ?_, rfl, rfl⟩
    rw [hx]
    split_ifs with hj
    · rw [hj, he]
    · rfl
  | some c =>
    have r : s.rewrites x (some { e with challenge := none })
        ((s.withdraw c.port c.nonce).putEntry x (some { e with challenge := none })) :=
      ⟨fun _ => State.entry_putEntry _ _ _ _, rfl, rfl⟩
    exact r.offer (r.unchallenged h he hc rfl) _

theorem State.wired.eraseEntry {s : State} (h : s.wired) {x : ExtIx} {e : Entry} (he : s.entry? x = some e) :
    (eraseEntry x e s).1.wired := by
  unfold Machine.eraseEntry
  split
  case isTrue => exact h
  case isFalse hl =>
    have hl : e.liveCall = none := by simpa using hl
    have idle : ∀ d, s.entry? x = some d → d.liveCall = none := fun d hd => Option.some.inj (hd.symm.trans he) ▸ hl
    have r := h.eraseChallenge_rewrites he
    unfold State.eraseBinding
    generalize s.eraseChallenge x e = t at r ⊢
    cases hb : e.bound with
    | none => exact ((r.trans (.putEntry t x none)).unseats h he hb (by simp) (by simp)).wired h idle
    | some q =>
      have hu : (t.putPort q (t.port q).erased).unchallenged q :=
        h.unchallenged_rewrites r he (by rintro d c ⟨⟩ ⟨⟩) (by simp [h.portOfEntry x e q he hb])
      have v : s.vacates x q none (((t.putPort q (t.port q).erased).offer q (.notice .reregister)).putEntry x none) := by
        refine ⟨fun jx => ?_, ?_, fun p hp => ?_, ?_⟩
        · simp only [State.entry_putEntry, hu.entry_offer, State.entry_putPort, r.entry]
          split_ifs <;> rfl
        · simp [PortRec.erased_bound, PortRec.erased_dial]
        · simp [hp, r.port]
        · simp [r.calls]
      exact (v.unseats h he hb (by simp) (by simp)).wired h idle

end Sys2Proof.Machine

namespace Sys2Proof.Machine

/-! ## Loops: absences, turns, breaks (spec/03) -/

/-- An operation that keeps the wiring, folded. -/
theorem State.wired.foldl {α : Type} {f : State → α → State} (hf : ∀ (s : State) a, s.wired → (f s a).wired)
    {s : State} (h : s.wired) (as : List α) : (as.foldl f s).wired := by
  induction as generalizing s with
  | nil => exact h
  | cons a as ih => exact ih (hf s a h)

theorem PortRec.kin.gone (r : PortRec) : r.kin r.gone := by
  unfold PortRec.gone
  split
  case isFalse => exact ⟨rfl, id, id⟩
  case isTrue hd =>
    refine ⟨rfl, nofun, fun hc => ?_⟩
    rcases hd with hd | hd <;> simp [hd, DialState.inCallStates] at hc

theorem State.kin.dropChallengeAt (p : Port) (s : State) : s.kin (s.dropChallengeAt p) := by
  unfold State.dropChallengeAt
  split
  case h_1 => exact modEntry .revert _ s
  case h_2 => exact refl s

theorem State.wired.lapseAt {s : State} (h : s.wired) (p : Port) : (s.lapseAt p).wired := by
  unfold State.lapseAt
  split
  case h_1 => exact h.lapse _ _
  case h_2 => exact h

theorem State.wired.goAbsent {s : State} (h : s.wired) (p : Port) : (s.goAbsent p).wired := by
  have k : s.kin (s.putPort p { s.port p with presence := .absent }) := .putPort ⟨rfl, id, id⟩
  refine State.wired.lapseAt (State.kin.wired ?_ ((k.trans (State.kin.raise (.stationAbsent p) _)).wired h)) p
  exact ((State.kin.putLoop _ _ _).trans (State.kin.dropChallengeAt p _)).trans (State.kin.putPort (.gone _))

theorem State.wired.ensureAbsent {s : State} (h : s.wired) (p : Port) : (s.ensureAbsent p).wired := by
  unfold State.ensureAbsent
  split
  case h_1 => exact h.goAbsent p
  case h_2 => exact h

theorem State.kin.clearMiss (p : Port) (s : State) : s.kin (s.clearMiss p) := putPort ⟨rfl, id, id⟩

theorem State.wired.removeStation {s : State} (h : s.wired) (p : Port) : (s.removeStation p).wired :=
  ((State.kin.putLoop _ _ _).trans (State.kin.clearMiss p _)).wired (h.ensureAbsent p)

theorem State.wired.disableLoop {s : State} (h : s.wired) (l : LoopNo) (poll : Table Bool 32) :
    (s.disableLoop l poll).wired :=
  (State.kin.foldl (fun s st => State.kin.clearMiss (portOf l st) s) _ _).wired
    (((State.kin.putLoop l _ s).wired h).foldl (fun _ st hs => hs.ensureAbsent (portOf l st)) _)

theorem State.wired.setLoop {s : State} (h : s.wired) (l : LoopNo) (enable : Bool) (poll : Table Bool 32) :
    (s.setLoop l enable poll).wired := by
  unfold State.setLoop
  split
  case h_1 => exact ((State.kin.putLoop l _ s).wired h).foldl (fun _ st hs => hs.removeStation (portOf l st)) _
  case h_2 => exact h.disableLoop l poll
  case h_3 => exact (State.kin.putLoop l _ s).wired h
  case h_4 => exact (State.kin.putLoop l _ s).wired h

theorem State.kin.startAnswerTimer (p : Port) (n : Long) (s : State) : s.kin (s.startAnswerTimer p n) := by
  unfold State.startAnswerTimer
  split
  case h_1 => exact refl s
  case h_2 =>
    split
    case h_1 => exact refl s
    case h_2 e he =>
      split
      case h_1 => exact refl s
      case h_2 c hc =>
        split
        case isFalse => exact refl s
        case isTrue =>
          refine putEntry he ⟨fun w => ⟨⟨w.bound, ?_, w.lock, w.live, w.overdue⟩, id⟩, rfl, rfl, ?_⟩
          · simpa [hc] using w.challenge
          · rintro d ⟨⟩
            exact ⟨c, hc, rfl⟩

theorem State.kin.blockSent (l : LoopNo) (s : State) : s.kin (s.blockSent l) := by
  unfold State.blockSent State.noteSent
  split
  case h_2 => exact refl s
  case h_1 =>
    split
    case isFalse => exact refl s
    case isTrue =>
      split
      case h_1 => exact (putLoop _ _ s).trans (startAnswerTimer _ _ _)
      case h_2 => exact putLoop _ _ s

theorem State.wired.miss {s : State} (h : s.wired) (p : Port) : (s.miss p).wired := by
  have k : s.kin (s.putPort p { s.port p with miss := min 32 ((s.port p).miss + 1) }) := .putPort ⟨rfl, id, id⟩
  unfold State.miss
  dsimp only
  split
  case h_2 => exact k.wired h
  case h_1 =>
    split
    case isFalse => exact k.wired h
    case isTrue => exact (k.wired h).goAbsent p

theorem State.kin.present (p : Port) (s : State) : s.kin (s.present p) := by
  unfold State.present
  dsimp only
  split
  case h_1 => exact putPort ⟨rfl, id, id⟩
  case h_2 =>
    have k : s.kin (s.putPort p { s.port p with presence := .present, miss := 0 }) := putPort ⟨rfl, id, id⟩
    exact k.trans (raise _ _)

theorem State.kin.handOn (p : Port) (b : Option (Byte × List Byte)) (s : State) : s.kin (s.handOn p b) := by
  unfold State.handOn
  split
  case h_2 => exact refl s
  case h_1 =>
    split
    case h_1 => exact of_eq rfl rfl rfl
    case h_2 => exact refl s

theorem State.wired.windowTimeout {s : State} (h : s.wired) (l : LoopNo) : (s.windowTimeout l).wired := by
  unfold State.windowTimeout
  split
  case h_1 => exact ((State.kin.putLoop l _ s).wired h).miss _
  case h_2 => exact h

theorem State.wired.stationReply {s : State} (h : s.wired) (l : LoopNo) (chars : List LoopChar) :
    (s.stationReply l chars).wired := by
  unfold State.stationReply
  split
  case h_2 => exact h
  case h_1 =>
    dsimp only
    split
    case h_1 =>
      exact (((State.kin.putLoop l _ s).trans (State.kin.present _ _)).trans (State.kin.handOn _ _ _)).wired h
    case h_2 => exact ((State.kin.putLoop l _ s).wired h).miss _

/-- Every entry changed by one function that leaves the wires in place. -/
theorem State.kin.mapEntries {s t : State} {f : Entry → Entry} (hf : ∀ e : Entry, e.kin (f e))
    (hd : t.directory = s.directory.map (Option.map f)) (hp : t.ports = s.ports) (hc : t.calls = s.calls) : s.kin t where
  entry ix := by
    simp only [State.entry?, hd, Table.get_map]
    exact rel_map hf _
  port := (of_eq (s := s) (t := { s with ports := t.ports }) rfl hp rfl).port
  call := (of_eq (s := s) (t := { s with calls := t.calls }) rfl rfl hc).call

theorem State.kin.abandonLoop (l : LoopNo) (s : State) : s.kin (s.abandonLoop l) := by
  refine mapEntries (f := fun e => if e.challengedOn l then e.revert else e) (fun e => ?_) rfl rfl rfl
  split
  case isTrue => exact .revert e
  case isFalse => exact .refl e

theorem State.kin.loopBreak (l : LoopNo) (s : State) : s.kin (s.loopBreak l) := by
  unfold State.loopBreak
  dsimp only
  split
  case h_1 => exact ((putLoop l _ s).trans (raise _ _)).trans (abandonLoop l _)
  case h_2 => exact refl s
  case h_3 => exact refl s

theorem State.kin.loopRestore (l : LoopNo) (s : State) : s.kin (s.loopRestore l) := by
  unfold State.loopRestore
  dsimp only
  split
  case h_1 => exact (putLoop l _ s).trans (raise _ _)
  case h_2 => exact refl s
  case h_3 => exact refl s

/-- A block taken by its unit, which keeps the wiring (R49). -/
theorem State.wired.takeBlock {s : State} (h : s.wired) (p : Port) (b : StationBlock) {act : State → State}
    (ha : ∀ t : State, t.wired → (act t).wired) : (s.takeBlock p b act).wired := by
  have hp : ∀ t : State, t.wired → (t.atPresent p act).wired := by
    intro t ht
    unfold State.atPresent
    split
    case h_1 => exact ha t ht
    case h_2 => exact ht
  unfold State.takeBlock
  split
  case h_1 => exact hp s h
  case h_2 =>
    split
    case isTrue => exact hp _ (State.kin.wired (s := s) (.of_eq rfl rfl rfl) h)
    case isFalse => exact h

/-! ## Frames, ticks and the link (spec/06, spec/11) -/

theorem Entry.kin.tick (e : Entry) : e.kin e.tick where
  fields w := by
    refine ⟨⟨w.bound, ?_, w.lock, w.live, w.overdue⟩, id⟩
    simpa [Entry.tick] using w.challenge
  bound := rfl
  live := rfl
  challenge c hc := by
    obtain ⟨k, hk, rfl⟩ := Option.map_eq_some_iff.mp hc
    exact ⟨k, hk, rfl⟩

theorem Entry.kin.refreshFall (e : Entry) : e.kin e.refreshFall := by
  unfold Entry.refreshFall
  split
  case isTrue =>
    exact ⟨fun w => ⟨⟨w.bound, w.challenge, w.lock, w.live, w.overdue⟩, id⟩, rfl, rfl, fun c hc => ⟨c, hc, rfl⟩⟩
  case isFalse => exact .refl e

theorem Entry.kin.lockFall (e : Entry) : e.kin e.lockFall := by
  unfold Entry.lockFall
  split
  case isTrue =>
    refine ⟨fun w => ⟨⟨w.bound, w.challenge, ?_, w.live, w.overdue⟩, id⟩, rfl, rfl, fun c hc => ⟨c, hc, rfl⟩⟩
    simpa using w.lock
  case isFalse => exact .refl e

theorem Entry.kin.second (e : Entry) : e.kin e.second := (Entry.kin.refreshFall e).trans (.lockFall _)

theorem Call.kin.tick (c : Call) : c.kin c.tick := by
  unfold Call.tick
  split <;> exact ⟨rfl, rfl, rfl⟩

theorem State.kin.millisecond (s : State) : s.kin s.millisecond where
  entry ix := by
    simp only [State.entry?, State.millisecond, Table.get_map]
    exact rel_map Entry.kin.tick _
  port p := by
    simp only [State.port, State.millisecond, Table.get_map]
    exact ⟨rfl, id, id⟩
  call i := by
    simp only [State.millisecond, Table.get_map]
    exact rel_map Call.kin.tick _

theorem State.kin.tick (s : State) : s.kin s.tick := by
  unfold State.tick
  dsimp only
  split
  case isTrue => exact (millisecond s).trans (mapEntries Entry.kin.second rfl rfl rfl)
  case isFalse => exact (millisecond s).trans (of_eq rfl rfl rfl)

theorem State.kin.beginFrame (s : State) : s.kin s.beginFrame := by
  unfold State.beginFrame
  dsimp only
  split
  case isTrue =>
    have k : s.kin { s with
        handling := s.handling.map HeldReply.seen, timeBase := { s.timeBase with tickDivider := 0 } } := of_eq rfl rfl rfl
    exact k.trans (tick _)
  case isFalse => exact of_eq rfl rfl rfl

theorem State.kin.serveFrame (inputs : Table Byte 192) (s : State) : s.kin (s.serveFrame inputs) := by
  have k : s.kin { s with
      contexts := (s.frameSteps inputs).map CtxFrame.context
      outputs := Table.tabulate (fun d => some (s.slotOctet inputs (s.frameSteps inputs) d)) } := of_eq rfl rfl rfl
  exact k.trans (foldl (fun s i => raise i s) _ _)

theorem State.kin.highwayFrame (inputs : Table Byte 192) (s : State) : s.kin (s.highwayFrame inputs) :=
  (beginFrame s).trans (serveFrame inputs _)

theorem State.kin.unservedFrame (s : State) : s.kin s.unservedFrame := by
  have k : s.kin { s with outputs := Table.replicate 192 none } := of_eq rfl rfl rfl
  exact k.trans (beginFrame _)

theorem State.kin.acceptPulse (sinceFrame : Nat) (inputs : Table Byte 192) (s : State) :
    s.kin (s.acceptPulse sinceFrame inputs) := by
  unfold State.acceptPulse
  split
  case isTrue =>
    have k : s.kin { s with timeBase := { s.timeBase with missCount := 0 } } := of_eq rfl rfl rfl
    exact k.trans (highwayFrame inputs _)
  case isFalse => exact refl s

theorem State.kin.restorePulse (sincePulse : Option Nat) (inputs : Table Byte 192) (s : State) :
    s.kin (s.restorePulse sincePulse inputs) := by
  unfold State.restorePulse
  dsimp only
  split
  case isFalse => exact of_eq rfl rfl rfl
  case isTrue =>
    have k : s.kin { s with
        timeBase := { s.timeBase with source := .highway, missCount := 0, restoreCount := 0 }
        contexts := s.contexts.map Context.resume } := of_eq rfl rfl rfl
    exact (k.trans (raise _ _)).trans (highwayFrame inputs _)

theorem State.kin.missPulse (inputs : Table Byte 192) (s : State) : s.kin (s.missPulse inputs) := by
  unfold State.missPulse
  split
  case isTrue =>
    have k : s.kin { s with timeBase := { s.timeBase with missCount := s.timeBase.missCount + 1 } } := of_eq rfl rfl rfl
    exact k.trans (highwayFrame inputs _)
  case isFalse =>
    have k : s.kin { s with
        timeBase :=
          { s.timeBase with source := .holdover, missCount := 0, restoreCount := 0, holdoverLength := 0 } } :=
      of_eq rfl rfl rfl
    exact (k.trans (raise _ _)).trans (unservedFrame _)

theorem State.kin.dropFrame (k : LinkErrorKind) (s : State) : s.kin (s.dropFrame k) := of_eq rfl rfl rfl

theorem State.kin.hold (f : Frame) (s : State) : s.kin (s.hold f) := by
  unfold State.hold
  split_ifs
  · exact raise _ s
  · exact of_eq rfl rfl rfl
  · exact raise _ s

theorem State.kin.completeFrame (octets : List Byte) (s : State) : s.kin (s.completeFrame octets) := by
  unfold State.completeFrame
  split
  case h_1 =>
    have k : s.kin { s with assembling := [] } := of_eq rfl rfl rfl
    exact k.trans (hold _ _)
  case h_2 => exact dropFrame _ s

theorem State.kin.receiveOctet (s : State) (o : Byte) : s.kin (s.receiveOctet o) := by
  unfold State.receiveOctet
  dsimp only
  split_ifs
  · exact of_eq rfl rfl rfl
  · exact refl s
  · exact dropFrame _ s
  · exact completeFrame _ s
  · exact of_eq rfl rfl rfl

theorem State.kin.lineError (k : LinkErrorKind) (s : State) : s.kin (s.lineError k) := by
  unfold State.lineError
  split
  · exact refl s
  · exact dropFrame k s

theorem State.kin.release (r : Reply) (s : State) : s.kin (s.release r) := of_eq rfl rfl rfl

theorem State.kin.respond (f : Frame) (a : Answer) (s : State) : s.kin (s.respond f a) := by
  unfold State.respond
  dsimp only
  split
  · exact of_eq rfl rfl rfl
  · exact release _ s

/-- A request whose meaning keeps the wiring keeps it, taken or not (R193). -/
theorem State.wired.serve {s : State} (h : s.wired) (i : Instr) {act : State → State × Answer}
    (ha : ∀ t : State, t.wired → (act t).1.wired) : (s.serve i act).wired := by
  unfold State.serve
  split
  case h_2 => exact h
  case h_1 f _ =>
    unfold State.request
    split
    case isFalse => exact h
    case isTrue => exact (State.kin.respond _ _ _).wired (ha _ (State.kin.wired (s := s) (.of_eq rfl rfl rfl) h))

end Sys2Proof.Machine

namespace Sys2Proof.Machine

/-! ## The id of a new call (R118) -/

/-- The id above an id other than 0, counted from 1 round to 255. -/
theorem nextCallId_iterate {id : CallId} (h : id ≠ 0) (k : Nat) :
    (nextCallId^[k] id).toNat = (id.toNat - 1 + k) % 255 + 1 := by
  have hp : 0 < id.toNat := Nat.pos_of_ne_zero fun h0 => h (BitVec.eq_of_toNat_eq h0)
  have hlt := id.isLt
  induction k with
  | zero => simp only [Function.iterate_zero, id_eq]; omega
  | succ k ih =>
    rw [Function.iterate_succ_apply']
    generalize nextCallId^[k] id = j at ih
    unfold nextCallId
    split
    case isTrue hj =>
      have : j.toNat = 255 := by rw [hj]; rfl
      show 1 = _
      omega
    case isFalse hj =>
      have hne : j.toNat ≠ 255 := fun h255 => hj (BitVec.eq_of_toNat_eq h255)
      have := j.isLt
      have h1 : (1 : CallId).toNat = 1 := rfl
      rw [BitVec.toNat_add_of_lt (by omega)]
      omega

theorem nextCallId_ne_zero (id : CallId) : nextCallId id ≠ 0 := by
  unfold nextCallId
  split
  case isTrue => decide
  case isFalse h => bv_omega

/-- An id that no call holds, when none is found for it. -/
theorem State.findCall_none {s : State} {id : CallId} (h : s.findCall id = none) {i : Fin 128} {c : Call}
    (hc : s.calls.get i = some c) : c.id ≠ id := by
  simpa [hc] using Table.find?_none h i

theorem State.findCall_some {s : State} {id : CallId} {i : Fin 128} (h : s.findCall id = some i) :
    ∃ c, s.calls.get i = some c ∧ c.id = id := by
  have hp := Table.find?_passes h
  cases hc : s.calls.get i with
  | none => simp [hc] at hp
  | some c => exact ⟨c, rfl, by simpa [hc] using hp⟩

/-- A search that ends on an id in use has passed only ids in use. -/
theorem State.searchId_used {s : State} {fuel : Nat} {id : CallId} (h : s.findCall (s.searchId fuel id) ≠ none) :
    ∀ k ≤ fuel, s.findCall (nextCallId^[k] id) ≠ none := by
  induction fuel generalizing id with
  | zero =>
    rintro k hk
    obtain rfl := Nat.le_zero.mp hk
    exact h
  | succ fuel ih =>
    unfold State.searchId at h
    split at h
    case isTrue hn => exact absurd (Option.isNone_iff_eq_none.mp hn) h
    case isFalse hn =>
      rintro (_ | k) hk
      · exact fun h0 => hn (Option.isNone_iff_eq_none.mpr h0)
      · rw [Function.iterate_succ_apply]
        exact ih h k (Nat.le_of_succ_le_succ hk)

/-- The 128 entries of the call table cannot hold 129 ids in a row, so the search ends on a free one. -/
theorem State.freshId_free (s : State) : s.findCall s.freshId = none := by
  by_contra h
  have used : ∀ k : Fin 129, ∃ i, s.findCall (nextCallId^[k.val] (nextCallId s.nextId)) = some i := fun k =>
    Option.ne_none_iff_exists'.mp (State.searchId_used h k.val (by omega))
  choose slot hslot using used
  obtain ⟨j, k, hjk, heq⟩ := Fintype.exists_ne_map_eq_of_card_lt slot (by simp)
  obtain ⟨c, hc, hcj⟩ := State.findCall_some (hslot j)
  obtain ⟨d, hd, hdk⟩ := State.findCall_some (hslot k)
  obtain rfl := Option.some.inj (hc.symm.trans (heq ▸ hd))
  have := congrArg BitVec.toNat (hcj.symm.trans hdk)
  simp only [nextCallId_iterate (nextCallId_ne_zero _)] at this
  exact hjk (Fin.ext (by omega))

theorem State.searchId_ne_zero (s : State) (fuel : Nat) {id : CallId} (h : id ≠ 0) : s.searchId fuel id ≠ 0 := by
  induction fuel generalizing id with
  | zero => exact h
  | succ fuel ih =>
    unfold State.searchId
    split
    · exact h
    · exact ih (nextCallId_ne_zero id)

theorem State.freshId_ne_zero (s : State) : s.freshId ≠ 0 := s.searchId_ne_zero 128 (nextCallId_ne_zero _)

/-! ## A call created (R119) -/

theorem State.entry_createCall_putPort {s : State} {c : Call} {e : Entry} (he : s.entry? c.ext = some e) (slot : Fin 128)
    (r : PortRec) (jx : ExtIx) : ((s.createCall slot c).putPort c.port r).entry? jx =
      if jx = c.ext then some { e with liveCall := some c.id } else s.entry? jx := by
  have created : (s.createCall slot c).entry? jx = if jx = c.ext then (s.entry? c.ext).map (fun e =>
      { e with liveCall := some c.id }) else s.entry? jx := State.entry_modEntry _ _ _ _
  rw [State.entry_putPort, created, he]
  rfl

theorem State.port_createCall_putPort (s : State) (slot : Fin 128) (c : Call) (r : PortRec) (q : Port) :
    ((s.createCall slot c).putPort c.port r).port q = if q = c.port then r else s.port q := by
  rw [State.port_putPort]
  split
  case isTrue => rfl
  case isFalse hq => exact (State.port_putPort _ _ _ _).trans (if_neg hq)

/-- A call may be created for an ADMITTED entry without a live call, its port going into a call's dial state. -/
theorem State.wired.createCall {s : State} (h : s.wired) {slot : Fin 128} {c : Call} {e : Entry} {r : PortRec}
    (he : s.entry? c.ext = some e) (ha : e.state = .admitted) (hb : e.bound = some c.port) (hl : e.liveCall = none)
    (h0 : c.id ≠ 0) (hid : s.findCall c.id = none) (hr : r.bound = some c.ext)
    (hd : r.dial.inCallStates) : ((s.createCall slot c).putPort c.port r).wired := by
  have entries := State.entry_createCall_putPort he slot r
  have ports := s.port_createCall_putPort slot c r
  have calls : ∀ i, ((s.createCall slot c).putPort c.port r).calls.get i =
      if i = slot then some c else s.calls.get i := fun i => Table.get_set _ _ _ _
  generalize (s.createCall slot c).putPort c.port r = t at entries ports calls
  have seat := h.portOfEntry c.ext e c.port he hb
  have w := h.fields c.ext e he
  have before : ∀ {jx f}, t.entry? jx = some f → (jx = c.ext ∧ f = { e with liveCall := some c.id }) ∨
      jx ≠ c.ext ∧ s.entry? jx = some f := by
    intro jx f hf
    rw [entries] at hf
    split at hf
    case isTrue hx => exact .inl ⟨hx, (Option.some.inj hf).symm⟩
    case isFalse hx => exact .inr ⟨hx, hf⟩
  have challenged : ∀ {jx f k}, t.entry? jx = some f → f.challenge = some k →
      ∃ g, s.entry? jx = some g ∧ g.challenge = some k := by
    intro jx f k hf hk
    rcases before hf with ⟨rfl, rfl⟩ | ⟨_, hf⟩
    · exact ⟨e, he, hk⟩
    · exact ⟨f, hf, hk⟩
  have bound : ∀ q, (t.port q).bound = (s.port q).bound := by
    intro q
    rw [ports]
    split
    case isTrue hq => rw [hr, hq, seat]
    case isFalse => rfl
  constructor
  case fields =>
    intro jx f hf
    rcases before hf with ⟨_, rfl⟩ | ⟨_, hf⟩
    · exact ⟨w.bound, w.challenge, w.lock, fun _ => ha, fun ho => by simp⟩
    · exact h.fields jx f hf
  case portOfEntry =>
    intro jx f q hf hq
    rw [bound]
    rcases before hf with ⟨rfl, rfl⟩ | ⟨_, hf⟩
    · exact h.portOfEntry c.ext e q he hq
    · exact h.portOfEntry jx f q hf hq
  case entryOfPort =>
    intro q jx hq
    obtain ⟨f, hf, hfq⟩ := h.entryOfPort q jx (bound q ▸ hq)
    rw [entries]
    split
    case isTrue hx =>
      obtain rfl := Option.some.inj ((hx ▸ hf).symm.trans he)
      exact ⟨_, rfl, hfq⟩
    case isFalse => exact ⟨f, hf, hfq⟩
  case challengedPort =>
    intro jx f k hf hk
    obtain ⟨g, hg, hgk⟩ := challenged hf hk
    rw [bound]
    exact h.challengedPort jx g k hg hgk
  case oneChallenge =>
    intro jx kx f g k m hf hg hk hm hkm
    obtain ⟨f', hf', hk'⟩ := challenged hf hk
    obtain ⟨g', hg', hm'⟩ := challenged hg hm
    exact h.oneChallenge jx kx f' g' k m hf' hg' hk' hm' hkm
  case dialling =>
    intro q hq
    rw [ports] at hq
    split at hq
    case isTrue => simp [hq, DialState.inCallStates] at hd
    case isFalse hqp =>
      obtain ⟨jx, f, hfb, hf, hfa⟩ := h.dialling q hq
      refine ⟨jx, f, (bound q).trans hfb, ?_, hfa⟩
      rw [entries, if_neg fun hx => hqp ?_, hf]
      exact (h.bound_iff he hb q).mp (hx ▸ hfb)
  case liveDial =>
    intro jx f q hf hl' hq
    rw [ports]
    split
    case isTrue => exact hd
    case isFalse hqp =>
      rcases before hf with ⟨_, rfl⟩ | ⟨_, hf⟩
      · exact absurd (Option.some.inj (hq.symm.trans hb)) hqp
      · exact h.liveDial jx f q hf hl' hq
  case idNonzero =>
    intro i k hk
    rw [calls] at hk
    split at hk
    case isTrue => exact Option.some.inj hk ▸ h0
    case isFalse => exact h.idNonzero i k hk
  case idDistinct =>
    intro i j k m hk hm hkm
    rw [calls] at hk hm
    split at hk <;> split at hm
    case isTrue.isTrue hi hj => rw [hi, hj]
    case isTrue.isFalse => exact absurd (hkm.symm.trans (Option.some.inj hk ▸ rfl)) (State.findCall_none hid hm)
    case isFalse.isTrue => exact absurd (hkm.trans (Option.some.inj hm ▸ rfl)) (State.findCall_none hid hk)
    case isFalse.isFalse => exact h.idDistinct i j k m hk hm hkm
  case callEntry =>
    intro i k hk
    rw [calls] at hk
    split at hk
    case isTrue =>
      obtain rfl := Option.some.inj hk
      exact ⟨_, (entries _).trans (if_pos rfl), rfl, hb⟩
    case isFalse =>
      obtain ⟨f, hf, hfl, hfb⟩ := h.callEntry i k hk
      refine ⟨f, (entries _).trans ((if_neg fun hx => ?_).trans hf), hfl, hfb⟩
      obtain rfl := Option.some.inj ((hx ▸ hf).symm.trans he)
      simp [hl] at hfl

/-! ## The end of a call (R137) -/

/-- `t` is `s` once a call is over: the call is out of the table, its extension has no live call and is bound at the call's
port or nowhere, and the port is in no call's dial state. -/
structure State.closes (c : Call) (s t : State) : Prop where
  others : ∀ jx, jx ≠ c.ext → t.entry? jx = s.entry? jx
  own : ∃ d, t.entry? c.ext = some d ∧ d.fieldsWell ∧ d.challenge = none ∧ d.liveCall = none ∧
    (d.bound = some c.port ∧ (t.port c.port).bound = some c.ext ∨ d.bound = none ∧ (t.port c.port).bound = none)
  dial : (t.port c.port).dial ≠ .dialling
  ports : ∀ p, p ≠ c.port → t.port p = s.port p
  calls : ∀ i k, t.calls.get i = some k → s.calls.get i = some k ∧ k.id ≠ c.id

/-- The end of a call of the table keeps the wiring. -/
theorem State.closes.wired {c : Call} {s t : State} (z : s.closes c t) (h : s.wired) {i : Fin 128}
    (hc : s.calls.get i = some c) : t.wired := by
  obtain ⟨others, ⟨d, hd, hw, hdc, hdl, seat⟩, dial, ports, calls⟩ := z
  obtain ⟨e, he, hl, hb⟩ := h.callEntry i c hc
  have own : ∀ {f}, t.entry? c.ext = some f → f = d := fun hf => Option.some.inj (hf.symm.trans hd)
  have elsewhere : ∀ {q jx}, (s.port q).bound = some jx → jx ≠ c.ext → t.port q = s.port q := fun {q jx} hq hx =>
    ports q fun hqp => hx (Option.some.inj (hq.symm.trans (hqp ▸ h.portOfEntry c.ext e c.port he hb)))
  have challenged : ∀ {jx f k}, t.entry? jx = some f → f.challenge = some k → s.entry? jx = some f := by
    intro jx f k hf hk
    rw [← others jx fun hx => ?_]
    · exact hf
    · simp [own (hx ▸ hf), hdc] at hk
  constructor
  case fields =>
    intro jx f hf
    by_cases hx : jx = c.ext
    · exact own (hx ▸ hf) ▸ hw
    · exact h.fields jx f (others jx hx ▸ hf)
  case portOfEntry =>
    intro jx f q hf hq
    by_cases hx : jx = c.ext
    · obtain rfl := own (f := f) (hx ▸ hf)
      rcases seat with ⟨hdb, hp⟩ | ⟨hdb, _⟩
      · rw [← Option.some.inj (hdb.symm.trans hq), hp, hx]
      · simp [hdb] at hq
    · have hp := h.portOfEntry jx f q (others jx hx ▸ hf) hq
      rw [elsewhere hp hx, hp]
  case entryOfPort =>
    intro q jx hq
    by_cases hqp : q = c.port
    · subst hqp
      rcases seat with ⟨hdb, hp⟩ | ⟨_, hp⟩
      · obtain rfl := Option.some.inj (hp.symm.trans hq)
        exact ⟨d, hd, hdb⟩
      · simp [hp] at hq
    · rw [ports q hqp] at hq
      obtain ⟨f, hf, hfq⟩ := h.entryOfPort q jx hq
      refine ⟨f, (others jx fun hx => hqp ?_).trans hf, hfq⟩
      exact (h.bound_iff he hb q).mp (hx ▸ hq)
  case challengedPort =>
    intro jx f k hf hk
    have hq := h.challengedPort jx f k (challenged hf hk) hk
    rw [ports k.port fun hp => ?_, hq]
    simp [hp, h.portOfEntry c.ext e c.port he hb] at hq
  case oneChallenge =>
    intro jx kx f g k m hf hg hk hm hkm
    exact h.oneChallenge jx kx f g k m (challenged hf hk) (challenged hg hm) hk hm hkm
  case dialling =>
    intro q hq
    have hqp : q ≠ c.port := fun hqp => dial (hqp ▸ hq)
    rw [ports q hqp] at hq ⊢
    obtain ⟨jx, f, hfb, hf, hfa⟩ := h.dialling q hq
    exact ⟨jx, f, hfb, (others jx fun hx => hqp ((h.bound_iff he hb q).mp (hx ▸ hfb))).trans hf, hfa⟩
  case liveDial =>
    intro jx f q hf hfl hq
    by_cases hx : jx = c.ext
    · simp [own (hx ▸ hf), hdl] at hfl
    · have hf' := others jx hx ▸ hf
      rw [elsewhere (h.portOfEntry jx f q hf' hq) hx]
      exact h.liveDial jx f q hf' hfl hq
  case idNonzero => exact fun j k hk => h.idNonzero j k (calls j k hk).1
  case idDistinct => exact fun j m k n hk hn => h.idDistinct j m k n (calls j k hk).1 (calls m n hn).1
  case callEntry =>
    intro j k hk
    obtain ⟨hk', hkc⟩ := calls j k hk
    obtain ⟨f, hf, hfl, hfb⟩ := h.callEntry j k hk'
    refine ⟨f, (others k.ext fun hx => hkc ?_).trans hf, hfl, hfb⟩
    obtain rfl := Option.some.inj ((hx ▸ hf).symm.trans he)
    exact Option.some.inj (hfl.symm.trans hl)

theorem PortRec.callEnded_dial (r : PortRec) : r.callEnded.dial ≠ .dialling := by
  unfold PortRec.callEnded
  cases r.hook <;> exact nofun

/-- Freeing contexts changes neither the directory, nor the ports, nor the calls (R137, step 2). -/
theorem State.freeContexts_wires (cs : List CtxId) (s : State) : (s.freeContexts cs).directory = s.directory ∧
    (s.freeContexts cs).ports = s.ports ∧ (s.freeContexts cs).calls = s.calls := by
  unfold State.freeContexts
  induction cs generalizing s with
  | nil => exact ⟨rfl, rfl, rfl⟩
  | cons x cs ih => exact ih (s.freeContext x)

/-- Step 6 of R137 leaves every call but those of the id. -/
theorem State.freeCall_calls {s : State} {id : CallId} (distinct : ∀ i j c d, s.calls.get i = some c →
    s.calls.get j = some d → c.id = d.id → i = j) {i : Fin 128} {k : Call}
    (hk : (s.freeCall id).calls.get i = some k) : s.calls.get i = some k ∧ k.id ≠ id := by
  unfold State.freeCall at hk
  split at hk
  case h_2 hn => exact ⟨hk, State.findCall_none hn hk⟩
  case h_1 slot hs =>
    rw [State.putCall_calls, Table.get_set] at hk
    split at hk
    case isTrue => cases hk
    case isFalse hi =>
      obtain ⟨d, hd, hdid⟩ := State.findCall_some hs
      exact ⟨hk, fun hid => hi (distinct i slot k d hk hd (hid.trans hdid.symm))⟩

theorem State.freeCall_entry (s : State) (id : CallId) (ix : ExtIx) : (s.freeCall id).entry? ix = s.entry? ix := by
  unfold State.freeCall
  split <;> rfl

theorem State.freeCall_port (s : State) (id : CallId) (p : Port) : (s.freeCall id).port p = s.port p := by
  unfold State.freeCall
  split <;> rfl

/-- The call leaves the table last (R137, step 6). -/
theorem State.wired.freeCall_closes {s t : State} (h : s.wired) {c : Call} (others : ∀ jx, jx ≠ c.ext → t.entry? jx = s.entry? jx)
    {d : Entry} (own : t.entry? c.ext = some d) (fields : d.fieldsWell ∧ d.challenge = none ∧ d.liveCall = none)
    (seat : d.bound = some c.port ∧ (t.port c.port).bound = some c.ext ∨ d.bound = none ∧ (t.port c.port).bound = none)
    (dial : (t.port c.port).dial ≠ .dialling) (ports : ∀ p, p ≠ c.port → t.port p = s.port p) (calls : t.calls = s.calls) :
    s.closes c (t.freeCall c.id) where
  others jx hx := (State.freeCall_entry t c.id jx).trans (others jx hx)
  own := ⟨d, (State.freeCall_entry t c.id _).trans own, fields.1, fields.2.1, fields.2.2,
    (State.freeCall_port t c.id c.port).symm ▸ seat⟩
  dial := (State.freeCall_port t c.id c.port).symm ▸ dial
  ports p hp := (State.freeCall_port t c.id p).trans (ports p hp)
  calls _ _ hk := calls ▸ State.freeCall_calls (s := t) (calls ▸ h.idDistinct) hk

/-- The last two steps of R137, on a state whose port and entry have let the call go: the entry stays bound, or a deferred
lapse releases it (R82). -/
theorem State.wired.deferredLapse_closes {s t : State} (h : s.wired) {c : Call} {e : Entry} {i : Fin 128}
    (hc : s.calls.get i = some c) (he : s.entry? c.ext = some e)
    (entries : ∀ jx, t.entry? jx = if jx = c.ext then some { e with liveCall := none } else s.entry? jx)
    (ports : ∀ p, t.port p = if p = c.port then (s.port c.port).callEnded else s.port p) (calls : t.calls = s.calls) :
    s.closes c ((t.deferredLapse c.ext).freeCall c.id) := by
  obtain ⟨d, hd, hl, hb⟩ := h.callEntry i c hc
  obtain rfl := Option.some.inj (hd.symm.trans he)
  obtain ⟨ha, _, hch, hk⟩ := (h.fields c.ext d he).of_live (by simp [hl])
  have seat := h.portOfEntry c.ext d c.port he hb
  have here : t.entry? c.ext = some { d with liveCall := none } := by simp [entries]
  unfold State.deferredLapse
  simp only [here]
  cases ho : d.overdue with
  | none =>
    refine h.freeCall_closes (fun jx hx => by rw [entries, if_neg hx]) here ⟨?_, hch, rfl⟩ (.inl ⟨hb, ?_⟩) ?_
      (fun p hp => by rw [ports, if_neg hp]) calls
    · constructor <;> simp [ha, hb, hch, hk, ho]
    · rw [ports, if_pos rfl]
      exact seat
    · rw [ports, if_pos rfl]
      exact PortRec.callEnded_dial _
  | some cause =>
    have quiet : ((t.releaseBinding c.ext).modEntry c.ext (fun e => { e with state := e.state.lapsed })).unchallenged
        c.port := by
      rw [State.releaseBinding_bound here hb]
      intro jx f k hf hk
      simp only [State.entry_modEntry, State.entry_putPort, State.entry_putEntry, entries, if_true, Option.map_some] at hf
      split_ifs at hf with hx
      · cases hf
        cases hch.symm.trans hk
      · exact h.unchallenged seat jx f k hf hk
    have lapse : t.lapse c.ext cause = (((t.releaseBinding c.ext).modEntry c.ext
        (fun e => { e with state := e.state.lapsed })).offer c.port (.notice .reregister)).raise
          (.lapsed c.ext c.port cause) := by
      simp [State.lapse, here, hb]
    have own : (t.lapse c.ext cause).entry? c.ext =
        some { d with liveCall := none, bound := none, refresh := none, refreshDue := false, overdue := none,
                      state := .unbound } := by
      rw [lapse, State.entry_raise, quiet.entry_offer, State.releaseBinding_bound here hb]
      simp [Entry.released, ha, AdmissionState.lapsed]
    refine h.freeCall_closes (t := t.lapse c.ext cause) (fun jx hx => ?_) own
      ⟨.unbound rfl rfl hch hk rfl rfl, hch, rfl⟩ (.inr ⟨rfl, ?_⟩) ?_ (fun p hp => ?_) ?_
    · rw [lapse, State.entry_raise, quiet.entry_offer, State.releaseBinding_bound here hb]
      simp [hx, entries]
    · rw [lapse, State.releaseBinding_bound here hb]
      simp [State.modEntry]
    · rw [lapse, State.releaseBinding_bound here hb]
      simp [State.modEntry, PortRec.unbind_dial]
    · rw [lapse, State.releaseBinding_bound here hb]
      simp [State.modEntry, hp, ports]
    · rw [lapse, State.releaseBinding_bound here hb]
      simp [State.modEntry, calls]

/-- A call's notice goes to a bound port, where no challenge is pending, so that it leaves the directory as it is. -/
theorem State.unchallenged.entry_endNotice {s : State} {p : Port} (h : s.unchallenged p) (n : Option NoticeReason)
    (ix : ExtIx) : (s.endNotice p n).entry? ix = s.entry? ix := by
  unfold State.endNotice
  split
  · exact h.entry_offer _ _
  · rfl

theorem State.endNotice_port (p : Port) (n : Option NoticeReason) (s : State) (q : Port) :
    (s.endNotice p n).port q = s.port q := by
  unfold State.endNotice
  split <;> simp

theorem State.endNotice_calls (p : Port) (n : Option NoticeReason) (s : State) : (s.endNotice p n).calls = s.calls := by
  unfold State.endNotice
  split <;> simp

/-- The end of a call of the table, with or without a notice. -/
theorem State.wired.endCall {s : State} (h : s.wired) {i : Fin 128} {c : Call} (hc : s.calls.get i = some c)
    (notice : Option NoticeReason) : (s.endCall c notice).wired := by
  obtain ⟨hd, hp, hcs⟩ := State.freeContexts_wires c.contexts (s.removePaths c.id)
  unfold State.endCall
  dsimp only
  have h' : ((s.removePaths c.id).freeContexts c.contexts).wired := State.kin.wired (s := s) (.of_eq hd hp hcs) h
  have hc' : ((s.removePaths c.id).freeContexts c.contexts).calls.get i = some c := hcs ▸ hc
  generalize (s.removePaths c.id).freeContexts c.contexts = u at h' hc'
  obtain ⟨e, he, _, hb⟩ := h'.callEntry i c hc'
  have r : u.rewrites c.ext (some { e with liveCall := none })
      (u.modEntry c.ext (fun e => { e with liveCall := none })) := by
    rw [State.modEntry_eq, he]
    exact .putEntry _ _ _
  have quiet : (u.modEntry c.ext (fun e => { e with liveCall := none })).unchallenged c.port :=
    h'.unchallenged_rewrites r he (by rintro d k ⟨⟩ hk; exact hk) (by simp [h'.portOfEntry c.ext e c.port he hb])
  refine State.closes.wired (h'.deferredLapse_closes hc' he (fun jx => ?_) (fun p => ?_) ?_) h' hc'
  · exact (State.unchallenged.entry_endNotice (s := State.modEntry _ _ (u.putPort _ _)) quiet notice jx).trans (r.entry jx)
  · rw [State.endNotice_port]
    simp [State.modEntry]
  · rw [State.endNotice_calls]
    rfl

end Sys2Proof.Machine

namespace Sys2Proof.Machine

/-! ## Keys, connections and key waits (spec/07, spec/08) -/

namespace State.kin

theorem keyStation (c : CtxId) (k : Key) (s : State) : s.kin (s.keyStation c k) := by
  unfold State.keyStation
  split
  case h_1 => exact refl s
  case h_2 =>
    split
    case h_1 => exact refl s
    case h_2 =>
      split
      case h_1 => exact refl s
      case h_2 => exact ((spendNonce s).trans (putContext _ _ _)).trans (offer _ _ _)

theorem completeServed (c : CtxId) (s : State) : s.kin (s.completeServed c) := by
  unfold State.completeServed
  split
  case h_1 => exact refl s
  case h_2 => exact (modCall (fun _ => by exact ⟨rfl, rfl, rfl⟩) _ s).trans (raise _ _)

theorem deliver (own : Option CtxId) (c : CtxId) (rest : List WaitItem) (s : State) : s.kin (s.deliver own c rest) := by
  have k : s.kin { s with
      ring := s.ring.set s.pointer RingSlot.empty, pointer := ringAhead s.pointer 1, waitQueue := rest } :=
    of_eq rfl rfl rfl
  unfold State.deliver
  dsimp only
  split
  case isTrue => exact k.trans (keyStation _ _ _)
  case isFalse => exact (k.trans (keyStation _ _ _)).trans (completeServed _ _)

theorem serveQueue (own : Option CtxId) (ws : List WaitItem) (s : State) : s.kin (s.serveQueue own ws) := by
  induction ws generalizing s with
  | nil => exact refl s
  | cons w rest ih =>
    unfold State.serveQueue
    split
    case isTrue => exact (deliver _ _ _ s).trans (ih _)
    case isFalse => exact refl s

theorem servingPass (own : Option CtxId) (s : State) : s.kin (s.servingPass own) := by
  have k : ∀ t : State, t.kin t.endPass := by
    intro t
    unfold State.endPass
    split
    case isTrue => exact of_eq rfl rfl rfl
    case isFalse => exact of_eq rfl rfl rfl
  exact (serveQueue own _ s).trans (k _)

theorem drawDemand (c : CtxId) (limit : Nat) (s : State) : s.kin (s.drawDemand c limit) := by
  have k : s.kin { s.putContext c { s.context c with state := .keyWait } with
      waitQueue := s.waitQueue ++ [WaitItem.mk c limit] } := of_eq rfl rfl rfl
  unfold State.drawDemand
  dsimp only
  split
  case h_1 => exact k
  case h_2 => exact k.trans (servingPass _ _)
  case h_3 => exact k.trans (servingPass _ _)

theorem allocate (id : CallId) (c : CtxId) (plan : CtxPlan) (s : State) : s.kin (s.allocate id c plan) := by
  unfold State.allocate
  split <;> exact putContext _ _ s

theorem settleCall (id : CallId) (ids : List CtxId) (s : State) : s.kin (s.settleCall id ids) := by
  unfold State.settleCall
  split <;> exact modCall (fun _ => by exact ⟨rfl, rfl, rfl⟩) _ s

/-- A port that goes into a call's dial state, whatever it was in. -/
theorem dialInCall (p : Port) (s : State) : s.kin (s.putPort p { s.port p with dial := .inCall }) :=
  putPort ⟨rfl, nofun, fun _ => .inr (.inr rfl)⟩

/-- An accepted CONNECT CALL moves no wire: the call, its extension and its port stand already (R127, R128). -/
theorem connect (c : Call) (paths : List PathPlan) (ctxs : List CtxPlan) (s : State) : s.kin (s.connect c paths ctxs) := by
  have demand : ∀ (s : State) (p : CtxId × CtxPlan),
      s.kin (if p.2.isStation then s.drawDemand p.1 (s.keyWaitLimitOf c.ext) else s) := by
    intro s p
    split
    case isTrue => exact drawDemand _ _ s
    case isFalse => exact refl s
  have install : ∀ (s : State) ids, s.kin (s.installPaths c.id ids paths) := fun s ids => of_eq rfl rfl rfl
  unfold State.connect
  dsimp only
  refine trans ?_ (dialInCall _ _)
  refine trans ?_ (settleCall _ _ _)
  refine trans ?_ (foldl demand _ _)
  refine trans ?_ (install _ _)
  refine trans ?_ (modCall (fun _ => by exact ⟨rfl, rfl, rfl⟩) _ _)
  exact foldl (fun s p => allocate _ _ _ s) _ _

theorem moveCall (c : Call) (state : CallState) (ctxState : CtxState) (s : State) :
    s.kin (s.moveCall c state ctxState) := by
  refine trans (modCall (fun _ => ?_) c.id s) (foldl (fun s x => putContext x _ s) _ _)
  exact ⟨rfl, rfl, rfl⟩

theorem fallBack (x : CtxId) (c : Call) (s : State) : s.kin (s.fallBack x c) := by
  have k : s.kin ((s.freeContext x).retransform x) := of_eq rfl rfl rfl
  exact (k.trans (modCall (fun _ => by exact ⟨rfl, rfl, rfl⟩) _ _)).trans (raise _ _)

end State.kin

/-- A call found by its id is one of the call table. -/
theorem State.call?_some {s : State} {id : CallId} {c : Call} (h : s.call? id = some c) :
    ∃ i, s.calls.get i = some c := by
  unfold State.call? at h
  split at h
  case h_1 i _ => exact ⟨i, h⟩
  case h_2 => cases h

theorem State.wired.failCall {s : State} (h : s.wired) {i : Fin 128} {c : Call} (hc : s.calls.get i = some c) :
    (s.failCall c).wired :=
  State.wired.endCall ((State.kin.raise _ _).wired h) (i := i) hc _

theorem State.wired.applyPolicy {s : State} (h : s.wired) (x : CtxId) : (s.applyPolicy x).wired := by
  unfold State.applyPolicy
  split
  case h_1 => exact h
  case h_2 =>
    split
    case h_1 => exact h
    case h_2 c hc =>
      obtain ⟨i, hi⟩ := State.call?_some hc
      split
      case h_1 => exact (State.kin.fallBack x c s).wired h
      case h_2 => exact h.failCall hi

/-! ## Hooks, digits and calls (spec/05, spec/07) -/

/-- A port in a DIALLING state has an ADMITTED entry, bound there and without a live call. -/
theorem State.wired.of_dialling {s : State} (h : s.wired) {p : Port} (hp : (s.port p).dial = .dialling) :
    ∃ ix e, (s.port p).bound = some ix ∧ s.entry? ix = some e ∧ e.state = .admitted ∧ e.bound = some p ∧
      e.liveCall = none := by
  obtain ⟨ix, e, hb, he, ha⟩ := h.dialling p hp
  obtain ⟨d, hd, hdp⟩ := h.entryOfPort p ix hb
  obtain rfl := Option.some.inj (hd.symm.trans he)
  refine ⟨ix, d, hb, he, ha, hdp, ?_⟩
  by_contra hl
  simpa [hp, DialState.inCallStates] using h.liveDial ix d p he (Option.isSome_iff_ne_none.mpr hl) hdp

/-- The IDLE port of an ADMITTED entry may go into any dial state. -/
theorem State.wired.putPort_idle {s : State} (h : s.wired) {p : Port} {r : PortRec} {ix : ExtIx} {e : Entry}
    (hp : (s.port p).dial = .idle) (hb : (s.port p).bound = some ix) (he : s.entry? ix = some e)
    (ha : e.state = .admitted) (hr : r.bound = some ix) : (s.putPort p r).wired := by
  obtain ⟨d, hd, hdp⟩ := h.entryOfPort p ix hb
  obtain rfl := Option.some.inj (hd.symm.trans he)
  have bound : ∀ q, ((s.putPort p r).port q).bound = (s.port q).bound := by
    intro q
    rw [State.port_putPort]
    split
    case isTrue hq => rw [hr, hq, hb]
    case isFalse => rfl
  constructor
  case fields => exact h.fields
  case portOfEntry => simpa only [State.entry_putPort, bound] using h.portOfEntry
  case entryOfPort => simpa only [State.entry_putPort, bound] using h.entryOfPort
  case challengedPort => simpa only [State.entry_putPort, bound] using h.challengedPort
  case oneChallenge => exact h.oneChallenge
  case dialling =>
    intro q hq
    by_cases hqp : q = p
    · exact ⟨ix, d, (bound q).trans (hqp ▸ hb), he, ha⟩
    · rw [State.port_putPort, if_neg hqp] at hq ⊢
      exact h.dialling q hq
  case liveDial =>
    intro jx f q hf hl hq
    have hd := h.liveDial jx f q hf hl hq
    rw [State.port_putPort, if_neg fun hqp => ?_]
    · exact hd
    · simp [hqp, hp, DialState.inCallStates] at hd
  case idNonzero => exact h.idNonzero
  case idDistinct => exact h.idDistinct
  case callEntry => exact h.callEntry

/-- A DIALLING port that leaves its attempt for any other dial state. -/
theorem PortRec.kin.of_dialling {r q : PortRec} (hr : r.dial = .dialling) (hb : q.bound = r.bound)
    (hq : q.dial ≠ .dialling) : r.kin q :=
  ⟨hb, fun h => absurd h hq, fun h => by simp [hr, DialState.inCallStates] at h⟩

theorem State.wired.startDialling {s : State} (h : s.wired) {p : Port} (hp : (s.port p).dial = .idle) :
    (s.startDialling p).wired := by
  unfold State.startDialling
  split
  case h_1 => exact (State.kin.deny _ _ _ s).wired h
  case h_2 ix hb =>
    split
    case h_1 ha =>
      obtain ⟨e, he, hea⟩ := Option.map_eq_some_iff.mp ha
      exact h.putPort_idle hp hb he hea hb
    case h_2 => exact (State.kin.deny _ _ _ s).wired h
    case h_3 => exact (State.kin.deny _ _ _ s).wired h

theorem State.kin.answerCall {p : Port} {s : State} : s.kin (s.answerCall p) := by
  unfold State.answerCall
  dsimp only
  split
  case h_1 => exact (dialInCall p s).trans (raise _ _)
  case h_2 => exact dialInCall p s

theorem State.wired.offHookBlock {s : State} (h : s.wired) (p : Port) : (s.offHookBlock p).wired := by
  have k : s.kin (s.putPort p { s.port p with hook := .off }) := .putPort ⟨rfl, id, id⟩
  unfold State.offHookBlock
  dsimp only
  split
  case h_1 hd => exact (k.wired h).startDialling (by simpa using hd)
  case h_2 => exact State.kin.answerCall.wired (k.wired h)
  all_goals exact k.wired h

theorem State.kin.hangUp (p : Port) (s : State) : s.kin (s.hangUp p) := by
  unfold State.hangUp
  split
  case h_1 => exact raise _ s
  case h_2 => exact refl s

theorem State.kin.onHookBlock (p : Port) (s : State) : s.kin (s.onHookBlock p) := by
  have k : s.kin (s.putPort p { s.port p with hook := .on }) := putPort ⟨rfl, id, id⟩
  unfold State.onHookBlock
  dsimp only
  split
  case h_1 hd => exact putPort (.of_dialling hd rfl nofun)
  case h_2 hd => exact putPort ⟨rfl, nofun, fun hc => by simp [hd, DialState.inCallStates] at hc⟩
  case h_3 => exact k.trans (hangUp p _)
  case h_4 => exact k.trans (hangUp p _)
  case h_5 => exact k
  case h_6 => exact k

/-- A block offered for a DIALLING port whose attempt then ends BLOCKED (R90, R99, R101). -/
theorem State.kin.blockDialling {p : Port} {s : State} (hp : (s.port p).dial = .dialling) (b : OutBlock) :
    s.kin ((s.offer p b).putPort p ((s.port p).ended .blocked)) := by
  refine (offer p b s).trans (putPort ?_)
  rw [State.offer_port]
  exact .of_dialling hp rfl nofun

theorem State.createCall_bound (slot : Fin 128) (c : Call) (s : State) :
    ((s.createCall slot c).port c.port).bound = (s.port c.port).bound := by
  simp only [State.createCall, State.port_putPort, if_true, State.modEntry, State.port_putEntry]
  rfl

theorem State.wired.requestCall {s : State} (h : s.wired) {p : Port} {ix : ExtIx} (hp : (s.port p).dial = .dialling)
    (hb : (s.port p).bound = some ix) (v : Verdict) (deciding : Option ScreenNo) (ds : List Digit) :
    (s.requestCall p ix v deciding ds).wired := by
  unfold State.requestCall
  split
  case h_1 => exact ((State.kin.blockDialling hp _).trans (State.kin.raise _ _)).wired h
  case h_2 slot _ =>
    obtain ⟨jx, e, hj, he, ha, hep, hl⟩ := h.of_dialling hp
    obtain rfl := Option.some.inj (hj.symm.trans hb)
    refine (State.kin.raise _ _).wired (h.createCall (c := .fresh s.freshId .requested .station p jx ds v) he ha hep hl
      s.freshId_ne_zero s.freshId_free ?_ (.inl rfl))
    exact (State.createCall_bound slot _ s).trans hb

theorem State.wired.evaluate {s : State} (h : s.wired) {p : Port} (hp : (s.port p).dial = .dialling) (ds : List Digit) :
    (s.evaluate p ds).wired := by
  unfold State.evaluate
  split
  case h_1 => exact h
  case h_2 ix hb =>
    split
    case h_1 => exact h
    case h_2 =>
      dsimp only
      split
      case h_1 => exact ((State.kin.blockDialling hp _).trans (State.kin.raise _ _)).wired h
      all_goals exact h.requestCall hp hb _ _ _

theorem State.wired.digitsBlock {s : State} (h : s.wired) (p : Port) (endFlag : Bool) (codes : List Digit) :
    (s.digitsBlock p endFlag codes).wired := by
  unfold State.digitsBlock
  dsimp only
  split
  case isFalse => exact h
  case isTrue hp =>
    have k : s.kin (s.putPort p { s.port p with
        buffer := collect (s.port p).buffer codes, interdigit := some s.interdigitLimit }) := .putPort ⟨rfl, id, id⟩
    split
    case isTrue => exact (k.wired h).evaluate (by simpa using hp) _
    case isFalse => exact k.wired h

theorem State.wired.interdigitEnd {s : State} (h : s.wired) (p : Port) : (s.interdigitEnd p).wired := by
  unfold State.interdigitEnd
  dsimp only
  split
  case isFalse => exact h
  case isTrue hp =>
    split
    case isTrue => exact (State.kin.blockDialling hp.1 _).wired h
    case isFalse =>
      have k : s.kin (s.putPort p { s.port p with interdigit := none }) := .putPort ⟨rfl, id, id⟩
      exact (k.wired h).evaluate (by simpa using hp.1) _

/-! ## Requests on extensions and calls -/

theorem State.wired.onEntry {s : State} (h : s.wired) (index : Word) {act : ExtIx → Entry → State → State × Answer}
    (ha : ∀ ix e, s.entry? ix = some e → (act ix e s).1.wired) : (s.onEntry index act).1.wired := by
  unfold State.onEntry
  split
  case h_1 => exact h
  case h_2 =>
    split
    case h_1 => exact h
    case h_2 ix e he => exact ha _ e he

theorem State.wired.onCall {s : State} (h : s.wired) (id : CallId) {act : Call → State → State × Answer}
    (ha : ∀ i c, s.calls.get i = some c → (act c s).1.wired) : (s.onCall id act).1.wired := by
  unfold State.onCall
  split
  case h_1 => exact h
  case h_2 c hc =>
    obtain ⟨i, hi⟩ := State.call?_some hc
    exact ha i c hi

theorem State.wired.unlockEntry {s : State} (h : s.wired) {ix : ExtIx} {e : Entry} (he : s.entry? ix = some e) :
    (unlockEntry ix e s).1.wired := by
  unfold Machine.unlockEntry
  split
  case isTrue hs => exact (State.kin.unlock he hs).wired h
  case isFalse => exact h

theorem State.wired.enterAct {s : State} (h : s.wired) (b : EnterBody) : (enterAct b s).1.wired := by
  unfold Machine.enterAct
  split
  case h_1 => exact h
  case h_2 =>
    split
    case isTrue => exact h
    case isFalse => exact h.enter _ _

theorem State.wired.openTo {s : State} (h : s.wired) (ix : ExtIx) (v : Verdict) : (s.openTo ix v).1.wired := by
  unfold State.openTo
  split
  case h_1 => exact h
  case h_2 e he =>
    split
    case isTrue => exact h
    case isFalse =>
      split
      case h_2 => exact h
      case h_1 q ha hb =>
        split
        case isTrue => exact h
        case isFalse hq =>
          split
          case h_1 => exact h
          case h_2 slot _ =>
            refine (State.kin.offer _ _ _).wired (h.createCall (c := .fresh s.freshId .offered .trunk q ix [] v) he ha hb
              (h.live_none he hb (by simpa using hq)) s.freshId_ne_zero s.freshId_free ?_ (.inr (.inl rfl)))
            exact (State.createCall_bound slot _ s).trans (h.portOfEntry ix e q he hb)

theorem State.wired.openCallAct {s : State} (h : s.wired) (index : Word) (v : Byte) : (openCallAct index v s).1.wired := by
  unfold Machine.openCallAct
  split
  case h_2 => exact h
  case h_1 =>
    split
    case isTrue => exact h
    case isFalse => exact h.openTo _ _

theorem State.wired.connectCallAct {s : State} (h : s.wired) (b : ConnectBody) : (connectCallAct b s).1.wired := by
  unfold Machine.connectCallAct
  split
  case h_1 => exact h
  case h_2 c _ =>
    split
    case isTrue => exact h
    case isFalse =>
      split
      case h_1 => exact h
      case h_2 =>
        split
        case h_1 => exact h
        case h_2 => exact (State.kin.connect c _ _ s).wired h

theorem State.wired.refuseCallAct {s : State} (h : s.wired) {i : Fin 128} {c : Call} (hc : s.calls.get i = some c) :
    (refuseCallAct c s).1.wired := by
  unfold Machine.refuseCallAct
  split
  case isTrue => exact h.endCall hc _
  case isFalse => exact h

theorem State.kin.holdCallAct (c : Call) (s : State) : s.kin (holdCallAct c s).1 := by
  unfold Machine.holdCallAct
  split
  case isTrue => exact moveCall c _ _ s
  case isFalse => exact refl s

theorem State.kin.retrieveCallAct (c : Call) (s : State) : s.kin (retrieveCallAct c s).1 := by
  unfold Machine.retrieveCallAct
  split
  case isTrue => exact moveCall c _ _ s
  case isFalse => exact refl s

end Sys2Proof.Machine

namespace Sys2Proof.Machine

/-! ## Requests that touch neither directory, ports nor calls -/

namespace State.kin

theorem setClassAct (b : ClassBody) (s : State) : s.kin (setClassAct b s).1 := by
  unfold Machine.setClassAct
  split
  case h_1 => exact refl s
  case h_2 => exact of_eq rfl rfl rfl

theorem readClassAct (cls : Byte) (s : State) : s.kin (readClassAct cls s).1 := by
  unfold Machine.readClassAct
  split <;> exact refl s

theorem setScreenAct (b : ScreenBody) (s : State) : s.kin (setScreenAct b s).1 := by
  unfold Machine.setScreenAct
  split
  case h_1 => exact refl s
  case h_2 => exact of_eq rfl rfl rfl

theorem readScreenAct (screen : Byte) (s : State) : s.kin (readScreenAct screen s).1 := by
  unfold Machine.readScreenAct
  split <;> exact refl s

theorem sendToStationAct (port : Byte) (body : List Byte) (s : State) : s.kin (sendToStationAct port body s).1 := by
  unfold Machine.sendToStationAct
  dsimp only
  split_ifs
  · exact refl s
  · exact refl s
  · exact refl s
  · exact refl s
  · exact putLoop _ _ s

theorem setInterceptAct (member : Bool) (first last : Byte) (s : State) : s.kin (setInterceptAct member first last s).1 := by
  unfold Machine.setInterceptAct
  split_ifs
  · exact refl s
  · exact refl s
  · exact of_eq rfl rfl rfl

theorem depositKeysAct (b : DepositBody) (s : State) : s.kin (depositKeysAct b s).1 := by
  unfold Machine.depositKeysAct
  split_ifs
  · exact refl s
  · exact refl s
  · exact of_eq rfl rfl rfl

theorem startDrawAct (s : State) : s.kin (startDrawAct s).1 := by
  have k : s.kin { s with supplier := .running } := of_eq rfl rfl rfl
  unfold Machine.startDrawAct
  split
  case h_1 => exact k.trans (servingPass none _)
  case h_2 => exact servingPass none s
  case h_3 => exact servingPass none s

theorem resumeDrawAct (s : State) : s.kin (resumeDrawAct s).1 := by
  unfold Machine.resumeDrawAct
  split
  case h_1 => exact refl s
  case h_2 => exact servingPass none s
  case h_3 => exact servingPass none s

theorem holdKeyAct (slot : Byte) (key : Key) (s : State) : s.kin (holdKeyAct slot key s).1 := by
  unfold Machine.holdKeyAct
  split
  case h_1 => exact refl s
  case h_2 => exact of_eq rfl rfl rfl

theorem dropKeyAct (slot : Byte) (s : State) : s.kin (dropKeyAct slot s).1 := by
  unfold Machine.dropKeyAct
  split
  case h_1 => exact refl s
  case h_2 => exact of_eq rfl rfl rfl

theorem readContextAct (context : Byte) (s : State) : s.kin (readContextAct context s).1 := by
  unfold Machine.readContextAct
  split <;> exact refl s

theorem setDeviceAct (body : List Byte) (s : State) : s.kin (setDeviceAct body s).1 := by
  unfold Machine.setDeviceAct
  split
  case h_1 => exact refl s
  case h_2 => exact of_eq rfl rfl rfl

end State.kin

theorem State.wired.setLoopAct {s : State} (h : s.wired) (b : LoopBody) : (setLoopAct b s).1.wired := by
  unfold Machine.setLoopAct
  split
  case h_1 => exact h.setLoop _ _ _
  case h_2 => exact h

/-! ## Restarts (R19, R20, R199, R200) -/

/-- With no entry, every port cold and no call, there is nothing to disagree. -/
theorem State.wired.cold {s : State} (hd : s.directory = Table.replicate 320 none)
    (hp : s.ports = Table.replicate 256 PortRec.cold) (hc : s.calls = Table.replicate 128 none) : s.wired := by
  have entry : ∀ ix, s.entry? ix = none := fun ix => by simp [State.entry?, hd]
  have port : ∀ p, s.port p = PortRec.cold := fun p => by simp [State.port, hp]
  have call : ∀ i, s.calls.get i = none := fun i => by simp [hc]
  constructor <;> simp [entry, port, call, PortRec.cold]

theorem Entry.warm_challenge {e : Entry} (h : e.fieldsWell) (n : Nat) : (e.warm n).challenge = none := by
  obtain ⟨_, hc, _, _, _⟩ := h
  unfold Entry.warm
  split
  case isTrue => rfl
  case isFalse => cases hs : e.state <;> simp_all

theorem Entry.warm_liveCall (e : Entry) (n : Nat) : (e.warm n).liveCall = none := by
  unfold Entry.warm
  split
  case isTrue => rfl
  case isFalse => cases e.state <;> rfl

theorem Entry.warm_bound (e : Entry) (n : Nat) : (e.warm n).bound = if e.overdue.isSome then none else e.bound := by
  unfold Entry.warm
  split
  case isTrue => rfl
  case isFalse => cases e.state <;> rfl

theorem Entry.warm_fieldsWell {e : Entry} (h : e.fieldsWell) (n : Nat) : (e.warm n).fieldsWell := by
  obtain ⟨hb, hc, hk, hl, ho⟩ := h
  unfold Entry.warm
  split
  case isTrue hx =>
    refine .unbound rfl rfl rfl ?_ rfl rfl
    simpa [hl (ho hx)] using hk
  case isFalse hx =>
    have hn : e.overdue = none := by simpa using hx
    cases hs : e.state with
    | unbound | admitted | locked =>
      exact ⟨by simpa [hs] using hb, by simpa [hs] using hc, by simpa [hs] using hk, nofun, by simp [hn]⟩
    | challenged => exact .unbound rfl (by simpa [hs] using hb) rfl (by simpa [hs] using hk) rfl hn
    | moving => exact ⟨by simpa [hs] using hb, by simp, by simpa [hs] using hk, nofun, by simp [hn]⟩

theorem State.entry_warmBlocks (s : State) (ix : ExtIx) :
    s.warmBlocks.entry? ix = (s.entry? ix).map (fun e => e.warm (s.classOf e).refreshInterval) :=
  Table.get_map _ _ _

theorem State.port_warmBlocks (s : State) (p : Port) : s.warmBlocks.port p = s.warmPort (s.port p) := Table.get_map _ _ _

theorem State.loop_warmBlocks (s : State) (l : LoopNo) : s.warmBlocks.loop l = s.warmLoop l (s.loop l) :=
  Table.get_imap _ _ _

theorem State.wired.warmBlocks {s : State} (h : s.wired) : s.warmBlocks.wired := by
  have before : ∀ {ix d}, s.warmBlocks.entry? ix = some d → ∃ e, s.entry? ix = some e ∧
      e.warm (s.classOf e).refreshInterval = d :=
    fun {ix d} hd => Option.map_eq_some_iff.mp ((s.entry_warmBlocks ix).symm.trans hd)
  have released : ∀ {p ix e}, (s.port p).bound = some ix → s.entry? ix = some e →
      s.releasedWarm (s.port p) = e.overdue.isSome := fun {p ix e} hb he => by simp [State.releasedWarm, hb, he]
  have call : ∀ i, s.warmBlocks.calls.get i = none := fun i => Table.get_replicate _ _
  constructor
  case fields =>
    intro ix d hd
    obtain ⟨e, he, rfl⟩ := before hd
    exact Entry.warm_fieldsWell (h.fields ix e he) _
  case portOfEntry =>
    intro ix d p hd hb
    obtain ⟨e, he, rfl⟩ := before hd
    rw [Entry.warm_bound] at hb
    split at hb
    case isTrue => cases hb
    case isFalse ho =>
      have hp := h.portOfEntry ix e p he hb
      rw [State.port_warmBlocks]
      simp [State.warmPort, released hp he, ho, hp]
  case entryOfPort =>
    intro p ix hb
    rw [State.port_warmBlocks] at hb
    simp only [State.warmPort] at hb
    split at hb
    case isTrue => cases hb
    case isFalse ho =>
      obtain ⟨e, he, hp⟩ := h.entryOfPort p ix hb
      rw [released hb he] at ho
      exact ⟨_, by rw [State.entry_warmBlocks, he]; rfl, by rw [Entry.warm_bound, if_neg ho, hp]⟩
  case challengedPort =>
    intro ix d c hd hc
    obtain ⟨e, he, rfl⟩ := before hd
    simp [Entry.warm_challenge (h.fields ix e he)] at hc
  case oneChallenge =>
    intro ix jx d f c k hd _ hc
    obtain ⟨e, he, rfl⟩ := before hd
    simp [Entry.warm_challenge (h.fields ix e he)] at hc
  case dialling =>
    intro p hp
    rw [State.port_warmBlocks] at hp
    cases hp
  case liveDial =>
    intro ix d p hd hl
    obtain ⟨e, he, rfl⟩ := before hd
    simp [Entry.warm_liveCall] at hl
  case idNonzero => simp [call]
  case idDistinct => simp [call]
  case callEntry => simp [call]

/-! ## Every command -/

/-- The commands that are no request keep the wiring, and the requests do because their meanings do. -/
theorem exec_wired (i : Instr) {s : State} (h : s.wired) : ∃ t, exec i s = .next t ∧ t.wired := by
  cases i with
  | powerUp => exact ⟨_, rfl, .cold rfl rfl rfl⟩
  | resetLine => exact ⟨_, rfl, .cold rfl rfl rfl⟩
  | controlFrameReceived octets => exact ⟨_, rfl, (State.kin.foldl State.kin.receiveOctet octets s).wired h⟩
  | linkGap => exact ⟨_, rfl, (State.kin.lineError _ s).wired h⟩
  | unknownRequestKind kind tag body =>
    refine ⟨_, rfl, ?_⟩
    split
    case isTrue => exact h.serve _ fun _ ht => ht
    case isFalse => exact h
  | replyReleased =>
    refine ⟨_, rfl, ?_⟩
    split
    case h_2 => exact h
    case h_1 =>
      split
      case isTrue => exact (State.kin.release _ s).wired h
      case isFalse => exact h
  | transmitterFree => exact ⟨_, rfl, State.kin.wired (s := s) (.of_eq rfl rfl rfl) h⟩
  | enterExtension tag body => exact ⟨_, rfl, h.serve _ fun _ ht => ht.enterAct body⟩
  | eraseExtension tag index => exact ⟨_, rfl, h.serve _ fun _ ht => ht.onEntry index fun _ _ => ht.eraseEntry⟩
  | unlockExtension tag index => exact ⟨_, rfl, h.serve _ fun _ ht => ht.onEntry index fun _ _ => ht.unlockEntry⟩
  | readExtension tag index =>
    exact ⟨_, rfl, h.serve _ fun t ht => ht.onEntry index fun _ _ _ => State.kin.wired (s := t) (.of_eq rfl rfl rfl) ht⟩
  | setClass tag body => exact ⟨_, rfl, h.serve _ fun t ht => (State.kin.setClassAct body t).wired ht⟩
  | readClass tag cls => exact ⟨_, rfl, h.serve _ fun t ht => (State.kin.readClassAct cls t).wired ht⟩
  | readPort tag port => exact ⟨_, rfl, h.serve _ fun _ ht => ht⟩
  | setScreen tag body => exact ⟨_, rfl, h.serve _ fun t ht => (State.kin.setScreenAct body t).wired ht⟩
  | readScreen tag screen => exact ⟨_, rfl, h.serve _ fun t ht => (State.kin.readScreenAct screen t).wired ht⟩
  | setLoop tag body => exact ⟨_, rfl, h.serve _ fun _ ht => ht.setLoopAct body⟩
  | sendToStation tag port body =>
    exact ⟨_, rfl, h.serve _ fun t ht => (State.kin.sendToStationAct port body t).wired ht⟩
  | setInterceptSet tag first last =>
    exact ⟨_, rfl, h.serve _ fun t ht => (State.kin.setInterceptAct true first last t).wired ht⟩
  | setInterceptClear tag first last =>
    exact ⟨_, rfl, h.serve _ fun t ht => (State.kin.setInterceptAct false first last t).wired ht⟩
  | openCall tag index verdict => exact ⟨_, rfl, h.serve _ fun _ ht => ht.openCallAct index verdict⟩
  | connectCall tag body => exact ⟨_, rfl, h.serve _ fun _ ht => ht.connectCallAct body⟩
  | holdCall tag call =>
    exact ⟨_, rfl, h.serve _ fun t ht => ht.onCall call fun _ c _ => (State.kin.holdCallAct c t).wired ht⟩
  | retrieveCall tag call =>
    exact ⟨_, rfl, h.serve _ fun t ht => ht.onCall call fun _ c _ => (State.kin.retrieveCallAct c t).wired ht⟩
  | refuseCall tag call => exact ⟨_, rfl, h.serve _ fun _ ht => ht.onCall call fun _ _ => ht.refuseCallAct⟩
  | clearCall tag call => exact ⟨_, rfl, h.serve _ fun _ ht => ht.onCall call fun _ _ hc => ht.endCall hc none⟩
  | readCall tag call => exact ⟨_, rfl, h.serve _ fun _ ht => ht.onCall call fun _ _ _ => ht⟩
  | depositKeys tag body => exact ⟨_, rfl, h.serve _ fun t ht => (State.kin.depositKeysAct body t).wired ht⟩
  | startDraw tag => exact ⟨_, rfl, h.serve _ fun t ht => (State.kin.startDrawAct t).wired ht⟩
  | stopDraw tag => exact ⟨_, rfl, h.serve _ fun t ht => State.kin.wired (s := t) (.of_eq rfl rfl rfl) ht⟩
  | resumeDraw tag => exact ⟨_, rfl, h.serve _ fun t ht => (State.kin.resumeDrawAct t).wired ht⟩
  | holdKey tag slot key => exact ⟨_, rfl, h.serve _ fun t ht => (State.kin.holdKeyAct slot key t).wired ht⟩
  | dropKey tag slot => exact ⟨_, rfl, h.serve _ fun t ht => (State.kin.dropKeyAct slot t).wired ht⟩
  | readKeys tag => exact ⟨_, rfl, h.serve _ fun _ ht => ht⟩
  | readContext tag context => exact ⟨_, rfl, h.serve _ fun t ht => (State.kin.readContextAct context t).wired ht⟩
  | setDevice tag body => exact ⟨_, rfl, h.serve _ fun t ht => (State.kin.setDeviceAct body t).wired ht⟩
  | readDevice tag => exact ⟨_, rfl, h.serve _ fun _ ht => ht⟩
  | restartCold tag => exact ⟨_, rfl, h.serve _ fun _ _ => .cold rfl rfl rfl⟩
  | restartWarm tag =>
    exact ⟨_, rfl, h.serve _ fun t ht => State.kin.wired (s := t.warmBlocks) (.of_eq rfl rfl rfl) ht.warmBlocks⟩
  | loopTurnStart loop => exact ⟨_, rfl, (State.kin.putLoop loop _ s).wired h⟩
  | blockSent loop => exact ⟨_, rfl, (State.kin.blockSent loop s).wired h⟩
  | replyWindowTimeout loop => exact ⟨_, rfl, h.windowTimeout loop⟩
  | stationReply loop chars =>
    refine ⟨_, rfl, ?_⟩
    split
    case isTrue => exact h
    case isFalse => exact h.stationReply loop chars
  | loopBreak loop => exact ⟨_, rfl, (State.kin.loopBreak loop s).wired h⟩
  | loopRestore loop => exact ⟨_, rfl, (State.kin.loopRestore loop s).wired h⟩
  | feature port body => exact ⟨_, rfl, h.takeBlock port _ fun t ht => (State.kin.raise _ t).wired ht⟩
  | register port number => exact ⟨_, rfl, h.takeBlock port _ fun _ ht => ht.registerBlock port number⟩
  | answer port response => exact ⟨_, rfl, h.takeBlock port _ fun _ ht => ht.answerBlock port response⟩
  | checkIn port => exact ⟨_, rfl, h.takeBlock port _ fun _ ht => ht.checkInBlock port⟩
  | answerTimeExpiry index => exact ⟨_, rfl, h.answerExpiry index⟩
  | refreshExpiry index => exact ⟨_, rfl, h.refreshEnd index⟩
  | lockExpiry index => exact ⟨_, rfl, h.lockEnd index⟩
  | offHook port => exact ⟨_, rfl, h.takeBlock port _ fun _ ht => ht.offHookBlock port⟩
  | onHook port => exact ⟨_, rfl, h.takeBlock port _ fun t ht => (State.kin.onHookBlock port t).wired ht⟩
  | digits port endFlag codes => exact ⟨_, rfl, h.takeBlock port _ fun _ ht => ht.digitsBlock port endFlag codes⟩
  | interdigitExpiry port => exact ⟨_, rfl, h.interdigitEnd port⟩
  | keyWaitExpiry context =>
    refine ⟨_, rfl, ?_⟩
    split
    case isTrue =>
      exact State.wired.applyPolicy (State.kin.wired (s := s) (t := s.leaveQueue context) (.of_eq rfl rfl rfl) h) context
    case isFalse => exact h
  | framePulse sinceFrame sincePulse inputs =>
    refine ⟨_, rfl, ?_⟩
    split
    case h_1 => exact (State.kin.acceptPulse sinceFrame inputs s).wired h
    case h_2 => exact (State.kin.restorePulse sincePulse inputs s).wired h
  | pulseMissing inputs =>
    refine ⟨_, rfl, ?_⟩
    split
    case h_1 => exact (State.kin.missPulse inputs s).wired h
    case h_2 => exact h
  | holdoverFrame =>
    refine ⟨_, rfl, ?_⟩
    split
    case h_1 => exact (State.kin.unservedFrame s).wired h
    case h_2 => exact h
  | restoreRunTimeout =>
    refine ⟨_, rfl, ?_⟩
    split
    case h_1 => exact State.kin.wired (s := s) (.of_eq rfl rfl rfl) h
    case h_2 => exact h
  | linkFramingError => exact ⟨_, rfl, (State.kin.lineError _ s).wired h⟩
  | linkLengthError octet =>
    refine ⟨_, rfl, ?_⟩
    split
    case isTrue => exact (State.kin.dropFrame _ s).wired h
    case isFalse => exact h

/-- Settles O10: every command keeps the wiring, by kinship where it moves no wire, and by one rule each for an entry that
leaves its port, takes a challenge or is bound, and for a call that is created or ends. -/
theorem bindingsAndCallsStayWired : Obligations.BindingsAndCallsStayWired := by
  intro s t h ht
  unfold step at ht
  split at ht
  case h_1 => cases ht; exact h
  case h_2 c rest _ =>
    obtain ⟨u, hu, hw⟩ := exec_wired c (State.kin.wired (s := s) (t := { s with pending := rest }) (.of_eq rfl rfl rfl) h)
    cases hu.symm.trans ht
    exact hw

end Sys2Proof.Machine

/-!
PROOFS. Requests taken and answered: what a request does to the state it finds, with its frame at the head of the receive
holding, and the reply that goes out (R193).
-/

namespace Sys2Proof.Table

@[simp] theorem set_set {α : Type} {n : Nat} (t : Table α n) (i : Fin n) (a b : α) : (t.set i a).set i b = t.set i b := by
  apply Table.ext_get
  intro j
  simp only [Table.get_set]
  split_ifs <;> rfl

/-- The octet at a position of a table is one of those taken from its front when the position is among them. -/
theorem get_mem_take {α : Type} {n k : Nat} (t : Table α n) {i : Fin n} (h : i.val < k) : t.get i ∈ t.cells.take k := by
  have hi : i.val < (t.cells.take k).length := by simp [t.size, h]
  have : (t.cells.take k)[i.val] = t.get i := by simp [Table.get]
  exact this ▸ List.getElem_mem hi

end Sys2Proof.Table

namespace Sys2Proof.Machine

/-! ## The answer to a request -/

/-- A request that leaves `t`, with its frame still at the head of the holding, and is answered at once. -/
theorem State.respond_replied (f : Frame) (code : Code) (data : List Byte) (t : State) :
    (t.admitFrame f).respond f { code := code, data := data } = t.replied f code data := by
  have release : (t.admitFrame f).respond f { code := code, data := data } =
      ({ t with holding := t.holding.tail, handling := none } : State).postReply ⟨f.kind, f.tag, code, data⟩ := by
    rw [← State.admitFrame_holding_tail f t]
    rfl
  rw [release]
  unfold State.replied
  split
  case isTrue h => exact State.postReply_free _ h
  case isFalse h => exact State.postReply_busy _ h

section Serve

variable {i : Instr} {f : Frame} {s t : State} {act : State → State × Answer} {code : Code} {data : List Byte}

/-- A taken request answered at once (R193). -/
theorem State.serve_replied (hf : i.frame? = some f) (ht : s.takes f = true)
    (ha : act (s.admitFrame f) = (t.admitFrame f, { code := code, data := data })) :
    s.serve i act = t.replied f code data := by
  rw [State.serve_frame hf, State.request_taken ht, ha, State.respond_replied]

/-- A taken request whose reply is held back (R115). -/
theorem State.serve_heldBack (hf : i.frame? = some f) (ht : s.takes f = true)
    (ha : act (s.admitFrame f) = (t.admitFrame f, { code := code, data := data, held := true })) :
    s.serve i act = t.heldBack f code data := by
  rw [State.serve_frame hf, State.request_taken ht, ha]
  rfl

/-- A taken request refused: its completion code, and nothing changed (R193). -/
theorem State.serve_refused (hf : i.frame? = some f) (ht : s.takes f = true)
    (ha : act (s.admitFrame f) = (s.admitFrame f).refuse code) : s.serve i act = s.replied f code [] :=
  State.serve_replied hf ht ha

end Serve

/-! ## The frame in the holding stands beside what a request does

Each operation does the same to the state with a frame in its holding as to the state without it. -/

namespace State

variable (f : Frame) (s : State)

@[simp] theorem putEntry_admitFrame (ix : ExtIx) (e : Option Entry) :
    (s.admitFrame f).putEntry ix e = (s.putEntry ix e).admitFrame f := rfl

@[simp] theorem modEntry_admitFrame (ix : ExtIx) (g : Entry → Entry) :
    (s.admitFrame f).modEntry ix g = (s.modEntry ix g).admitFrame f := rfl

@[simp] theorem putPort_admitFrame (p : Port) (r : PortRec) :
    (s.admitFrame f).putPort p r = (s.putPort p r).admitFrame f := rfl

@[simp] theorem putLoop_admitFrame (l : LoopNo) (r : LoopRec) :
    (s.admitFrame f).putLoop l r = (s.putLoop l r).admitFrame f := rfl

@[simp] theorem raise_admitFrame (i : Item) : (s.admitFrame f).raise i = (s.raise i).admitFrame f := rfl

@[simp] theorem withdraw_admitFrame (p : Port) (n : Long) :
    (s.admitFrame f).withdraw p n = (s.withdraw p n).admitFrame f := rfl

@[simp] theorem challengeAt_admitFrame (p : Port) : (s.admitFrame f).challengeAt p = s.challengeAt p := rfl

@[simp] theorem loseChallenge_admitFrame (p : Port) (n : Long) :
    (s.admitFrame f).loseChallenge p n = (s.loseChallenge p n).admitFrame f := by
  unfold State.loseChallenge
  rw [challengeAt_admitFrame]
  cases s.challengeAt p <;> rfl

@[simp] theorem loseBlock_admitFrame (p : Port) (q : Option QueueRec) :
    (s.admitFrame f).loseBlock p q = (s.loseBlock p q).admitFrame f := by
  unfold State.loseBlock
  split
  case h_1 => exact loseChallenge_admitFrame f s p _
  case h_2 => rfl

@[simp] theorem offer_admitFrame (p : Port) (b : OutBlock) :
    (s.admitFrame f).offer p b = (s.offer p b).admitFrame f := by
  unfold State.offer
  rw [port_admitFrame]
  split
  case h_1 => rfl
  case h_2 => exact (loseBlock_admitFrame f (s.putLoop (loopOf p) _) p _).trans rfl

@[simp] theorem releaseBinding_admitFrame (ix : ExtIx) :
    (s.admitFrame f).releaseBinding ix = (s.releaseBinding ix).admitFrame f := by
  unfold State.releaseBinding
  rw [entry_admitFrame]
  cases s.entry? ix with
  | none => rfl
  | some e => dsimp only; cases e.bound <;> rfl

@[simp] theorem lapse_admitFrame (ix : ExtIx) (c : LapseCause) :
    (s.admitFrame f).lapse ix c = (s.lapse ix c).admitFrame f := by
  unfold State.lapse
  rw [entry_admitFrame]
  cases s.entry? ix with
  | none => rfl
  | some e =>
    dsimp only
    split
    case isTrue => rfl
    case isFalse =>
      cases e.bound with
      | none => rfl
      | some q => simp

@[simp] theorem abandon_admitFrame (ix : ExtIx) : (s.admitFrame f).abandon ix = (s.abandon ix).admitFrame f := by
  unfold State.abandon
  rw [entry_admitFrame]
  cases s.entry? ix with
  | none => rfl
  | some e => dsimp only; cases e.challenge <;> rfl

end State

/-! ## Two writes of one record -/

theorem State.entry_putEntry_self (s : State) (ix : ExtIx) (e : Option Entry) : (s.putEntry ix e).entry? ix = e :=
  (State.entry_putEntry s ix e ix).trans (if_pos rfl)

@[simp] theorem State.putEntry_putEntry (s : State) (ix : ExtIx) (e d : Option Entry) :
    (s.putEntry ix e).putEntry ix d = s.putEntry ix d := by
  simp [State.putEntry]

@[simp] theorem State.withdraw_putEntry (s : State) (ix : ExtIx) (e : Option Entry) (p : Port) (n : Long) :
    (s.putEntry ix e).withdraw p n = (s.withdraw p n).putEntry ix e := rfl

@[simp] theorem State.port_withdraw (s : State) (p : Port) (n : Long) (q : Port) :
    (s.withdraw p n).port q = s.port q := rfl

/-- An entry without a pending challenge is left as it is by any block offered (R59). -/
theorem State.entry_offer_unchallenged {s : State} {ix : ExtIx} {e : Entry} (he : s.entry? ix = some e)
    (hc : e.challenge = none) (p : Port) (b : OutBlock) : (s.offer p b).entry? ix = some e := by
  have lose : ∀ {t : State} (q : Option QueueRec), t.entry? ix = some e → (t.loseBlock p q).entry? ix = some e := by
    intro t q ht
    unfold State.loseBlock State.loseChallenge
    split
    case h_2 => exact ht
    case h_1 =>
      split
      case h_2 => exact ht
      case h_1 =>
        rw [State.entry_modEntry]
        split
        case isTrue hx => rw [← hx, ht]; simp [hc]
        case isFalse => exact ht
  unfold State.offer
  split
  case h_1 => exact he
  case h_2 => exact lose _ he

/-! ## Numbers, marks and codes of a body -/

theorem below_eq {n v : Nat} {i : Fin n} (h : i.val = v) : below n v = some i := by
  subst h
  simp [below]

theorem below_none {n v : Nat} (h : n ≤ v) : below n v = none := by
  simp [below, Nat.not_lt.mpr h]

/-- A mark is read when it is 0 or 1 (R201). -/
theorem flagOf_eq {o : Byte} (h : o.toNat < 2) : flagOf o = some (decide (o = 1)) := by
  have ho : o = 0 ∨ o = 1 := by bv_omega
  rcases ho with rfl | rfl <;> rfl

theorem flagOf_none {o : Byte} (h : 2 ≤ o.toNat) : flagOf o = none := by
  rw [flagOf, if_neg (by bv_omega), if_neg (by bv_omega)]

@[simp] theorem verdictOf_octet (v : Verdict) : verdictOf v.octet = some v := by cases v <;> rfl

theorem verdictOf_none {o : Byte} (h : 3 < o.toNat) : verdictOf o = none := by
  obtain ⟨n, hn⟩ := Nat.exists_eq_add_of_lt h
  simp [verdictOf, hn, Nat.add_comm 3]

@[simp] theorem policyOf_octet (k : KeyWaitPolicy) : policyOf k.octet = some k := by cases k <;> rfl

theorem policyOf_none {o : Byte} (h : 1 < o.toNat) : policyOf o = none := by
  obtain ⟨n, hn⟩ := Nat.exists_eq_add_of_lt h
  simp [policyOf, hn, Nat.add_comm 1]

/-- A list with an item that is not read is not read. -/
theorem readAll_none {α β : Type} {g : α → Option β} {as : List α} {a : α} (ha : a ∈ as) (h : g a = none) :
    readAll g as = none := by
  induction as with
  | nil => cases ha
  | cons x xs ih =>
    unfold readAll
    rcases List.mem_cons.mp ha with rfl | hx
    · rw [h]
    · rw [ih hx]
      cases g x <;> rfl

/-- A list of octets is read to the values whose numbers the octets are. -/
theorem readAll_eq {β : Type} {g : Byte → Option β} {num : β → Nat} {as : List Byte} {bs : List β}
    (hg : ∀ a ∈ as, ∀ b, num b = a.toNat → g a = some b) (h : bs.map num = as.map BitVec.toNat) :
    readAll g as = some bs := by
  induction as generalizing bs with
  | nil =>
    obtain rfl : bs = [] := by simpa using h
    rfl
  | cons a as ih =>
    cases bs with
    | nil => simp at h
    | cons b bs =>
      obtain ⟨hb, hbs⟩ := List.cons.inj h
      unfold readAll
      rw [hg a (by simp) b hb, ih (fun a ha => hg a (by simp [ha])) hbs]

end Sys2Proof.Machine

/-!
PROOFS. ENTER, ERASE and UNLOCK EXTENSION (O23, O24, O25; R5 to R11, R81, R83).
-/

namespace Sys2Proof.Machine

/-! ## The body of ENTER EXTENSION (R6, R201, R203) -/

/-- A digit code from 0 to 9 is read from its octet (R203). -/
theorem numeralOf_eq {o : Byte} {d : Digit} (h : d.val = o.toNat) (ho : o.toNat < 10) : numeralOf o = some d := by
  have ho' : o.toNat < 12 := by omega
  simp only [numeralOf, if_pos ho, digitOf, dif_pos ho', Option.some.injEq]
  exact Fin.ext h.symm

theorem numeralOf_none {o : Byte} (h : 10 ≤ o.toNat) : numeralOf o = none := if_neg (Nat.not_lt.mpr h)

/-- A body of good form is read as the fields it carries (R6, steps 1 to 3). -/
theorem enterFields?_carries {b : EnterBody} {ix : ExtIx} {f : Stored} (hg : b.goodForm) (hc : b.carries ix f) :
    enterFields? b = some (ix, f) := by
  obtain ⟨_, hcount, hdigits, _, hsecure, hmark⟩ := hg
  obtain ⟨hix, hnumber, hsecret, hcls, hsec, hhome⟩ := hc
  have number : enterNumber? b = some f.number := by
    unfold enterNumber?
    rw [if_pos hcount]
    refine readAll_eq (num := Fin.val) (fun o ho d hd => numeralOf_eq hd ?_) hnumber
    obtain ⟨k, hk, rfl⟩ := List.mem_take_iff_getElem.mp ho
    exact hdigits ⟨k, by have := b.digits.size; omega⟩ (by simp; omega)
  unfold enterFields?
  simp only [below_eq hix, number, below_eq hcls, flagOf_eq hsecure, flagOf_eq hmark, decide_eq_true_eq]
  rw [← hsec, ← hhome, ← hsecret]

/-- A body of bad form is not read (R6, R201). -/
theorem enterFields?_none {b : EnterBody} (h : ¬ b.goodForm) : enterFields? b = none := by
  by_contra hn
  obtain ⟨⟨ix, f⟩, hx⟩ := Option.ne_none_iff_exists'.mp hn
  unfold enterFields? at hx
  split at hx
  case h_2 => cases hx
  case h_1 i number cls secure marked hi hnumber hcls hsecure hmark =>
    have lt_of_below : ∀ {n v : Nat} {k : Fin n}, below n v = some k → v < n := fun hb => by
      by_contra hv
      simp [below_none (Nat.not_lt.mp hv)] at hb
    have lt_of_flag : ∀ {o : Byte} {m : Bool}, flagOf o = some m → o.toNat < 2 := fun hb => by
      by_contra hv
      simp [flagOf_none (Nat.not_lt.mp hv)] at hb
    unfold enterNumber? at hnumber
    split at hnumber
    case isFalse => cases hnumber
    case isTrue hcount =>
      refine h ⟨lt_of_below hi, hcount, fun k hk => ?_, lt_of_below hcls, lt_of_flag hsecure, lt_of_flag hmark⟩
      by_contra hv
      have := readAll_none (Table.get_mem_take b.digits hk) (numeralOf_none (Nat.not_lt.mp hv))
      simp [this] at hnumber

/-- The check of R6, step 4. -/
theorem State.duplicated_iff (s : State) (ix : ExtIx) (number : List Digit) :
    s.duplicated ix number = true ↔ s.numberElsewhere ix number := by
  simp only [State.duplicated, List.any_eq_true, List.mem_finRange, true_and, Bool.and_eq_true, decide_eq_true_eq,
    State.numberElsewhere]
  refine exists_congr fun j => ?_
  cases s.entry? j <;> simp [Entry.holds]

@[simp] theorem State.enterAbandon_admitFrame (g : Frame) (ix : ExtIx) (old : Key) (s : State) :
    (s.admitFrame g).enterAbandon ix old = (s.enterAbandon ix old).admitFrame g := by
  unfold State.enterAbandon
  rw [State.entry_admitFrame]
  cases s.entry? ix with
  | none => rfl
  | some e =>
    dsimp only
    cases e.challenge with
    | none => rfl
    | some c =>
      dsimp only
      split_ifs
      · simp
      · simp
      · rfl

@[simp] theorem State.enterLapse_admitFrame (g : Frame) (ix : ExtIx) (s : State) :
    (s.admitFrame g).enterLapse ix = (s.enterLapse ix).admitFrame g := by
  unfold State.enterLapse
  rw [State.entry_admitFrame]
  cases s.entry? ix with
  | none => rfl
  | some e =>
    dsimp only
    split
    case h_1 =>
      split_ifs
      · simp
      · rfl
    case h_2 => rfl

@[simp] theorem State.enter_admitFrame (g : Frame) (ix : ExtIx) (f : Stored) (s : State) :
    (s.admitFrame g).enter ix f = (s.enter ix f).admitFrame g := by
  unfold State.enter
  rw [State.entry_admitFrame]
  cases s.entry? ix <;> simp

/-! ## ENTER EXTENSION on a free and on an occupied position (R6 to R9) -/

section Enter

variable {tag : Byte} {b : EnterBody} {ix : ExtIx} {f : Stored} {s t : State} {e : Entry}

/-- ENTER EXTENSION on a body of good form (R6, step 4). -/
theorem enterAct_carries (hg : b.goodForm) (hc : b.carries ix f) (s : State) :
    enterAct b s = if s.duplicated ix f.number then s.refuse .duplicate else (s.enter ix f).done := by
  simp [enterAct, enterFields?_carries hg hc]

/-- A taken ENTER EXTENSION of good form, its number held nowhere else, is carried out and answered DONE. -/
theorem execEnterExtension_done (ht : s.takes ⟨1, tag, b.octets⟩ = true) (hg : b.goodForm) (hc : b.carries ix f)
    (hn : ¬ s.numberElsewhere ix f.number)
    (henter : s.enter ix f = t) :
    exec (.enterExtension tag b) s = .next (t.replied ⟨1, tag, b.octets⟩ .done []) := by
  have hd : (s.admitFrame ⟨1, tag, b.octets⟩).duplicated ix f.number = false := by
    rw [← Bool.not_eq_true]
    exact fun hx => hn ((s.duplicated_iff ix f.number).mp hx)
  refine congrArg Host.Outcome.next (State.serve_replied rfl ht ?_)
  rw [enterAct_carries hg hc, hd, State.enter_admitFrame, henter]
  rfl

/-- The old secret and the port of a challenge that a replacement does not rule out (R8). -/
theorem State.enterAbandon_stands {x : Entry} {old : Key} (hx : s.entry? ix = some x)
    (h : ∀ c, x.challenge = some c → x.secret = old ∧ (x.home = none ∨ x.home = some c.port)) :
    s.enterAbandon ix old = s := by
  unfold State.enterAbandon
  simp only [hx]
  cases hc : x.challenge with
  | none => rfl
  | some c =>
    obtain ⟨hs, hh | hh⟩ := h c hc <;> simp [hs, hh]

/-- A replacement that rules a challenge out abandons it, and queues its DENY (R8). -/
theorem State.enterAbandon_ruledOut {x : Entry} {old : Key} {c : Challenge} (hx : s.entry? ix = some x)
    (hc : x.challenge = some c) (h : (x.home ≠ none ∧ x.home ≠ some c.port) ∨ x.secret ≠ old) :
    s.enterAbandon ix old = ((s.withdraw c.port c.nonce).putEntry ix (some x.revert)).offer c.port
      (.deny (if x.home ≠ none ∧ x.home ≠ some c.port then .wrongPort else .busy)) := by
  have away : x.home.any (fun h => decide (h ≠ c.port)) = true ↔ x.home ≠ none ∧ x.home ≠ some c.port := by
    cases x.home <;> simp
  unfold State.enterAbandon State.abandon
  simp only [hx, hc, away]
  split
  case isTrue hw => rfl
  case isFalse hw => rw [if_pos (h.resolve_left hw)]

/-- No lapse when the entry has no home port, is bound nowhere, or is bound at its home port (R9). -/
theorem State.enterLapse_stays {x : Entry} (hx : s.entry? ix = some x)
    (h : ∀ q, x.bound = some q → x.home = none ∨ x.home = some q) : s.enterLapse ix = s := by
  unfold State.enterLapse
  simp only [hx]
  split
  case h_2 => rfl
  case h_1 p q hp hq =>
    refine if_neg (not_not.mpr ?_)
    rcases h q hq with hh | hh
    · simp [hh] at hp
    · exact Option.some.inj (hp.symm.trans hh)

/-- A home port away from the bound port starts the lapse (R9). -/
theorem State.enterLapse_away {x : Entry} {p q : Port} (hx : s.entry? ix = some x) (hp : x.home = some p)
    (hq : x.bound = some q) (hne : p ≠ q) : s.enterLapse ix = s.lapse ix .homePort := by
  simp [State.enterLapse, hx, hp, hq, hne]

/-- ENTER EXTENSION on an occupied position, in its three stages (R7 to R9). -/
theorem State.enter_some (he : s.entry? ix = some e) (f : Stored) :
    s.enter ix f = ((s.putEntry ix (some (e.restock f))).enterAbandon ix e.secret).enterLapse ix := by
  simp [State.enter, he]

/-- Settles O23: the form of the body and the number decide the answer, and without a challenge or a binding that stands
against the new fields the replacement is a single write of the entry. -/
theorem enterExtensionChecksAndStores : Obligations.EnterExtensionChecksAndStores := by
  refine ⟨fun tag b s ht => ⟨fun hb => ?_, fun ix f hg hc hn => ?_⟩,
    fun tag b ix f s ht hg hc hn => ⟨fun he => ?_, fun e he hch hbd => ?_⟩⟩
  · refine congrArg Host.Outcome.next (State.serve_refused rfl ht ?_)
    simp [enterAct, enterFields?_none hb]
  · refine congrArg Host.Outcome.next (State.serve_refused rfl ht ?_)
    have hd : (s.admitFrame ⟨1, tag, b.octets⟩).duplicated ix f.number = true := (s.duplicated_iff ix f.number).mpr hn
    rw [enterAct_carries hg hc, hd, if_pos rfl]
  · exact execEnterExtension_done ht hg hc hn (by simp only [State.enter, he]; rfl)
  · refine execEnterExtension_done ht hg hc hn ?_
    have own := s.entry_putEntry_self ix (some (e.restock f))
    rw [State.enter_some he, State.enterAbandon_stands own hch, State.enterLapse_stays own hbd]
    rfl

/-- The replaced fields rule a challenge out: it is abandoned, whatever the lapse of R9 then does. -/
theorem State.enter_ruledOut {c : Challenge} (he : s.entry? ix = some e) (hc : e.challenge = some c)
    (h : (f.home ≠ none ∧ f.home ≠ some c.port) ∨ f.secret ≠ e.secret) :
    s.enter ix f = (((s.withdraw c.port c.nonce).putEntry ix (some (e.restock f).revert)).offer c.port
      (.deny (if f.home ≠ none ∧ f.home ≠ some c.port then .wrongPort else .busy))).enterLapse ix := by
  have own := s.entry_putEntry_self ix (some (e.restock f))
  rw [State.enter_some he, State.enterAbandon_ruledOut own hc h]
  rw [State.withdraw_putEntry, State.putEntry_putEntry]
  rfl

/-- After the abandonment of R8 the entry is the restocked one, back in the state it held before its challenge. -/
theorem State.entry_enter_ruledOut (s : State) (x : Entry) (p : Port) (n : Long) (r : DenyReason) :
    (((s.withdraw p n).putEntry ix (some x.revert)).offer p (.deny r)).entry? ix = some x.revert :=
  State.entry_offer_unchallenged (by simp) rfl _ _

/-- Settles O24: first the abandonment of R8, or none, then the lapse of R9, or none, each read off the new fields. -/
theorem enterExtensionAbandonsAndLapses : Obligations.EnterExtensionAbandonsAndLapses := by
  refine ⟨fun tag b ix f e s ht hg hc hn he => ⟨fun c hs hb hch hout => ?_, fun h q hs hch hb hh hne => ?_⟩,
    fun tag b ix f e c q s ht hg hc hn he hs hch hb => ⟨fun hout => ⟨_, rfl, ?_⟩, fun hh hne hsecret => ?_⟩⟩
  · refine execEnterExtension_done ht hg hc hn ?_
    rw [State.enter_ruledOut he hch hout,
      State.enterLapse_stays (State.entry_enter_ruledOut _ _ _ _ _) (by simp [Entry.revert, Entry.restock, hb])]
    simp [Entry.revert, Entry.restock, hs]
  · refine execEnterExtension_done ht hg hc hn ?_
    have own := s.entry_putEntry_self ix (some (e.restock f))
    rw [State.enter_some he, State.enterAbandon_stands own (by simp [Entry.restock, hch]),
      State.enterLapse_away own hh hb hne]
    simp [Entry.restock]
  · refine execEnterExtension_done ht hg hc hn ?_
    rw [State.enter_ruledOut he hch hout]
    have own := State.entry_enter_ruledOut (ix := ix) s (e.restock f) c.port c.nonce
      (if f.home ≠ none ∧ f.home ≠ some c.port then .wrongPort else .busy)
    by_cases hq : f.home = none ∨ f.home = some q
    · rw [if_pos hq, State.enterLapse_stays own (by rintro r hr; cases hb.symm.trans hr; exact hq)]
      simp [Entry.revert, Entry.restock, hs]
    · rw [if_neg hq]
      obtain ⟨h, hh⟩ := Option.ne_none_iff_exists'.mp fun h0 => hq (.inl h0)
      rw [State.enterLapse_away own hh hb fun hhq => hq (.inr (hhq ▸ hh))]
      simp [Entry.revert, Entry.restock, hs]
  · refine execEnterExtension_done ht hg hc hn ?_
    have own := s.entry_putEntry_self ix (some (e.restock f))
    rw [State.enter_some he, State.enterAbandon_stands own fun k hk => ?_, State.enterLapse_away own hh hb hne]
    · simp [Entry.restock]
    · cases hch.symm.trans hk
      exact ⟨hsecret, .inr hh⟩

end Enter

/-! ## ERASE and UNLOCK EXTENSION (R5, R10, R11, R83) -/

section ByIndex

variable {index : Word} {ix : ExtIx} {e : Entry} {s : State} {act : ExtIx → Entry → State → State × Answer}

theorem State.onEntry_badRequest (s : State) (h : 319 < index.toNat) :
    s.onEntry index act = s.refuse .badRequest := by
  simp [State.onEntry, below_none h]

theorem State.onEntry_noSuch (hi : ix.val = index.toNat) (he : s.entry? ix = none) (g : Frame) :
    (s.admitFrame g).onEntry index act = (s.admitFrame g).refuse .noSuch := by
  simp [State.onEntry, below_eq hi, he]

theorem State.onEntry_some (hi : ix.val = index.toNat) (he : s.entry? ix = some e) (g : Frame) :
    (s.admitFrame g).onEntry index act = act ix e (s.admitFrame g) := by
  simp [State.onEntry, below_eq hi, he]

end ByIndex

@[simp] theorem State.eraseChallenge_admitFrame (f : Frame) (ix : ExtIx) (e : Entry) (s : State) :
    (s.admitFrame f).eraseChallenge ix e = (s.eraseChallenge ix e).admitFrame f := by
  unfold State.eraseChallenge
  cases e.challenge <;> simp

@[simp] theorem State.eraseBinding_admitFrame (f : Frame) (e : Entry) (s : State) :
    (s.admitFrame f).eraseBinding e = (s.eraseBinding e).admitFrame f := by
  unfold State.eraseBinding
  cases e.bound <;> simp

section Erase

variable {tag : Byte} {index : Word} {ix : ExtIx} {e : Entry} {s : State}

/-- A taken ERASE EXTENSION of an entry without a live call (R10). -/
theorem execEraseExtension_done (ht : s.takes ⟨2, tag, wordOctets index⟩ = true) (hi : ix.val = index.toNat)
    (he : s.entry? ix = some e) (hl : e.liveCall = none) :
    exec (.eraseExtension tag index) s =
      .next ((((s.eraseChallenge ix e).eraseBinding e).putEntry ix none).replied ⟨2, tag, wordOctets index⟩ .done []) := by
  refine congrArg Host.Outcome.next (State.serve_replied rfl ht ?_)
  rw [State.onEntry_some hi he]
  simp [eraseEntry, hl, State.done]

/-- A taken UNLOCK EXTENSION of a LOCKED entry (R11). -/
theorem execUnlockExtension_done (ht : s.takes ⟨3, tag, wordOctets index⟩ = true) (hi : ix.val = index.toNat)
    (he : s.entry? ix = some e) (hs : e.state = .locked) :
    exec (.unlockExtension tag index) s = .next ((s.unlock ix e).replied ⟨3, tag, wordOctets index⟩ .done []) := by
  refine congrArg Host.Outcome.next (State.serve_replied rfl ht ?_)
  rw [State.onEntry_some hi he]
  simp [unlockEntry, hs, State.done, State.unlock]

end Erase

/-- Settles O25: ERASE EXTENSION by the entry's call, challenge and binding, UNLOCK EXTENSION by its state, and both by the
index. -/
theorem eraseAndUnlockExtension : Obligations.EraseAndUnlockExtension := by
  refine ⟨fun tag index ix e s ht hi he => ⟨fun hl => ?_, fun hl hc hb => ?_, fun q hl hc hb => ?_, fun c hl hc hb => ?_⟩,
    fun ix e s he => ⟨fun tag index hi ht => ⟨fun hs => ?_, fun hs => ?_⟩, fun hk => ?_⟩,
    fun tag index s ht => ⟨fun hi => ?_, fun ix hi he => ?_, fun ix e c q hi he hl hc hb => ?_⟩,
    fun tag index s ht => ⟨fun hi => ?_, fun ix hi he => ?_⟩⟩
  · refine congrArg Host.Outcome.next (State.serve_refused rfl ht ?_)
    rw [State.onEntry_some hi he]
    simp [eraseEntry, Option.isSome_iff_ne_none.mpr hl]
  · rw [execEraseExtension_done ht hi he hl]
    simp [State.eraseChallenge, State.eraseBinding, hc, hb]
  · rw [execEraseExtension_done ht hi he hl]
    simp [State.eraseChallenge, State.eraseBinding, hc, hb, PortRec.erased]
  · rw [execEraseExtension_done ht hi he hl]
    simp [State.eraseChallenge, State.eraseBinding, hc, hb]
  · refine congrArg Host.Outcome.next (State.serve_refused rfl ht ?_)
    rw [State.onEntry_some hi he]
    simp [unlockEntry, hs]
  · rw [execUnlockExtension_done ht hi he hs]
    rfl
  · refine congrArg Host.Outcome.next ?_
    simp only [State.lockEnd, he, hk, if_true]
    rfl
  · exact congrArg Host.Outcome.next (State.serve_refused rfl ht (State.onEntry_badRequest _ hi))
  · exact congrArg Host.Outcome.next (State.serve_refused rfl ht (State.onEntry_noSuch hi he _))
  · rw [execEraseExtension_done ht hi he hl]
    simp [State.eraseChallenge, State.eraseBinding, hc, hb, PortRec.erased]
  · exact congrArg Host.Outcome.next (State.serve_refused rfl ht (State.onEntry_badRequest _ hi))
  · exact congrArg Host.Outcome.next (State.serve_refused rfl ht (State.onEntry_noSuch hi he _))

end Sys2Proof.Machine

/-!
PROOFS. SET CLASS, SET SCREEN and their reads (O26, O20; R13 to R15, R92 to R94).
-/

namespace Sys2Proof.Machine

/-! ## Clamped numbers -/

theorem clamp_eq_iff {lo hi v : Nat} (h : lo ≤ hi) : clamp lo hi v = v ↔ lo ≤ v ∧ v ≤ hi := by
  unfold clamp
  omega

/-- No number of a class body was clamped (R14). -/
theorem classExact_iff {b : ClassBody} {r : ClassRec} (hk : r.keyWaitLimit = clamp 50 5000 b.keyWaitLimit.toNat)
    (ht : r.threshold = clamp 1 15 b.threshold.toNat) (hr : r.refreshInterval = clamp 10 3600 b.refreshInterval.toNat)
    (ha : r.answerLimit = clamp 100 2000 b.answerLimit.toNat) :
    classExact b r = true ↔
      50 ≤ b.keyWaitLimit.toNat ∧ b.keyWaitLimit.toNat ≤ 5000 ∧ 1 ≤ b.threshold.toNat ∧ b.threshold.toNat ≤ 15 ∧
        10 ≤ b.refreshInterval.toNat ∧ b.refreshInterval.toNat ≤ 3600 ∧ 100 ≤ b.answerLimit.toNat ∧
        b.answerLimit.toNat ≤ 2000 := by
  have key := clamp_eq_iff (lo := 50) (hi := 5000) (v := b.keyWaitLimit.toNat) (by decide)
  have threshold := clamp_eq_iff (lo := 1) (hi := 15) (v := b.threshold.toNat) (by decide)
  have refresh := clamp_eq_iff (lo := 10) (hi := 3600) (v := b.refreshInterval.toNat) (by decide)
  have answer := clamp_eq_iff (lo := 100) (hi := 2000) (v := b.answerLimit.toNat) (by decide)
  simp only [classExact, Bool.and_eq_true, decide_eq_true_eq, hk, ht, hr, ha, key, threshold, refresh, answer, and_assoc]

/-- Neither length of a screen body was changed: the maximum is raised to the minimum (R93). -/
theorem screenExact_iff {b : ScreenBody} {r : ScreenRec} (hmin : r.minLength = clamp 1 24 b.minLength.toNat)
    (hmax : r.maxLength = max (clamp 1 24 b.minLength.toNat) (clamp 1 24 b.maxLength.toNat)) :
    screenExact b r = true ↔
      1 ≤ b.minLength.toNat ∧ b.minLength.toNat ≤ b.maxLength.toNat ∧ b.maxLength.toNat ≤ 24 := by
  simp only [screenExact, Bool.and_eq_true, decide_eq_true_eq, hmin, hmax, clamp]
  omega

/-! ## The bodies of SET CLASS and SET SCREEN -/

theorem classFields?_none {b : ClassBody} (h : 7 < b.cls.toNat ∨ 3 < b.verdict.toNat ∨ 1 < b.policy.toNat) :
    classFields? b = none := by
  unfold classFields?
  split
  case h_2 => rfl
  case h_1 hc hv hp =>
    rcases h with h | h | h
    · simp [below_none h] at hc
    · simp [verdictOf_none h] at hv
    · simp [policyOf_none h] at hp

theorem classFields?_some {b : ClassBody} {c : ClassNo} {v : Verdict} {k : KeyWaitPolicy} (hc : c.val = b.cls.toNat)
    (hv : v.octet = b.verdict) (hk : k.octet = b.policy) :
    classFields? b = some (c, ⟨v, k, clamp 50 5000 b.keyWaitLimit.toNat, clamp 1 15 b.threshold.toNat,
      b.lockPeriod.toNat, clamp 10 3600 b.refreshInterval.toNat, clamp 100 2000 b.answerLimit.toNat⟩) := by
  simp only [classFields?, below_eq hc, ← hv, ← hk, verdictOf_octet, policyOf_octet]

/-- A bit of an octet is the bit of its number. -/
theorem octetBit_eq_testBit (o : Byte) (i : Nat) : octetBit o i = o.toNat.testBit i := by
  rw [octetBit, Nat.testBit_eq_decide_div_mod_eq, beq_eq_decide]

/-- A pattern position is read from its code, 12 for ANY (R203). -/
theorem positionOf_eq {o : Byte} {d : Option Digit} (h : (d.map Fin.val).getD 12 = o.toNat) : positionOf o = some d := by
  cases d with
  | none => exact if_pos h.symm
  | some x =>
    have hx : x.val = o.toNat := h
    have hlt : o.toNat < 12 := hx ▸ x.isLt
    simp only [positionOf, digitOf, if_neg (Nat.ne_of_lt hlt), dif_pos hlt, Option.map_some, Option.some.injEq]
    exact Fin.ext hx.symm

theorem positionOf_none {o : Byte} (h : 12 < o.toNat) : positionOf o = none := by
  simp [positionOf, digitOf, Nat.ne_of_gt h, Nat.not_lt.mpr (Nat.le_of_lt h)]

/-- The pattern of a body with a length in range and every read position a code (R93, step 2). -/
theorem patternOf_eq {b : ScreenBody} {pattern : List (Option Digit)} (h1 : 1 ≤ b.patternLength.toNat)
    (h12 : b.patternLength.toNat ≤ 12)
    (hp : pattern.map (fun d : Option Digit => (d.map Fin.val).getD 12) =
      (b.pattern.cells.take b.patternLength.toNat).map BitVec.toNat) : patternOf b = some pattern := by
  unfold patternOf
  rw [if_pos ⟨h1, h12⟩]
  exact readAll_eq (fun _ _ _ hd => positionOf_eq hd) hp

theorem patternOf_none {b : ScreenBody} (h : b.patternLength.toNat = 0 ∨ 12 < b.patternLength.toNat ∨
    ∃ i : Fin 12, i.val < b.patternLength.toNat ∧ 12 < (b.pattern.get i).toNat) : patternOf b = none := by
  unfold patternOf
  split
  case isFalse => rfl
  case isTrue hlen =>
    rcases h with h | h | ⟨i, hi, hv⟩
    · omega
    · omega
    · exact readAll_none (Table.get_mem_take b.pattern hi) (positionOf_none hv)

theorem screenFields?_none {b : ScreenBody}
    (h : 23 < b.screen.toNat ∨ b.patternLength.toNat = 0 ∨ 12 < b.patternLength.toNat ∨ 23 < b.offset.toNat ∨
      3 < b.verdict.toNat ∨ 1 < b.enabled.toNat ∨ 1 < b.inverse.toNat ∨ 1 < b.join.toNat ∨
      (∃ i : Fin 12, i.val < b.patternLength.toNat ∧ 12 < (b.pattern.get i).toNat)) : screenFields? b = none := by
  unfold screenFields?
  split
  case h_2 => rfl
  case h_1 hn hp ho hv =>
    split
    case h_2 => rfl
    case h_1 he hi hj =>
      rcases h with h | h | h | h | h | h | h | h | h
      · simp [below_none h] at hn
      · simp [patternOf_none (.inl h)] at hp
      · simp [patternOf_none (.inr (.inl h))] at hp
      · simp [below_none h] at ho
      · simp [verdictOf_none h] at hv
      · simp [flagOf_none h] at he
      · simp [flagOf_none h] at hi
      · simp [flagOf_none h] at hj
      · simp [patternOf_none (.inr (.inr h))] at hp

theorem screenFields?_some {b : ScreenBody} {n : ScreenNo} {pattern : List (Option Digit)} {v : Verdict}
    (hn : n.val = b.screen.toNat) (hp : patternOf b = some pattern) (ho : b.offset.toNat ≤ 23) (hv : v.octet = b.verdict)
    (he : b.enabled.toNat ≤ 1) (hi : b.inverse.toNat ≤ 1) (hj : b.join.toNat ≤ 1) :
    screenFields? b = some (n, ⟨decide (b.enabled = 1), Table.tabulate (fun c => b.classSet.toNat.testBit c.val),
      b.offset.toNat, pattern, clamp 1 24 b.minLength.toNat,
      max (clamp 1 24 b.minLength.toNat) (clamp 1 24 b.maxLength.toNat), decide (b.inverse = 1), decide (b.join = 1),
      v⟩) := by
  have offset : below 24 b.offset.toNat = some ⟨b.offset.toNat, by omega⟩ := below_eq rfl
  simp only [screenFields?, below_eq hn, hp, offset, ← hv, verdictOf_octet, flagOf_eq (Nat.lt_succ_of_le he),
    flagOf_eq (Nat.lt_succ_of_le hi), flagOf_eq (Nat.lt_succ_of_le hj), octetBit_eq_testBit]

/-- Settles O26: both requests store the record read from the body, and the code says whether a number was moved. -/
theorem setClassAndSetScreenStoreRecords : Obligations.SetClassAndSetScreenStoreRecords := by
  refine ⟨fun tag b s ht => ⟨fun h => ?_, fun c v k hc hv hk => ?_⟩,
    fun tag b s ht => ⟨fun h => ?_, fun n pattern v hn h1 h12 hp ho hv he hi hj => ?_⟩⟩
  · refine congrArg Host.Outcome.next (State.serve_refused rfl ht ?_)
    simp only [setClassAct, classFields?_none h]
  · refine congrArg Host.Outcome.next (State.serve_replied rfl ht ?_)
    simp only [setClassAct, classFields?_some hc hv hk, classExact_iff]
    rfl
  · refine congrArg Host.Outcome.next (State.serve_refused rfl ht ?_)
    simp only [setScreenAct, screenFields?_none h]
  · refine congrArg Host.Outcome.next (State.serve_replied rfl ht ?_)
    simp only [setScreenAct, screenFields?_some hn (patternOf_eq h1 h12 hp) ho hv he hi hj, screenExact_iff]
    rfl

/-! ## READ CLASS and READ SCREEN -/

/-- A pattern position's code in a reply (R203). -/
theorem positionOctet_eq (d : Option Digit) : positionOctet d = BitVec.ofNat 8 ((d.map Fin.val).getD 12) := by
  cases d <;> rfl

/-- A list whose items are one octet each (R204). -/
theorem listOctets_singletons {α : Type} (as : List α) (g : α → Byte) :
    listOctets (as.map (fun a => [g a])) = BitVec.ofNat 8 as.length :: as.map g := by
  rw [listOctets, List.length_map, ← List.flatMap_def, ← List.map_eq_flatMap]

/-- Settles O20: each read answers the record's fields in order. -/
theorem readClassAndReadScreenReportRecords : Obligations.ReadClassAndReadScreenReportRecords := by
  refine ⟨fun tag cls s ht => ⟨fun h => ?_, fun c hc => ?_⟩, fun tag screen s ht => ⟨fun h => ?_, fun n hn => ?_⟩⟩
  · refine congrArg Host.Outcome.next (State.serve_refused rfl ht ?_)
    simp only [readClassAct, below_none h]
  · refine congrArg Host.Outcome.next (State.serve_replied rfl ht ?_)
    simp only [readClassAct, below_eq hc]
    rfl
  · refine congrArg Host.Outcome.next (State.serve_refused rfl ht ?_)
    simp only [readScreenAct, below_none h]
  · refine congrArg Host.Outcome.next (State.serve_replied rfl ht ?_)
    simp only [readScreenAct, below_eq hn, State.report, ScreenRec.octets, listOctets_singletons, numOctet,
      positionOctet_eq, List.append_assoc, List.cons_append, List.nil_append]
    rfl

end Sys2Proof.Machine

/-!
PROOFS. The readings (O21, O22): READ PORT, READ KEYS, READ DEVICE, READ EXTENSION, READ CALL and READ CONTEXT.
-/

namespace Sys2Proof.Machine

/-! ## The head of the ring (R141) -/

/-- What the run of a test at the head of a list is. -/
theorem takeWhile_run {α : Type} (p : α → Bool) (l : List α) :
    (∀ k (hk : k < l.length), k < (l.takeWhile p).length → p l[k] = true) ∧
      (∀ h : (l.takeWhile p).length < l.length, p l[(l.takeWhile p).length] = false) := by
  induction l with
  | nil => simp
  | cons a as ih =>
    obtain ⟨inRun, afterRun⟩ := ih
    rw [List.takeWhile_cons]
    split
    case isFalse ha => simpa using ha
    case isTrue ha =>
      refine ⟨fun k hk hr => ?_, fun h => afterRun (by simpa using h)⟩
      cases k with
      | zero => exact ha
      | succ k => exact inRun k (by simpa using hk) (by simpa using hr)

/-- The run of a test at the head of the first values of a function. -/
theorem takeWhile_map_range_run {α : Type} (p : α → Bool) (g : Nat → α) (n : Nat) :
    (∀ k < (((List.range n).map g).takeWhile p).length, p (g k) = true) ∧
      ((((List.range n).map g).takeWhile p).length < n → p (g (((List.range n).map g).takeWhile p).length) = false) := by
  obtain ⟨inRun, afterRun⟩ := takeWhile_run p ((List.range n).map g)
  have le := (List.takeWhile_sublist (p := p) (l := (List.range n).map g)).length_le
  refine ⟨fun k hk => ?_, fun h => ?_⟩
  · simpa only [List.getElem_map, List.getElem_range] using inRun k (hk.trans_le le) hk
  · simpa only [List.getElem_map, List.getElem_range] using afterRun (h.trans_eq (by simp))

/-- Fresh Count counts the slots of the device. -/
theorem State.freshCount_eq (s : State) : s.freshCount = s.ring.cells.countP (fun r => decide (r.owner = .device)) := rfl

theorem State.reachableCount_le (s : State) : s.reachableCount ≤ 128 :=
  (List.takeWhile_sublist _).length_le.trans (by simp)

theorem State.reachable_device (s : State) (k : Nat) (hk : k < s.reachableCount) :
    (s.ring.get (ringAhead s.pointer k)).owner = .device :=
  of_decide_eq_true ((takeWhile_map_range_run RingSlot.fresh _ 128).1 k hk)

theorem State.reachable_end (s : State) (h : s.reachableCount < 128) :
    (s.ring.get (ringAhead s.pointer s.reachableCount)).owner = .host := by
  have past : (s.ring.get (ringAhead s.pointer s.reachableCount)).owner ≠ .device :=
    of_decide_eq_false ((takeWhile_map_range_run RingSlot.fresh _ 128).2 h)
  cases ho : (s.ring.get (ringAhead s.pointer s.reachableCount)).owner with
  | device => exact absurd ho past
  | host => rfl

/-! ## Readings -/

/-- A taken reading answers its octets and changes nothing (R193). -/
theorem State.serve_report {i : Instr} {f : Frame} {s : State} {act : State → State × Answer} {data : List Byte}
    (hf : i.frame? = some f) (ht : s.takes f = true) (ha : act (s.admitFrame f) = (s.admitFrame f).report data) :
    s.serve i act = s.replied f .done data :=
  State.serve_replied hf ht ha

/-- A list of lists as a count octet and their octets (R204). -/
theorem listOctets_map {α : Type} (as : List α) (g : α → List Byte) :
    listOctets (as.map g) = BitVec.ofNat 8 as.length :: as.flatMap g := by
  rw [listOctets, List.length_map, List.flatMap_def]

/-- Settles O21: each reading answers its values in order, and the two key counts are what R141 says. -/
theorem readPortKeysAndDevice : Obligations.ReadPortKeysAndDevice := by
  refine ⟨⟨fun tag port p s ht hp => ?_, fun tag s ht => ?_, fun tag s ht => ?_⟩, fun s =>
    ⟨s.freshCount_eq, s.reachableCount_le, s.reachable_device, s.reachable_end⟩⟩
  · refine congrArg Host.Outcome.next (State.serve_report rfl ht ?_)
    obtain rfl : octetPort port = p := Fin.ext hp.symm
    rfl
  · refine congrArg Host.Outcome.next (State.serve_report rfl ht ?_)
    have marks : s.heldKeys.cells.flatMap (fun k => flagOctet k.isSome) =
        s.heldKeys.cells.map (fun k => if k.isSome then 1 else 0) := List.map_eq_flatMap.symm
    rw [readKeysAct, State.keysOctets, listOctets_map]
    simp only [State.admitFrame_heldKeys, marks]
    rfl
  · refine congrArg Host.Outcome.next (State.serve_report rfl ht ?_)
    have holding : (s.admitFrame ⟨5, tag, []⟩).holding.length = if s.holding = [] then 1 else s.holding.length := by
      rw [State.admitFrame_holding]
      cases s.holding <;> rfl
    rw [readDeviceAct, State.deviceOctets, holding]
    rfl

/-! ## READ EXTENSION (R12, R203, R204) -/

/-- A pending challenge, or ten zeros for none. -/
theorem challengeOctets_eq (o : Option Challenge) : optOctets 9 (o.map Challenge.octets) =
    match o with
    | some c => 1 :: numWord c.port.val ++ longOctets c.nonce ++ optOctets 2 (c.remaining.map numWord)
    | none => List.replicate 10 0 := by
  cases o <;> rfl

/-- A lock; "until unlocked" is the value 0. -/
theorem lockOctets_eq (o : Option LockRemaining) : optOctets 2 (o.map LockRemaining.octets) =
    match o with
    | some (.seconds n) => 1 :: numWord n
    | some .untilUnlocked => [1, 0, 0]
    | none => [0, 0, 0] := by
  rcases o with _ | _ | _ <;> rfl

/-- The overdue mark and its cause. -/
theorem overdueOctets_eq (o : Option LapseCause) : flagOctet o.isSome ++ optOctets 1 (o.map (fun c => [c.octet])) =
    match o with
    | some cause => [1, 1, cause.octet]
    | none => [0, 0, 0] := by
  cases o <;> rfl

/-- The fields of an entry as READ EXTENSION answers them, with the octets beyond the number's count open. -/
theorem Entry.octets_eq (reply : Nat) (e : Entry) : ∃ padding : List Byte, padding.length = 6 - e.number.length ∧
    e.octets reply =
      BitVec.ofNat 8 e.number.length :: (e.number.map (fun d : Digit => BitVec.ofNat 8 d.val) ++ padding) ++
        [BitVec.ofNat 8 e.cls.val] ++ flagOctet e.secure ++ idWord (e.home.map Fin.val) ++ [e.state.octet] ++
        idWord (e.bound.map Fin.val) ++
        (match e.challenge with
          | some c => 1 :: numWord c.port.val ++ longOctets c.nonce ++ optOctets 2 (c.remaining.map numWord)
          | none => List.replicate 10 0) ++
        [BitVec.ofNat 8 e.failures] ++
        (match e.lock with
          | some (.seconds n) => 1 :: numWord n
          | some .untilUnlocked => [1, 0, 0]
          | none => [0, 0, 0]) ++
        optOctets 2 (e.refresh.map numWord) ++
        (match e.overdue with | some cause => [1, 1, cause.octet] | none => [0, 0, 0]) ++
        idWord (e.liveCall.map BitVec.toNat) := by
  refine ⟨(List.range (6 - e.number.length)).map (fun i => Config.numberPadding reply (e.number.length + i)), by simp, ?_⟩
  rw [← challengeOctets_eq, ← lockOctets_eq, ← overdueOctets_eq, Entry.octets, numberOctets]
  simp only [numOctet, List.append_assoc]

/-- A taken READ EXTENSION of an occupied position answers the entry's octets; the model counts the reply. -/
theorem execReadExtension_done {tag : Byte} {index : Word} {ix : ExtIx} {e : Entry} {s : State}
    (ht : s.takes ⟨4, tag, wordOctets index⟩ = true) (hi : ix.val = index.toNat) (he : s.entry? ix = some e) :
    exec (.readExtension tag index) s = .next ({ s with freeReads := s.freeReads + 1 }.replied
      ⟨4, tag, wordOctets index⟩ .done (e.octets s.freeReads)) := by
  refine congrArg Host.Outcome.next (State.serve_replied rfl ht ?_)
  rw [State.onEntry_some hi he]
  rfl

/-! ## READ CALL (R109, R139) -/

theorem State.onCall_noSuch {s : State} {id : CallId} {act : Call → State → State × Answer} (h : s.call? id = none)
    (g : Frame) : (s.admitFrame g).onCall id act = (s.admitFrame g).refuse .noSuch := by
  have : (s.admitFrame g).call? id = none := h
  simp only [State.onCall, this]

theorem State.onCall_some {s : State} {id : CallId} {c : Call} {act : Call → State → State × Answer}
    (h : s.call? id = some c) (g : Frame) : (s.admitFrame g).onCall id act = act c (s.admitFrame g) := by
  have : (s.admitFrame g).call? id = some c := h
  simp only [State.onCall, this]

/-- A path, with the context id of SCRAMBLE and DESCRAMBLE. -/
theorem State.pathOctets_eq (s : State) (d : SlotNo) : s.pathOctets d = numWord d.val ++
    (match s.connections.get d with
      | some p => numWord p.source.val ++
        (match p.transform with
          | .pass => [0]
          | .mute => [1]
          | .scramble x => 2 :: numWord x.val
          | .descramble x => 3 :: numWord x.val)
      | none => []) := by
  unfold State.pathOctets
  cases s.connections.get d with
  | none => rfl
  | some p =>
    dsimp only
    cases p.transform <;> rfl

/-! ## READ CONTEXT (R157, R174, R188) -/

theorem keySourceOctets_eq (k : Option KeySource) : keySourceOctets k =
    match k with
    | none => [0]
    | some (.drawn nk) => 1 :: longOctets nk
    | some (.heldSlot slot salt) => 2 :: numWord slot.val ++ longOctets salt := by
  rcases k with _ | _ | _ <;> rfl

theorem TxPart.octets_eq (b : Interval) (t : TxPart) : t.octets b =
    wordOctets t.epoch ++ [BitVec.ofNat 8 (t.epoch.toNat % 2)] ++ numLong t.n ++ [BitVec.ofNat 8 (t.n / b.frames)] ++
      numWord (t.n % b.frames) ++ [BitVec.ofNat 8 t.collected.length] ++ flagOctet t.emitting.isSome := rfl

theorem RxPart.octets_eq (x : CtxConfig) (r : RxPart) : r.octets x =
    [r.state.octet] ++ flagOctet r.virgin ++ wordOctets r.epoch ++ [BitVec.ofNat 8 (r.epoch.toNat % 2)] ++ numLong r.n ++
      [BitVec.ofNat 8 (r.n / x.interval.frames)] ++ numWord (r.n % x.interval.frames) ++
      [BitVec.ofNat 8 r.miss, BitVec.ofNat 8 x.loss] ++ flagOctet r.previous.isSome ++
      (if r.state = .hunt then
        match r.parse with
        | .none => [0, 0, 0]
        | .seen150 => [1, 0, 0]
        | .seen150105 => [2, 0, 0]
        | .seenQ q => [3, q, 0]
        | .seenInfo q info => [4, q, info]
      else []) ++
      (if x.mode = .shuffle
        then BitVec.ofNat 8 (r.rebuild.cells.countP Option.isSome) :: flagOctet r.ready.isSome else []) := by
  simp only [RxPart.octets, numOctet, List.append_assoc, List.cons_append, List.nil_append]
  rfl

/-- A taken READ CONTEXT of a context in range answers the context's octets. -/
theorem execReadContext_done {tag context : Byte} {c : CtxId} {s : State} (ht : s.takes ⟨47, tag, [context]⟩ = true)
    (hc : c.val = context.toNat) :
    exec (.readContext tag context) s = .next (s.replied ⟨47, tag, [context]⟩ .done (s.context c).octets) := by
  refine congrArg Host.Outcome.next (State.serve_report rfl ht ?_)
  simp only [readContextAct, below_eq hc]
  rfl

/-- Settles O22: READ EXTENSION, READ CALL and READ CONTEXT by what stands at the position read, each list of octets cut
into the fields it is made of. -/
theorem readExtensionCallAndContext : Obligations.ReadExtensionCallAndContext := by
  refine ⟨fun tag index s ht => ⟨fun hi => ?_, fun ix hi he => ?_, fun ix e hi he => ?_⟩,
    fun tag id s ht => ⟨fun hc => ?_, fun c hc => ?_⟩,
    fun tag context s ht => ⟨fun hi => ?_, fun c hc hx => ?_, fun c x k frames hc hk hx hf => ?_⟩⟩
  · exact congrArg Host.Outcome.next (State.serve_refused rfl ht (State.onEntry_badRequest _ hi))
  · exact congrArg Host.Outcome.next (State.serve_refused rfl ht (State.onEntry_noSuch hi he _))
  · obtain ⟨padding, hlen, hoctets⟩ := e.octets_eq s.freeReads
    exact ⟨padding, hlen, (execReadExtension_done ht hi he).trans (congrArg (fun data => Host.Outcome.next
      ({ s with freeReads := s.freeReads + 1 }.replied ⟨4, tag, wordOctets index⟩ .done data)) hoctets)⟩
  · refine congrArg Host.Outcome.next (State.serve_refused rfl ht ?_)
    exact State.onCall_noSuch hc _
  · refine congrArg Host.Outcome.next (State.serve_report rfl ht ?_)
    rw [State.onCall_some hc, readCallAct, State.callOctets, listOctets_map, listOctets_map,
      funext (State.pathOctets_eq _)]
    rfl
  · refine congrArg Host.Outcome.next (State.serve_refused rfl ht ?_)
    simp only [readContextAct, below_none hi]
  · rw [execReadContext_done ht hc, Context.octets, hx]
    rfl
  · subst hf
    rw [execReadContext_done ht hc, hk, Context.octets, hx]
    simp only [Context.sideOctets, keySourceOctets_eq, TxPart.octets_eq, RxPart.octets_eq, numOctet, callWord,
      List.append_assoc]
    cases k.tx <;> cases k.rx <;> rfl

end Sys2Proof.Machine

/-!
PROOFS. The warm restart of the entries and the ports (O6; R19, R20).
-/

namespace Sys2Proof.Machine

/-! ## An entry at the warm restart, by its overdue mark and its state -/

section Entry

variable {e : Entry}

theorem Entry.warm_overdue (h : e.overdue ≠ none) (n : Nat) : e.warm n = { e with
    state := .unbound, bound := none, challenge := none, refresh := none, refreshDue := false, overdue := none,
    liveCall := none } := by
  rw [Entry.warm, if_pos (Option.isSome_iff_ne_none.mpr h)]

theorem Entry.warm_admitted (ho : e.overdue = none) (hs : e.state = .admitted) (n : Nat) :
    e.warm n = { e with refresh := some n, refreshDue := false, liveCall := none } := by
  simp [Entry.warm, ho, hs]

theorem Entry.warm_moving (ho : e.overdue = none) (hs : e.state = .moving) (n : Nat) : e.warm n = { e with
    state := .admitted, challenge := none, refresh := some n, refreshDue := false, liveCall := none } := by
  simp [Entry.warm, ho, hs]

theorem Entry.warm_challenged (ho : e.overdue = none) (hs : e.state = .challenged) (n : Nat) :
    e.warm n = { e with state := .unbound, challenge := none, liveCall := none } := by
  simp [Entry.warm, ho, hs]

theorem Entry.warm_atRest (ho : e.overdue = none) (hs : e.state = .unbound ∨ e.state = .locked) (n : Nat) :
    e.warm n = { e with liveCall := none } := by
  rcases hs with hs | hs <;> simp [Entry.warm, ho, hs]

end Entry

/-! ## A port at the warm restart -/

/-- The extension bound at the port is overdue. -/
theorem State.releasedWarm_eq (s : State) (r : PortRec) :
    s.releasedWarm r = r.bound.any (fun ix => (s.entry? ix).any (fun e => e.overdue.isSome)) := by
  unfold State.releasedWarm
  cases r.bound <;> rfl

theorem State.warmPort_eq (s : State) (r : PortRec) : s.warmPort r = ⟨r.presence, 0,
    r.bound.filter (fun ix => !(s.entry? ix).any (fun e => e.overdue.isSome)), .on, .idle, [], none, none⟩ := by
  have bound : (if s.releasedWarm r then none else r.bound) =
      r.bound.filter (fun ix => !(s.entry? ix).any (fun e => e.overdue.isSome)) := by
    rw [State.releasedWarm_eq]
    cases hb : r.bound with
    | none => rfl
    | some ix => cases hx : (s.entry? ix).any (fun e => e.overdue.isSome) <;> simp [Option.filter, hx]
  simp only [State.warmPort, bound]

/-! ## The restart -/

/-- A warm restart taken leaves the directory, the ports and the loops of `State.warmBlocks`. -/
theorem execRestartWarm_blocks {tag : Byte} {s t : State} (ht : s.takes ⟨7, tag, [1]⟩ = true)
    (h : exec (.restartWarm tag) s = .next t) :
    (∀ ix, t.entry? ix = s.warmBlocks.entry? ix) ∧ (∀ p, t.port p = s.warmBlocks.port p) ∧
      (∀ l, t.loop l = s.warmBlocks.loop l) := by
  have served : s.serve (.restartWarm tag) restartWarmAct = t := Host.Outcome.next.inj h
  rw [State.serve_frame (f := ⟨7, tag, [1]⟩) rfl, State.request_taken ht] at served
  subst served
  exact ⟨fun _ => rfl, fun _ => rfl, fun _ => rfl⟩

/-- Settles O6: the blocks of a warm restart, read entry by entry, port by port and queue by queue. -/
theorem warmRestartOfEntriesAndPorts : Obligations.WarmRestartOfEntriesAndPorts := by
  refine ⟨fun tag s t ht h => ?_, fun tag s t ht h => ?_⟩
  · obtain ⟨entry, _, _⟩ := execRestartWarm_blocks ht h
    have kept : ∀ {ix e}, s.entry? ix = some e → t.entry? ix = some (e.warm (s.classes.get e.cls).refreshInterval) :=
      fun {ix e} he => by rw [entry, State.entry_warmBlocks, he]; rfl
    refine ⟨fun ix he => by rw [entry, State.entry_warmBlocks, he]; rfl, fun ix e he ho => ?_, fun ix e he ho hs => ?_,
      fun ix e he ho hs => ?_, fun ix e he ho hs => ?_, fun ix e he ho hs => ?_⟩
    · rw [kept he, Entry.warm_overdue ho]
    · rw [kept he, Entry.warm_admitted ho hs]
    · rw [kept he, Entry.warm_moving ho hs]
    · rw [kept he, Entry.warm_challenged ho hs]
    · rw [kept he, Entry.warm_atRest ho hs]
  · obtain ⟨_, port, loop⟩ := execRestartWarm_blocks ht h
    refine ⟨fun p => by rw [port, State.port_warmBlocks, State.warmPort_eq], fun l => ?_⟩
    rw [loop, State.loop_warmBlocks]
    simp only [State.warmLoop, State.warmQueue, State.releasedWarm_eq, Bool.and_comm]

end Sys2Proof.Machine

/-!
PROOFS. The mix by its stages (O55; R21, R22, R31).
-/

namespace Sys2Proof.Machine

/-! ## The stages of the mix (R21) -/

@[simp] theorem toNat_lowWord (t : Long) : (lowWord t).toNat = t.toNat % 65536 := by
  simp [lowWord]

@[simp] theorem toNat_highWord (t : Long) : (highWord t).toNat = t.toNat / 65536 := by
  simp only [highWord, BitVec.toNat_ofNat]
  have := t.isLt
  omega

/-- Stages 2 and 4: the product and sum in full, then the remainder (R22). -/
theorem toNat_multiplyAdd (a k : Word) : (a * 40503 + k).toNat = (a.toNat * 40503 + k.toNat) % 65536 := by
  simp [BitVec.toNat_add, BitVec.toNat_mul]

/-- Stage 5: the exclusive-or with the high octet. -/
theorem toNat_foldHighOctet (a : Word) : (a ^^^ a >>> 8).toNat = a.toNat ^^^ a.toNat / 256 := by
  simp [BitVec.toNat_xor, BitVec.toNat_ushiftRight, Nat.shiftRight_eq_div_pow]

/-- The mix in numbers: `a` is what stage 2 leaves, `b` what stage 4 leaves. -/
theorem toNat_mix {t : Long} {k : Key} {a b : Nat}
    (ha : a = ((t.toNat % 65536 ^^^ k.k0.toNat) * 40503 + k.k1.toNat) % 65536)
    (hb : b = ((a ^^^ t.toNat / 65536 ^^^ k.k2.toNat) * 40503 + k.k3.toNat) % 65536) :
    (mix t k).toNat = b ^^^ b / 256 := by
  unfold mix
  rw [toNat_foldHighOctet]
  simp only [toNat_multiplyAdd, BitVec.toNat_xor, toNat_lowWord, toNat_highWord, ← ha, ← hb]

/-- Settles O55, stage by stage. -/
theorem mixFollowsItsStages : Obligations.MixFollowsItsStages := by
  refine ⟨fun t k a ha => toNat_mix ha rfl, fun k => rfl, ?_, ?_, ?_⟩
  · decide
  · decide
  · decide

end Sys2Proof.Machine

/-!
PROOFS. A receive side in step with a transmit side (O57; R33 to R36, R176, R182 to R184).
-/

namespace Sys2Proof.Machine

/-! ## The shuffle order (R34 to R36) -/

/-- The multiplier is odd. -/
theorem multiplier_cases (w : Word) : multiplier w = 1 ∨ multiplier w = 3 ∨ multiplier w = 5 ∨ multiplier w = 7 := by
  unfold multiplier
  omega

/-- Every odd multiplier is its own inverse modulo 8, so the original position `i` is found at the received position
`a × (i − b)` modulo 8 (R36). -/
theorem exists_shufflePosition_eq (w : Word) (i : Fin 8) : ∃ j < 8, shufflePosition w j = i := by
  refine ⟨multiplier w * (i.val + 8 - offset w) % 8, Nat.mod_lt _ (by decide), Fin.ext ?_⟩
  have inRange : offset w < 8 := Nat.mod_lt _ (by decide)
  have := i.isLt
  simp only [shufflePosition]
  rcases multiplier_cases w with h | h | h | h <;> rw [h] <;> omega

/-! ## Positions and counters -/

/-- A block lies within one beacon interval. -/
theorem mod_frames_add (b : Interval) {n j : Nat} (hn : n % 8 = 0) (hj : j < 8) :
    (n + j) % b.frames = n % b.frames + j := by
  cases b <;> simp only [Interval.frames] <;> omega

theorem lt_lastFrame_iff (b : Interval) (n : Nat) : n < b.lastFrame ↔ n + 1 < 256 * b.frames := by
  unfold Interval.lastFrame
  omega

theorem RxPart.advance_within {b : Interval} {r : RxPart} (h : r.n + 1 < 256 * b.frames) :
    r.advance b = { r with n := r.n + 1 } :=
  if_pos ((lt_lastFrame_iff b r.n).mpr h)

theorem RxPart.advance_wrap {b : Interval} {r : RxPart} (h : r.n + 1 = 256 * b.frames) :
    r.advance b = { r with n := 0, epoch := r.epoch + 1, previous := some r.key, key := nextKey r.key } :=
  if_neg (by rw [lt_lastFrame_iff]; omega)

/-- The counter's advance touches the counter, the epoch and the keys only. -/
theorem RxPart.advance_keeps (b : Interval) (r : RxPart) : (r.advance b).state = r.state ∧ (r.advance b).miss = r.miss ∧
    (r.advance b).rebuild = r.rebuild ∧ (r.advance b).ready = r.ready := by
  unfold RxPart.advance
  split <;> exact ⟨rfl, rfl, rfl, rfl⟩

/-! ## The transmit output (R164, R166) -/

theorem TxPart.output_mask {t : TxPart} {b : Interval} (hp : 8 ≤ t.n % b.frames) (idle input : Byte) :
    t.output b .mask false idle input = input ^^^ frameMask t.n t.key := by
  rw [TxPart.output, if_neg (by unfold intervalPos; omega)]
  rfl

theorem TxPart.output_shuffle {t : TxPart} {b : Interval} {block : Table Byte 8} (hp : 8 ≤ t.n % b.frames)
    (he : t.emitting = some block) (idle input : Byte) : t.output b .shuffle false idle input =
      block.get (shufflePosition (shuffleWord (t.n / 8) t.key) (t.n % 8)) ^^^ frameMask t.n t.key := by
  rw [TxPart.output, if_neg (by unfold intervalPos; omega)]
  simp [TxPart.voice, he, TxPart.shuffled]

/-! ## The receive output (R182 to R184) -/

theorem RxPart.output_idle {b : Interval} {r : RxPart} (h : r.state = .hunt ∨ r.state = .failed ∨ r.n % b.frames < 8)
    (mode : Mode) (idle octet : Byte) : r.output b mode idle octet = idle := by
  unfold RxPart.output
  rcases h with h | h | h
  · rw [h]
  · rw [h]
  · cases r.state with
    | hunt | failed => rfl
    | locked | flywheel => exact if_pos h

section Following

variable {b : Interval} {r : RxPart} (hs : r.state = .locked ∨ r.state = .flywheel)
include hs

theorem RxPart.output_mask (hp : 8 ≤ r.n % b.frames) (idle octet : Byte) :
    r.output b .mask idle octet = octet ^^^ frameMask r.n r.key := by
  unfold RxPart.output
  rcases hs with hs | hs <;> rw [hs] <;> exact if_neg (Nat.not_lt.mpr hp)

theorem RxPart.output_shuffle (hp : 8 ≤ r.n % b.frames) (idle octet : Byte) : r.output b .shuffle idle octet =
    r.ready.elim idle (fun block => block.get ⟨r.n % 8, Nat.mod_lt _ (by decide)⟩) := by
  have past : ¬ intervalPos b r.n < 8 := Nat.not_lt.mpr hp
  unfold RxPart.output
  rcases hs with hs | hs <;> rw [hs] <;> cases hr : r.ready <;> exact if_neg past

/-- The Rebuild Block after a frame's octet (R36, R184): the first block after a beacon block is not rebuilt. -/
theorem RxPart.rebuild_place_shuffle (octet : Byte) : (r.place b .shuffle octet).rebuild =
    if 16 ≤ r.n % b.frames then
      r.rebuild.set (shufflePosition (shuffleWord (r.n / 8) r.key) (r.n % 8)) (some (octet ^^^ frameMask r.n r.key))
    else r.rebuild := by
  have swap : 16 ≤ r.n % b.frames ↔ ¬ intervalPos b r.n < 16 := Nat.not_lt.symm
  unfold RxPart.place
  rcases hs with hs | hs <;> rw [hs] <;> simp only [swap, ite_not] <;> split <;> rfl

/-- Outside check frames the examination of a following side keeps octets at most (R180). -/
theorem RxPart.examine_off_check (hp : r.n % b.frames ≠ 4) (mode : Mode) (loss : Nat) (key0 : Key) (octet : Byte) :
    ∃ window, r.examine b mode loss key0 octet = ⟨{ r with window := window }, false, none⟩ := by
  have follows : r.examine b mode loss key0 octet = r.follow b mode loss octet := by
    unfold RxPart.examine
    rcases hs with hs | hs <;> rw [hs]
  have off : ¬ intervalPos b r.n = 4 := hp
  simp only [follows, RxPart.follow, if_neg off]
  split_ifs
  · exact ⟨[octet], rfl⟩
  · exact ⟨r.window ++ [octet], rfl⟩
  · exact ⟨r.window, rfl⟩

end Following

/-! ## The blocks of the receive side (R184) -/

/-- Placing an octet touches the Rebuild Block only. -/
theorem RxPart.place_eq (b : Interval) (mode : Mode) (octet : Byte) (r : RxPart) :
    r.place b mode octet = { r with rebuild := (r.place b mode octet).rebuild } := by
  unfold RxPart.place
  split
  · split <;> rfl
  · split <;> rfl
  · rfl

/-- The hand-over touches the two blocks only. -/
theorem RxPart.handOver_eq (b : Interval) (r : RxPart) :
    r.handOver b = { r with rebuild := (r.handOver b).rebuild, ready := (r.handOver b).ready } := by
  unfold RxPart.handOver
  split <;> rfl

theorem RxPart.handOver_midBlock {r : RxPart} (h : r.n % 8 ≠ 7) (b : Interval) : r.handOver b = r :=
  if_neg (by simpa [endsBlock] using h)

theorem RxPart.handOver_endBlock {r : RxPart} (h : r.n % 8 = 7) (b : Interval) : r.handOver b =
    { r with ready := if (r.n + 1) % b.frames = 0 then none else filledBlock r.rebuild, rebuild := emptyRebuild } := by
  simp [RxPart.handOver, endsBlock, h, beaconNext]

theorem all_isSome_cells_iff {t : Table (Option Byte) 8} : t.cells.all Option.isSome = true ↔ ∀ j, (t.get j).isSome := by
  rw [List.all_eq_true, List.forall_mem_iff_get]
  exact ⟨fun h j => h (j.cast t.size.symm), fun h j => h (j.cast t.size)⟩

/-- A Rebuild Block is filled with a block's octets exactly when every position holds the block's octet. -/
theorem filledBlock_eq_some_iff {t : Table (Option Byte) 8} {block : Table Byte 8} :
    filledBlock t = some block ↔ ∀ j, t.get j = some (block.get j) := by
  unfold filledBlock
  constructor
  · intro h j
    split at h
    case isTrue full =>
      cases h
      obtain ⟨octet, ho⟩ := Option.isSome_iff_exists.mp (all_isSome_cells_iff.mp full j)
      simp [ho]
    case isFalse => cases h
  · intro h
    rw [if_pos (all_isSome_cells_iff.mpr fun j => by simp [h j])]
    exact congrArg some (Table.ext_get fun j => by simp [h j])

/-! ## A frame outside check frames (R176) -/

section OffCheck

variable {b : Interval} {mode : Mode} {r : RxPart} (hs : r.state = .locked ∨ r.state = .flywheel)
  (hp : r.n % b.frames ≠ 4)
include hs hp

/-- A following side's frame: the octet placed, the hand-over and the counter's advance. -/
theorem RxPart.step_off_check (loss : Nat) (key0 : Key) (octet : Byte) : ∃ window, r.step b mode loss key0 octet =
    (RxPart.advance b (RxPart.handOver b
      { r with rebuild := (r.place b mode octet).rebuild, stepped := true, window := window }), none) := by
  have placed : { r with stepped := true }.place b mode octet =
      { r with rebuild := (r.place b mode octet).rebuild, stepped := true } := by
    unfold RxPart.place
    cases mode <;> rcases hs with hs | hs <;> simp only [hs] <;> split <;> rfl
  obtain ⟨window, examined⟩ := RxPart.examine_off_check
    (r := { r with rebuild := (r.place b mode octet).rebuild, stepped := true }) hs hp mode loss key0 octet
  exact ⟨window, by simp only [RxPart.step, placed, examined, Bool.false_eq_true, if_false]⟩

/-- Its counter advances over a part that differs from the old one in blocks, kept octets and the model's mark only. -/
theorem RxPart.step_off_check_advance (loss : Nat) (key0 : Key) (octet : Byte) : ∃ rebuild ready window,
    r.step b mode loss key0 octet = (RxPart.advance b
      { r with rebuild := rebuild, ready := ready, stepped := true, window := window }, none) := by
  obtain ⟨window, stepped⟩ := RxPart.step_off_check (mode := mode) hs hp loss key0 octet
  rw [RxPart.handOver_eq] at stepped
  exact ⟨_, _, window, stepped⟩

theorem RxPart.step_midBlock (h : r.n % 8 ≠ 7) (loss : Nat) (key0 : Key) (octet : Byte) :
    (r.step b mode loss key0 octet).1.rebuild = (r.place b mode octet).rebuild ∧
      (r.step b mode loss key0 octet).1.ready = r.ready := by
  obtain ⟨window, stepped⟩ := RxPart.step_off_check (mode := mode) hs hp loss key0 octet
  simp only [RxPart.handOver_midBlock, ne_eq, h, not_false_eq_true] at stepped
  obtain ⟨_, _, rebuild, ready⟩ := RxPart.advance_keeps b
    { r with rebuild := (r.place b mode octet).rebuild, stepped := true, window := window }
  rw [stepped]
  exact ⟨rebuild, ready⟩

theorem RxPart.step_endBlock (h : r.n % 8 = 7) (loss : Nat) (key0 : Key) (octet : Byte) :
    (r.step b mode loss key0 octet).1.rebuild = emptyRebuild ∧ (r.step b mode loss key0 octet).1.ready =
      if (r.n + 1) % b.frames = 0 then none else filledBlock (r.place b mode octet).rebuild := by
  obtain ⟨window, stepped⟩ := RxPart.step_off_check (mode := mode) hs hp loss key0 octet
  simp only [RxPart.handOver_endBlock, h] at stepped
  rw [stepped]
  obtain ⟨_, _, rebuild, ready⟩ := RxPart.advance_keeps b { r with
    ready := if (r.n + 1) % b.frames = 0 then none else filledBlock (r.place b mode octet).rebuild
    rebuild := emptyRebuild, stepped := true, window := window }
  exact ⟨rebuild, ready⟩

end OffCheck

/-! ## In step with the transmitter (R33, R36, R182) -/

/-- A mask applied a second time gives back the octet (R33). -/
theorem unmask_mask (octet mask : Byte) : octet ^^^ mask ^^^ mask = octet := by
  rw [BitVec.xor_assoc, BitVec.xor_self, BitVec.xor_zero]

/-- A side in step puts each emitted octet back where the transmitter took it from. -/
theorem RxPart.rebuild_place_output {t : TxPart} {r : RxPart} {b : Interval} {voice : Table Byte 8}
    (hs : r.state = .locked ∨ r.state = .flywheel) (hn : r.n = t.n) (hk : r.key = t.key) (hp : 16 ≤ t.n % b.frames)
    (he : t.emitting = some voice) (idle input : Byte) {p : Fin 8}
    (hq : shufflePosition (shuffleWord (t.n / 8) t.key) (t.n % 8) = p) :
    (r.place b .shuffle (t.output b .shuffle false idle input)).rebuild = r.rebuild.set p (some (voice.get p)) := by
  rw [RxPart.rebuild_place_shuffle hs, TxPart.output_shuffle (by omega) he, hn, hk, if_pos hp, unmask_mask, hq]

/-- The receive part after the first `k` octets of a block that a transmit part emits from counter `n` on. -/
def RxPart.receiveBlock (b : Interval) (idle : Byte) (t : TxPart) (n : Nat) (r : RxPart) (k : Nat) : RxPart :=
  (List.range k).foldl
    (fun r j => { r with n := n + j }.place b .shuffle ({ t with n := n + j }.output b .shuffle false idle 0)) r

theorem RxPart.receiveBlock_succ (b : Interval) (idle : Byte) (t : TxPart) (n : Nat) (r : RxPart) (k : Nat) :
    r.receiveBlock b idle t n (k + 1) = { r.receiveBlock b idle t n k with n := n + k }.place b .shuffle
      ({ t with n := n + k }.output b .shuffle false idle 0) := by
  simp only [RxPart.receiveBlock, List.range_succ, List.foldl_append, List.foldl_cons, List.foldl_nil]

/-- The octets received so far stand at their original positions, and state and key are those of the start. -/
theorem RxPart.receiveBlock_placed {t : TxPart} {r : RxPart} {b : Interval} {n : Nat} {voice : Table Byte 8}
    (hs : r.state = .locked) (hk : r.key = t.key) (hn : n % 8 = 0) (hp : 16 ≤ n % b.frames)
    (he : t.emitting = some voice) (idle : Byte) : ∀ k ≤ 8,
      (r.receiveBlock b idle t n k).state = .locked ∧ (r.receiveBlock b idle t n k).key = t.key ∧
        ∀ j < k, (r.receiveBlock b idle t n k).rebuild.get (shufflePosition (shuffleWord (n / 8) t.key) j) =
          some (voice.get (shufflePosition (shuffleWord (n / 8) t.key) j))
  | 0, _ => ⟨hs, hk, fun j hj => absurd hj (Nat.not_lt_zero j)⟩
  | k + 1, hle => by
    obtain ⟨state, key, placed⟩ := RxPart.receiveBlock_placed hs hk hn hp he idle k (by omega)
    have position := mod_frames_add b hn (Nat.lt_of_succ_le hle)
    have block : (n + k) / 8 = n / 8 ∧ (n + k) % 8 = k := by omega
    have rebuild := RxPart.rebuild_place_output (t := { t with n := n + k })
      (r := { r.receiveBlock b idle t n k with n := n + k }) (b := b) (.inl state) rfl key
      (by simp only [position]; omega) he idle 0 (by rw [block.1, block.2])
    rw [RxPart.receiveBlock_succ, RxPart.place_eq, rebuild]
    refine ⟨state, key, fun j hj => ?_⟩
    rw [Table.get_set]
    split
    case isTrue same => rw [same]
    case isFalse other =>
      exact placed j (Nat.lt_of_le_of_ne (Nat.le_of_lt_succ hj) fun h => other (by rw [h]))

/-- Once the eight octets have been placed the Rebuild Block holds the far voice (R36). -/
theorem RxPart.filledBlock_receiveBlock {t : TxPart} {r : RxPart} {b : Interval} {n : Nat} {voice : Table Byte 8}
    (hs : r.state = .locked) (hk : r.key = t.key) (hn : n % 8 = 0) (hp : 16 ≤ n % b.frames)
    (he : t.emitting = some voice) (idle : Byte) : filledBlock (r.receiveBlock b idle t n 8).rebuild = some voice := by
  obtain ⟨_, _, placed⟩ := RxPart.receiveBlock_placed hs hk hn hp he idle 8 le_rfl
  refine filledBlock_eq_some_iff.mpr fun i => ?_
  obtain ⟨j, hj, rfl⟩ := exists_shufflePosition_eq (shuffleWord (n / 8) t.key) i
  exact placed j hj

/-- Settles O57: recovery by mode, then the output, the blocks and the counter of a following side. -/
theorem alignedReceiverRecoversVoice : Obligations.AlignedReceiverRecoversVoice := by
  refine ⟨⟨?maskRecovered, ?blockRecovered⟩, ?output, ?blocks, ?counter⟩
  case maskRecovered =>
    intro t r b idle idle' voice hs hn hk hp
    rw [RxPart.output_mask hs (hn ▸ hp), TxPart.output_mask hp, hn, hk, unmask_mask]
  case blockRecovered =>
    intro key b n voice idle t r hn hp ht he hs hr
    exact RxPart.filledBlock_receiveBlock hs (hr.trans ht.symm) hn hp he idle
  case output =>
    intro b mode idle octet r
    refine ⟨fun h => RxPart.output_idle h mode idle octet, fun hs hp => ⟨?_, ?_, ?_⟩⟩
    · rintro rfl
      exact RxPart.output_mask hs hp idle octet
    · rintro rfl hr
      rw [RxPart.output_shuffle hs hp, hr, Option.elim_none]
    · rintro block rfl hr
      rw [RxPart.output_shuffle hs hp, hr, Option.elim_some]
  case blocks =>
    rintro b loss key0 octet w placed r t hs hp rfl hplaced rfl
    replace hplaced : placed = (r.place b .shuffle octet).rebuild :=
      hplaced.trans (RxPart.rebuild_place_shuffle hs octet).symm
    subst hplaced
    refine ⟨fun h => RxPart.step_midBlock hs hp h loss key0 octet, fun h => ?_⟩
    obtain ⟨rebuild, ready⟩ := RxPart.step_endBlock (mode := .shuffle) hs hp h loss key0 octet
    refine ⟨rebuild, fun beacon => by rw [ready, if_pos beacon], fun block beacon => ?_⟩
    rw [ready, if_neg beacon, filledBlock_eq_some_iff]
  case counter =>
    rintro b mode loss key0 octet r t hs hp rfl
    obtain ⟨rebuild, ready, window, stepped⟩ := RxPart.step_off_check_advance (mode := mode) hs hp loss key0 octet
    rw [stepped]
    obtain ⟨state, miss, _, _⟩ := RxPart.advance_keeps b
      { r with rebuild := rebuild, ready := ready, stepped := true, window := window }
    refine ⟨⟨rfl, state, miss⟩, fun h => ?_, fun h => ?_⟩
    · simp [RxPart.advance_within, h]
    · simp [RxPart.advance_wrap, h]

end Sys2Proof.Machine

/-!
PROOFS. What an update may do to the invariants of the queues, the key store and the counts (O9, O11): the rules of one
record each, and the updates that keep every one of these invariants.
-/

namespace Sys2Proof.Machine

/-! ## One outbound queue (R39, R57 to R61) -/

/-- A queue without the records that fail a test: its device blocks are no more for any address. -/
theorem deviceFor_filter_le (st : Station) (p : QueueRec → Bool) (q : List QueueRec) :
    (q.filter p).countP (QueueRec.deviceFor st) ≤ q.countP (QueueRec.deviceFor st) :=
  List.filter_sublist.countP_le

theorem relays_append (q u : List QueueRec) : relays (q ++ u) = relays q + relays u := List.countP_append

/-- A queue whose relay blocks all pass a test has as many of them once the others are out. -/
theorem relays_filter {p : QueueRec → Bool} {q : List QueueRec} (h : ∀ r ∈ q, r.block.origin = .relay → p r = true) :
    relays (q.filter p) = relays q := by
  unfold relays
  rw [List.countP_filter]
  exact List.countP_congr fun r hr => by simpa using h r hr

/-- Device blocks taken out of a queue leave it well. -/
theorem LoopRec.queueWell.filter_device {r : LoopRec} (h : r.queueWell) {p : QueueRec → Bool}
    (relay : ∀ q : QueueRec, q.block.origin = .relay → p q = true) : ({ r with queue := r.queue.filter p } : LoopRec).queueWell := by
  obtain ⟨device, count, bound⟩ := h
  exact ⟨fun st => (deviceFor_filter_le st p _).trans (device st), by rw [relays_filter fun q _ => relay q, count], bound⟩

theorem QueueRec.deviceFor_relay {q : QueueRec} (h : q.block.origin = .relay) (st : Station) : q.deviceFor st = false := by
  simp [QueueRec.deviceFor, h]

theorem QueueRec.challengeFor_relay {q : QueueRec} (h : q.block.origin = .relay) (st : Station) (n : Long) :
    q.challengeFor st n = false := by
  have : q.block ≠ .challenge n := fun hb => by simp [hb, OutBlock.origin] at h
  simp [QueueRec.challengeFor, this]

/-- A device block joins the tail in place of the older one for its address (R58). -/
theorem LoopRec.queueWell.offer {r : LoopRec} (h : r.queueWell) (st : Station) {b : OutBlock} (hb : b.origin = .device) :
    ({ r with queue := r.queue.filter (fun q => !q.deviceFor st) ++ [⟨st, b⟩] } : LoopRec).queueWell := by
  obtain ⟨device, count, bound⟩ := h.filter_device (p := fun q => !q.deviceFor st)
    fun q hq => by simp [QueueRec.deviceFor_relay hq]
  refine ⟨fun k => ?_, ?_, bound⟩
  · have one := device k
    rw [List.countP_append]
    by_cases hk : k = st
    · subst hk
      have none : (r.queue.filter (fun q => !q.deviceFor k)).countP (QueueRec.deviceFor k) = 0 := by
        simp [List.countP_eq_zero]
      rw [none, Nat.zero_add]
      exact List.countP_le_length
    · have other : QueueRec.deviceFor k ⟨st, b⟩ = false := by simp [QueueRec.deviceFor, Ne.symm hk]
      simpa [other] using one
  · rw [relays_append, ← count]
    simp [relays, hb]

/-- The records of a station discarded leave a queue well (R40, R52). -/
theorem LoopRec.queueWell.discard {r : LoopRec} (h : r.queueWell) (st : Station) : (r.discard st).queueWell := by
  obtain ⟨device, count, bound⟩ := h
  have split : relays r.queue = relays (r.queue.filter (fun q => decide (q.station ≠ st))) +
      relays (r.queue.filter (fun q => decide (q.station = st))) := by
    rw [Nat.add_comm]
    simpa [relays] using List.countP_eq_countP_filter_add r.queue (fun q => decide (q.block.origin = .relay))
      (fun q => decide (q.station = st))
  have left : (r.discard st).relayCount = relays (r.discard st).queue := by
    show r.relayCount - _ = _
    rw [count, split, Nat.add_sub_cancel]
    rfl
  exact ⟨fun k => (deviceFor_filter_le k _ _).trans (device k), left, (Nat.sub_le _ _).trans bound⟩

/-- A relay block joins a queue with fewer than eight of them (R61). -/
theorem LoopRec.queueWell.enqueueRelay {r : LoopRec} (h : r.queueWell) (hc : r.relayCount < 8) (st : Station)
    (body : List Byte) : (r.enqueueRelay st body).queueWell := by
  obtain ⟨device, count, _⟩ := h
  refine ⟨fun k => ?_, ?_, hc⟩
  · have relay : QueueRec.deviceFor k ⟨st, .relay body⟩ = false := QueueRec.deviceFor_relay rfl k
    simpa [LoopRec.enqueueRelay, relay] using device k
  · simp [LoopRec.enqueueRelay, count, relays, OutBlock.origin]

/-- A turn takes its block out of a well queue (R46). -/
theorem LoopRec.queueWell.beginTurn {r : LoopRec} (h : r.queueWell) (st : Station) : (r.beginTurn st).queueWell := by
  obtain ⟨device, count, bound⟩ := h
  unfold LoopRec.beginTurn
  split
  case h_2 => exact ⟨device, count, bound⟩
  case h_1 q hq =>
    have mem : q ∈ r.queue := List.mem_of_find?_eq_some hq
    refine ⟨fun k => List.erase_sublist.countP_le.trans (device k), ?_, (Nat.sub_le _ _).trans bound⟩
    have all : relays r.queue = relays [q] + relays (r.queue.erase q) := by
      rw [← relays_append]
      exact (List.perm_cons_erase mem).countP_eq _
    show r.relayCount - relays [q] = relays (r.queue.erase q)
    rw [count, all, Nat.add_sub_cancel_left]

theorem LoopRec.queueWell.startTurn {r : LoopRec} (h : r.queueWell) : r.startTurn.queueWell := by
  unfold LoopRec.startTurn
  split
  case h_1 st _ _ _ => exact h.beginTurn st
  case h_2 => exact h

/-- An empty queue without relay blocks counted is well. -/
theorem LoopRec.queueWell.empty {r : LoopRec} (hq : r.queue = []) (hc : r.relayCount = 0) : r.queueWell := by
  refine ⟨fun st => ?_, ?_, ?_⟩ <;> simp [hq, hc, relays]

/-- One notice for each of some distinct stations is a well queue (R19, R57). -/
theorem LoopRec.queueWell.notices {r : LoopRec} {sts : List Station} {reason : NoticeReason} (hs : sts.Nodup)
    (hq : r.queue = sts.map (fun st => ⟨st, .notice reason⟩)) (hc : r.relayCount = 0) : r.queueWell := by
  refine ⟨fun st => ?_, ?_, by simp [hc]⟩
  · have one : sts.countP (fun k => decide (k = st)) ≤ 1 := List.nodup_iff_count_le_one.mp hs st
    simpa [hq, List.countP_map, Function.comp_def, QueueRec.deviceFor, OutBlock.origin] using one
  · rw [hc, hq, relays]
    exact (List.countP_eq_zero.mpr (by simp [OutBlock.origin])).symm

/-! ## Both sides of one context (R157, R165, R175, R180) -/

/-- A transmit side's counter within its epoch, and no more octets collected than the block has had frames (R165). -/
def TxPart.within (b : Interval) (t : TxPart) : Prop := t.n < 256 * b.frames ∧ t.collected.length ≤ t.n % 8

/-- A receive side's counter within its epoch, and its Miss Count below L (R175, R180). -/
def RxPart.within (b : Interval) (loss : Nat) (r : RxPart) : Prop := r.n < 256 * b.frames ∧ r.miss < loss

/-- A context's L in its range, and its sides within it. -/
def Context.sidesWell (x : Context) : Prop :=
  ∀ cfg, x.config = some cfg → (2 ≤ cfg.loss ∧ cfg.loss ≤ 16) ∧ (∀ t, x.tx = some t → t.within cfg.interval) ∧
    (∀ r, x.rx = some r → r.within cfg.interval cfg.loss)

theorem State.sidesWell_iff (s : State) : s.sidesWell ↔ ∀ x, (s.context x).sidesWell := Iff.rfl

/-- An interval is a number of blocks of eight frames, sixteen or more. -/
theorem Interval.frames_blocks (b : Interval) : b.frames % 8 = 0 ∧ 256 ≤ b.frames := by cases b <;> decide

theorem TxPart.within.gather {b : Interval} {t : TxPart} (h : t.within b) (mode : Mode) (held : Bool) (input : Byte) :
    (t.gather b mode held input).n = t.n ∧ (t.gather b mode held input).collected.length ≤ t.n % 8 + 1 := by
  have kept : t.collected.length ≤ t.n % 8 + 1 := h.2.trans (Nat.le_succ _)
  unfold TxPart.gather
  split
  · exact ⟨rfl, kept⟩
  · split_ifs
    · exact ⟨rfl, kept⟩
    · exact ⟨rfl, Nat.zero_le _⟩
    · exact ⟨rfl, by simpa using h.2⟩

/-- A served frame keeps the transmit side within its epoch and its block (R162, R165, R167). -/
theorem TxPart.within.step {b : Interval} {t : TxPart} (h : t.within b) (mode : Mode) (held : Bool) (input : Byte) :
    (t.step b mode held input).within b := by
  obtain ⟨hn, hc⟩ := h.gather mode held input
  have hlt := h.1
  obtain ⟨blocks, large⟩ := b.frames_blocks
  unfold TxPart.step
  generalize t.gather b mode held input = g at hn hc
  have handed : (g.handOver b).n = t.n ∧
      (g.handOver b).collected.length ≤ if t.n % 8 = 7 then 0 else t.n % 8 + 1 := by
    unfold TxPart.handOver endsBlock
    rw [hn]
    by_cases he : t.n % 8 = 7
    · simp [he]
    · simp [he, hn, hc]
  obtain ⟨on, oc⟩ := handed
  unfold TxPart.advance Interval.lastFrame TxPart.within
  rw [on]
  split at oc <;> split
  · exact ⟨by dsimp only; omega, by dsimp only; omega⟩
  · exact ⟨by dsimp only; omega, by dsimp only; omega⟩
  · exact ⟨by dsimp only; omega, by dsimp only; omega⟩
  · omega

/-- An epoch's counter advances within it, or wraps to the next one (R176). -/
theorem RxPart.within.advance {b : Interval} {loss : Nat} {r : RxPart} (h : r.within b loss) :
    (r.advance b).within b loss := by
  obtain ⟨_, large⟩ := b.frames_blocks
  unfold RxPart.advance Interval.lastFrame
  split
  case isTrue hlt => exact ⟨by dsimp only; omega, h.2⟩
  case isFalse => exact ⟨by dsimp only; omega, h.2⟩

theorem RxPart.within.handOver {b : Interval} {loss : Nat} {r : RxPart} (h : r.within b loss) :
    (r.handOver b).within b loss := by
  unfold RxPart.handOver
  split <;> exact h

theorem RxPart.within.place {b : Interval} {loss : Nat} {r : RxPart} (h : r.within b loss) (mode : Mode) (octet : Byte) :
    (r.place b mode octet).within b loss := by
  unfold RxPart.place
  split
  · split <;> exact h
  · split <;> exact h
  · exact h

section Examine

variable {b : Interval} {loss : Nat} {r : RxPart}

/-- A lock sets the counter within the epoch (R178, R179). -/
theorem RxPart.adopt_within (hl : 0 < loss) (q : Byte) (m : Manner) (slip : Bool) (r : RxPart) :
    (r.adopt b q m slip).rx.within b loss := by
  have hq := q.isLt
  obtain ⟨_, large⟩ := b.frames_blocks
  refine ⟨?_, hl⟩
  show q.toNat * b.frames + 5 < 256 * b.frames
  calc q.toNat * b.frames + 5 < q.toNat * b.frames + b.frames := by omega
    _ = (q.toNat + 1) * b.frames := by ring
    _ ≤ 256 * b.frames := Nat.mul_le_mul_right _ hq

theorem RxPart.within.relock (hl : 0 < loss) (h : r.within b loss) (q : Byte) (beaconParity : Nat) (slip : Bool) :
    (r.relock b q beaconParity slip).rx.within b loss := by
  unfold RxPart.relock
  split
  case h_4 => exact h
  all_goals exact RxPart.adopt_within hl q _ slip _

theorem RxPart.within.search (hl : 0 < loss) (h : r.within b loss) (mode : Mode) (key0 : Key) (octet : Byte) :
    (r.search b mode key0 octet).rx.within b loss := by
  unfold RxPart.search
  split
  case h_5 q info _ =>
    unfold RxPart.candidate
    dsimp only
    split_ifs
    · unfold RxPart.firstLock
      split <;> exact RxPart.adopt_within hl q _ _ _
    · exact RxPart.within.relock hl (r := { r with parse := .none }) h q _ _
    · exact h
  all_goals exact h

theorem RxPart.within.badBeacon (hl : 0 < loss) (h : r.within b loss) : (r.badBeacon b loss).rx.within b loss := by
  unfold RxPart.badBeacon
  split
  case isTrue => exact ⟨h.1, hl⟩
  case isFalse hm => exact ⟨h.1, Nat.lt_of_not_le hm⟩

theorem RxPart.within.follow (hl : 0 < loss) (h : r.within b loss) (mode : Mode) (octet : Byte) :
    (r.follow b mode loss octet).rx.within b loss := by
  unfold RxPart.follow
  dsimp only
  split_ifs
  · exact h
  · exact h
  · split
    · unfold RxPart.judgeBeacon
      split_ifs
      · exact ⟨h.1, hl⟩
      · exact h.relock hl _ _ _
      · exact h.badBeacon hl
    · exact h.badBeacon hl
  · exact h

/-- A served frame keeps the receive side within its epoch and its Miss Count below L (R176 to R181). -/
theorem RxPart.within.step (hl : 0 < loss) (h : r.within b loss) (mode : Mode) (key0 : Key) (octet : Byte) :
    (r.step b mode loss key0 octet).1.within b loss := by
  have placed : ({ r with stepped := true }.place b mode octet).within b loss :=
    RxPart.within.place (r := { r with stepped := true }) h mode octet
  have examined : (({ r with stepped := true }.place b mode octet).examine b mode loss key0 octet).rx.within b loss := by
    unfold RxPart.examine
    split
    · exact placed.search hl mode key0 octet
    · exact placed.follow hl mode octet
    · exact placed.follow hl mode octet
    · exact placed
  unfold RxPart.step
  dsimp only
  split
  · exact examined
  · exact examined.handOver.advance

end Examine

theorem Context.sidesWell.free : Context.free.sidesWell := nofun

/-- A context whose configuration and sides are those of another is as well as it. -/
theorem Context.sidesWell.congr {x y : Context} (h : x.sidesWell) (hc : y.config = x.config) (ht : y.tx = x.tx)
    (hr : y.rx = x.rx) : y.sidesWell := by
  unfold Context.sidesWell
  rw [hc, ht, hr]
  exact h

/-- A context just keyed begins both sides (R159 to R161). -/
theorem Context.sidesWell.keyed {x : Context} (h : x.sidesWell) (source : KeySource) (key : Key) :
    (x.keyed source key).sidesWell := by
  intro cfg hcfg
  obtain ⟨loss, _, _⟩ := h cfg hcfg
  obtain ⟨_, large⟩ := cfg.interval.frames_blocks
  refine ⟨loss, ?_, ?_⟩
  · rintro t ⟨⟩
    exact ⟨by show 0 < _; omega, Nat.zero_le _⟩
  · rintro r ⟨⟩
    exact ⟨by show 0 < _; omega, by show 0 < _; omega⟩

/-- A context just allocated has an L in range, and no sides (R126, R158). -/
theorem Context.sidesWell.allocated (id : CallId) (plan : CtxPlan) : (Context.allocated id plan).sidesWell := by
  rintro cfg ⟨⟩
  refine ⟨?_, nofun, nofun⟩
  show 2 ≤ clamp 2 16 plan.loss ∧ clamp 2 16 plan.loss ≤ 16
  unfold clamp
  omega

/-- A context that returns to HIGHWAY keeps its counters (R171). -/
theorem Context.sidesWell.resume {x : Context} (h : x.sidesWell) : x.resume.sidesWell := by
  unfold Context.resume
  split
  case isFalse => exact h
  case isTrue =>
    intro cfg hcfg
    obtain ⟨loss, tx, rx⟩ := h cfg hcfg
    refine ⟨loss, fun t ht => ?_, fun r hr => ?_⟩
    · obtain ⟨t', ht', rfl⟩ := Option.map_eq_some_iff.mp ht
      exact ⟨(tx t' ht').1, Nat.zero_le _⟩
    · obtain ⟨r', hr', rfl⟩ := Option.map_eq_some_iff.mp hr
      exact rx r' hr'

/-- A served frame keeps a context's sides within their ranges (R112, R162, R176). -/
theorem Context.sidesWell.stepContext {x : Context} (h : x.sidesWell) (s : State) (inputs : Table Byte 192) (c : CtxId) :
    (s.stepContext inputs c x).context.sidesWell := by
  unfold State.stepContext
  split
  case isFalse => exact h
  case isTrue =>
    split
    case h_2 => exact h
    case h_1 cfg t r _ _ hc ht hr _ _ =>
      intro cfg' hcfg'
      obtain rfl := Option.some.inj (hc.symm.trans hcfg')
      obtain ⟨loss, tx, rx⟩ := h cfg hc
      refine ⟨loss, ?_, ?_⟩
      · rintro _ ⟨⟩
        exact (tx t ht).step _ _ _
      · rintro _ ⟨⟩
        exact (rx r hr).step (by omega) _ _ _

end Sys2Proof.Machine

namespace Sys2Proof.Machine

/-! ## Calm updates

`s.mild t`: t keeps every invariant of the queues, the key store, the counts and the sides that s has, and handles the same
request. `s.steady t`: every loop and port stands as before in what is polled there. A calm update is both; such updates
compose, and all but the events of the loops, of the link and of the restarts are calm. -/

/-- The update keeps the invariants of the queues, the ring, the wait queue, the time base, the counter and the sides, each
on its own, and the link handles what it handled. -/
structure State.mild (s t : State) : Prop where
  queues : ∀ l, (s.loop l).queueWell → (t.loop l).queueWell
  ring : s.ringWell → t.ringWell
  wait : s.waitWell → t.waitWell
  time : s.timeWell → t.timeWell
  holding : t.holding = s.holding
  handling : t.handling.isSome = s.handling.isSome
  counter : s.counterWell → t.counterWell
  sides : ∀ x, (s.context x).sidesWell → (t.context x).sidesWell

/-- What says which addresses a loop polls, and how far it has come. -/
structure LoopRec.polledAlike (r q : LoopRec) : Prop where
  enable : q.enable = r.enable
  pollList : q.pollList = r.pollList
  state : q.state = r.state
  turn : q.turn = r.turn

/-- The ports stand alike in presence and Miss Count. -/
structure PortRec.presentAlike (r q : PortRec) : Prop where
  presence : q.presence = r.presence
  miss : q.miss = r.miss

/-- Every loop polls as before, and every port is as present as before. -/
structure State.steady (s t : State) : Prop where
  loop : ∀ l, (s.loop l).polledAlike (t.loop l)
  port : ∀ p, (s.port p).presentAlike (t.port p)

/-- The update is mild and steady. -/
structure State.calm (s t : State) : Prop where
  mild : s.mild t
  steady : s.steady t

theorem LoopRec.polledAlike.refl (r : LoopRec) : r.polledAlike r := ⟨rfl, rfl, rfl, rfl⟩

theorem LoopRec.polledAlike.trans {r q u : LoopRec} (h : r.polledAlike q) (k : q.polledAlike u) : r.polledAlike u :=
  ⟨k.enable.trans h.enable, k.pollList.trans h.pollList, k.state.trans h.state, k.turn.trans h.turn⟩

theorem PortRec.presentAlike.refl (r : PortRec) : r.presentAlike r := ⟨rfl, rfl⟩

theorem PortRec.presentAlike.trans {r q u : PortRec} (h : r.presentAlike q) (k : q.presentAlike u) : r.presentAlike u :=
  ⟨k.presence.trans h.presence, k.miss.trans h.miss⟩

namespace State.mild

/-- States that agree on the loops, the key store, the counts and the link's holding. -/
theorem of_eq {s t : State} (hl : t.loops = s.loops) (hr : t.ring = s.ring) (hw : t.waitQueue = s.waitQueue)
    (ht : t.timeBase = s.timeBase) (hh : t.holding = s.holding) (hg : t.handling = s.handling)
    (hc : t.challengeCounter = s.challengeCounter) (hx : t.contexts = s.contexts) : s.mild t where
  queues l := by simp [State.loop, hl]
  ring := by simp [State.ringWell, hr]
  wait := by simp [State.waitWell, hw]
  time := by simp [State.timeWell, ht]
  holding := hh
  handling := by rw [hg]
  counter := by simp [State.counterWell, hc]
  sides x := by simp [State.context, hx]

theorem refl (s : State) : s.mild s := of_eq rfl rfl rfl rfl rfl rfl rfl rfl

theorem trans {s t u : State} (h : s.mild t) (k : t.mild u) : s.mild u where
  queues l := k.queues l ∘ h.queues l
  ring := k.ring ∘ h.ring
  wait := k.wait ∘ h.wait
  time := k.time ∘ h.time
  holding := k.holding.trans h.holding
  handling := k.handling.trans h.handling
  counter := k.counter ∘ h.counter
  sides x := k.sides x ∘ h.sides x

theorem putPort (p : Port) (r : PortRec) (s : State) : s.mild (s.putPort p r) := of_eq rfl rfl rfl rfl rfl rfl rfl rfl

theorem putLoop {s : State} {l : LoopNo} {r : LoopRec} (h : (s.loop l).queueWell → r.queueWell) :
    s.mild (s.putLoop l r) where
  queues m := by
    rw [State.loop_putLoop]
    split
    case isTrue hm => subst hm; exact h
    case isFalse => exact id
  ring := id
  wait := id
  time := id
  holding := rfl
  handling := rfl
  counter := id
  sides _ := id

/-- A fold of mild updates is mild. -/
theorem foldl {α : Type} {f : State → α → State} (h : ∀ (s : State) a, s.mild (f s a)) (as : List α) (s : State) :
    s.mild (as.foldl f s) := by
  induction as generalizing s with
  | nil => exact refl s
  | cons a as ih => exact (h s a).trans (ih _)

end State.mild

namespace State.steady

/-- States that agree on the loops and the ports. -/
theorem of_eq {s t : State} (hl : t.loops = s.loops) (hp : t.ports = s.ports) : s.steady t where
  loop l := by simpa [State.loop, hl] using LoopRec.polledAlike.refl _
  port p := by simpa [State.port, hp] using PortRec.presentAlike.refl _

theorem refl (s : State) : s.steady s := of_eq rfl rfl

theorem trans {s t u : State} (h : s.steady t) (k : t.steady u) : s.steady u :=
  ⟨fun l => (h.loop l).trans (k.loop l), fun p => (h.port p).trans (k.port p)⟩

theorem putPort {s : State} {p : Port} {r : PortRec} (h : (s.port p).presentAlike r) : s.steady (s.putPort p r) where
  loop _ := .refl _
  port q := by
    rw [State.port_putPort]
    split
    case isTrue hq => subst hq; exact h
    case isFalse => exact .refl _

theorem putLoop {s : State} {l : LoopNo} {r : LoopRec} (h : (s.loop l).polledAlike r) : s.steady (s.putLoop l r) where
  loop m := by
    rw [State.loop_putLoop]
    split
    case isTrue hm => subst hm; exact h
    case isFalse => exact .refl _
  port _ := .refl _

end State.steady

namespace State.calm

/-- States that agree on the loops, the ports, the key store, the counts and the link's holding. -/
theorem of_eq {s t : State} (hl : t.loops = s.loops) (hp : t.ports = s.ports) (hr : t.ring = s.ring)
    (hw : t.waitQueue = s.waitQueue) (ht : t.timeBase = s.timeBase) (hh : t.holding = s.holding)
    (hg : t.handling = s.handling) (hc : t.challengeCounter = s.challengeCounter) (hx : t.contexts = s.contexts) :
    s.calm t :=
  ⟨.of_eq hl hr hw ht hh hg hc hx, .of_eq hl hp⟩

theorem refl (s : State) : s.calm s := ⟨.refl s, .refl s⟩

theorem trans {s t u : State} (h : s.calm t) (k : t.calm u) : s.calm u := ⟨h.mild.trans k.mild, h.steady.trans k.steady⟩

/-- A fold of calm updates is calm. -/
theorem foldl {α : Type} {f : State → α → State} (h : ∀ (s : State) a, s.calm (f s a)) (as : List α) (s : State) :
    s.calm (as.foldl f s) := by
  induction as generalizing s with
  | nil => exact refl s
  | cons a as ih => exact (h s a).trans (ih _)

/-! ### One record written -/

theorem putEntry (ix : ExtIx) (e : Option Entry) (s : State) : s.calm (s.putEntry ix e) :=
  of_eq rfl rfl rfl rfl rfl rfl rfl rfl rfl

theorem modEntry (ix : ExtIx) (f : Entry → Entry) (s : State) : s.calm (s.modEntry ix f) := putEntry _ _ s

theorem putPort {s : State} {p : Port} {r : PortRec} (h : (s.port p).presentAlike r) : s.calm (s.putPort p r) :=
  ⟨.putPort p r s, .putPort h⟩

theorem putLoop {s : State} {l : LoopNo} {r : LoopRec} (hq : (s.loop l).queueWell → r.queueWell)
    (h : (s.loop l).polledAlike r) : s.calm (s.putLoop l r) := ⟨.putLoop hq, .putLoop h⟩

theorem putCall (slot : Fin 128) (c : Option Call) (s : State) : s.calm (s.putCall slot c) :=
  of_eq rfl rfl rfl rfl rfl rfl rfl rfl rfl

theorem modCall (id : CallId) (f : Call → Call) (s : State) : s.calm (s.modCall id f) := by
  unfold State.modCall
  split
  case h_1 => exact putCall _ _ s
  case h_2 => exact refl s

theorem raise (i : Item) (s : State) : s.calm (s.raise i) := of_eq rfl rfl rfl rfl rfl rfl rfl rfl rfl

theorem putContext {s : State} {c : CtxId} {x : Context} (h : (s.context c).sidesWell → x.sidesWell) :
    s.calm (s.putContext c x) where
  mild := {
    queues := fun _ => id, ring := id, wait := id, time := id, holding := rfl, handling := rfl, counter := id
    sides := fun d => by
      rw [State.context_putContext]
      split
      case isTrue hd => subst hd; exact h
      case isFalse => exact id }
  steady := .of_eq rfl rfl

/-- A nonce taken leaves an even counter even (R26). -/
theorem spendNonce (s : State) : s.calm s.spendNonce where
  mild := {
    queues := fun _ => id, ring := id, wait := id, time := id, holding := rfl, handling := rfl, sides := fun _ => id
    counter := fun h => by
      unfold State.counterWell at h ⊢
      show (s.challengeCounter + 2).toNat % 2 = 0
      bv_omega }
  steady := .of_eq rfl rfl

/-! ### Offering, withdrawing, denying and abandoning (R58 to R60, R63, R67) -/

theorem loseBlock (p : Port) (q : Option QueueRec) (s : State) : s.calm (s.loseBlock p q) := by
  unfold State.loseBlock
  split
  case h_2 => exact refl s
  case h_1 =>
    unfold State.loseChallenge
    split
    case h_1 => exact modEntry _ _ s
    case h_2 => exact refl s

/-- The blocks that the units offer are device blocks. -/
theorem offer (p : Port) {b : OutBlock} (hb : b.origin = .device) (s : State) : s.calm (s.offer p b) := by
  unfold State.offer
  split
  case h_1 => exact refl s
  case h_2 => exact (putLoop (fun h => h.offer _ hb) ⟨rfl, rfl, rfl, rfl⟩).trans (loseBlock _ _ _)

theorem withdraw (p : Port) (n : Long) (s : State) : s.calm (s.withdraw p n) :=
  putLoop (fun h => h.filter_device fun q hq => by simp [QueueRec.challengeFor_relay hq]) ⟨rfl, rfl, rfl, rfl⟩

theorem deny (p : Port) (r : DenyReason) (ix : Option ExtIx) (s : State) : s.calm (s.deny p r ix) := by
  unfold State.deny
  split
  case h_1 => exact refl s
  case h_2 => exact (offer p rfl s).trans (raise _ _)

theorem abandon (ix : ExtIx) (s : State) : s.calm (s.abandon ix) := by
  unfold State.abandon
  split
  case h_2 => exact refl s
  case h_1 =>
    split
    case h_2 => exact refl s
    case h_1 => exact (withdraw _ _ s).trans (putEntry _ _ _)

/-! ### Bindings, lapses, locks and failures (R64 to R66, R81) -/

end State.calm

theorem PortRec.presentAlike.unbind (r : PortRec) : r.presentAlike r.unbind := by
  unfold PortRec.unbind
  split <;> exact ⟨rfl, rfl⟩

theorem PortRec.presentAlike.erased (r : PortRec) : r.presentAlike r.erased := by
  unfold PortRec.erased
  split <;> exact ⟨rfl, rfl⟩

theorem PortRec.presentAlike.gone (r : PortRec) : r.presentAlike r.gone := by
  unfold PortRec.gone
  split <;> exact ⟨rfl, rfl⟩

namespace State.calm

theorem releaseBinding (ix : ExtIx) (s : State) : s.calm (s.releaseBinding ix) := by
  unfold State.releaseBinding
  split
  case h_2 => exact refl s
  case h_1 =>
    split
    case h_2 => exact refl s
    case h_1 => exact (putEntry _ _ s).trans (putPort (.unbind _))

theorem lapse (ix : ExtIx) (c : LapseCause) (s : State) : s.calm (s.lapse ix c) := by
  unfold State.lapse
  split
  case h_1 => exact refl s
  case h_2 =>
    split
    case isTrue => exact putEntry _ _ s
    case isFalse =>
      split
      case h_1 => exact refl s
      case h_2 => exact (((releaseBinding _ s).trans (modEntry _ _ _)).trans (offer _ rfl _)).trans (raise _ _)

theorem lockChallenge (ix : ExtIx) (s : State) : s.calm (s.lockChallenge ix) := by
  unfold State.lockChallenge
  split
  case h_2 => exact refl s
  case h_1 =>
    split
    case h_2 => exact refl s
    case h_1 => exact ((withdraw _ _ s).trans (putEntry _ _ _)).trans (deny _ _ _ _)

theorem lockBinding (ix : ExtIx) (s : State) : s.calm (s.lockBinding ix) := by
  unfold State.lockBinding
  split
  case h_2 => exact refl s
  case h_1 =>
    split
    case h_2 => exact refl s
    case h_1 => exact (releaseBinding _ s).trans (offer _ rfl _)

theorem lockEntry (ix : ExtIx) (s : State) : s.calm (s.lockEntry ix) := by
  unfold State.lockEntry
  split
  case h_2 => exact refl s
  case h_1 => exact (putEntry _ _ s).trans (raise _ _)

theorem countFailure (ix : ExtIx) (s : State) : s.calm (s.countFailure ix) := by
  unfold State.countFailure
  split
  case h_1 => exact refl s
  case h_2 =>
    dsimp only
    split
    case isFalse => exact putEntry _ _ s
    case isTrue =>
      exact (putEntry _ _ s).trans (((lockChallenge ix _).trans (lockBinding ix _)).trans (lockEntry ix _))

/-! ### ENTER, ERASE and UNLOCK EXTENSION (R6 to R11) -/

theorem enterAbandon (ix : ExtIx) (old : Key) (s : State) : s.calm (s.enterAbandon ix old) := by
  unfold State.enterAbandon
  split
  case h_1 => exact refl s
  case h_2 =>
    split
    case h_1 => exact refl s
    case h_2 =>
      split_ifs
      · exact (abandon _ s).trans (offer _ rfl _)
      · exact (abandon _ s).trans (offer _ rfl _)
      · exact refl s

theorem enterLapse (ix : ExtIx) (s : State) : s.calm (s.enterLapse ix) := by
  unfold State.enterLapse
  split
  case h_1 => exact refl s
  case h_2 =>
    split
    case h_2 => exact refl s
    case h_1 =>
      split
      case isTrue => exact lapse _ _ s
      case isFalse => exact refl s

theorem enterAct (b : EnterBody) (s : State) : s.calm (enterAct b s).1 := by
  unfold Machine.enterAct
  split
  case h_1 => exact refl s
  case h_2 =>
    split
    case isTrue => exact refl s
    case isFalse =>
      show s.calm (s.enter _ _)
      unfold State.enter
      split
      case h_1 => exact putEntry _ _ s
      case h_2 => exact ((putEntry _ _ s).trans (enterAbandon _ _ _)).trans (enterLapse _ _)

theorem onEntry (index : Word) {act : ExtIx → Entry → State → State × Answer} {s : State}
    (h : ∀ ix e, s.calm (act ix e s).1) : s.calm (s.onEntry index act).1 := by
  unfold State.onEntry
  split
  case h_1 => exact refl s
  case h_2 =>
    split
    case h_1 => exact refl s
    case h_2 => exact h _ _

theorem eraseEntry (ix : ExtIx) (e : Entry) (s : State) : s.calm (eraseEntry ix e s).1 := by
  have challenge : s.calm (s.eraseChallenge ix e) := by
    unfold State.eraseChallenge
    split
    case h_1 => exact ((withdraw _ _ s).trans (putEntry _ _ _)).trans (offer _ rfl _)
    case h_2 => exact refl s
  have binding : ∀ t : State, t.calm (t.eraseBinding e) := by
    intro t
    unfold State.eraseBinding
    split
    case h_1 => exact (putPort (.erased _)).trans (offer _ rfl _)
    case h_2 => exact refl t
  unfold Machine.eraseEntry
  split
  case isTrue => exact refl s
  case isFalse => exact (challenge.trans (binding _)).trans (putEntry _ _ _)

theorem unlock (ix : ExtIx) (e : Entry) (s : State) : s.calm (s.unlock ix e) := (putEntry _ _ s).trans (raise _ _)

theorem unlockEntry (ix : ExtIx) (e : Entry) (s : State) : s.calm (unlockEntry ix e s).1 := by
  unfold Machine.unlockEntry
  split
  case isTrue => exact unlock ix e s
  case isFalse => exact refl s

/-! ### Admission (R67 to R80) -/

theorem issueChallenge (p : Port) (x : ExtIx) (s : State) : s.calm (s.issueChallenge p x) := by
  have issue : ∀ (t : State) (e : Option Entry), t.calm (((t.spendNonce).putEntry x e).offer p (.challenge s.nonce)) :=
    fun t e => ((spendNonce t).trans (putEntry _ _ _)).trans (offer _ rfl _)
  unfold State.issueChallenge
  split
  case h_1 => exact refl s
  case h_2 e _ =>
    dsimp only
    cases e.challenge with
    | none => exact issue s _
    | some c => exact (withdraw _ _ s).trans (issue _ _)

theorem registerEntry (p : Port) (x : ExtIx) (s : State) : s.calm (s.registerEntry p x) := by
  unfold State.registerEntry
  split
  case h_1 => exact refl s
  case h_2 =>
    split
    case h_1 =>
      split
      case isTrue =>
        unfold State.registerAgain
        split
        case isTrue => exact deny _ _ _ s
        case isFalse => exact ((releaseBinding _ s).trans (modEntry _ _ _)).trans (issueChallenge _ _ _)
      case isFalse =>
        unfold State.registerMove
        split
        case isTrue => exact deny _ _ _ s
        case isFalse => exact (putEntry _ _ s).trans (issueChallenge _ _ _)
    case h_2 =>
      unfold State.registerChallenge
      split
      case h_1 => exact refl s
      case h_2 =>
        split
        case isTrue => exact deny _ _ _ s
        case isFalse => exact issueChallenge _ _ s

theorem registerAt (p : Port) (x : ExtIx) (s : State) : s.calm (s.registerAt p x) := by
  unfold State.registerAt
  split
  case h_2 => exact registerEntry p x s
  case h_1 =>
    split_ifs
    · exact registerEntry p x s
    · exact deny _ _ _ s
    · exact (((releaseBinding _ s).trans (modEntry _ _ _)).trans (raise _ _)).trans (registerEntry p x _)

theorem registerBlock (p : Port) (number : List Digit) (s : State) : s.calm (s.registerBlock p number) := by
  have clear : ∀ x, s.calm (s.clearWay p x) := by
    intro x
    unfold State.clearWay
    split
    case h_2 => exact refl s
    case h_1 =>
      split
      case isTrue => exact refl s
      case isFalse => exact abandon _ s
  refine State.calm.trans (clear (s.findNumber number)) ?_
  show State.calm _ (State.registerCases p (s.findNumber number) _)
  generalize s.clearWay p (s.findNumber number) = t
  unfold State.registerCases
  split
  case h_1 => exact deny _ _ _ t
  case h_2 =>
    split
    case h_1 => exact refl t
    case h_2 =>
      split_ifs
      · exact deny _ _ _ t
      · exact (deny _ _ _ t).trans (countFailure _ _)
      · exact registerAt _ _ t

theorem bind (p : Port) (x : ExtIx) (s : State) : s.calm (s.bind p x) := by
  unfold State.bind
  split
  case h_1 => exact refl s
  case h_2 => exact ((putEntry _ _ s).trans (putPort (by exact ⟨rfl, rfl⟩))).trans (offer _ rfl _)

theorem matchingAnswer (p : Port) (x : ExtIx) (e : Entry) (s : State) : s.calm (s.matchingAnswer p x e) := by
  unfold State.matchingAnswer
  dsimp only
  split
  case h_1 =>
    refine State.calm.trans (State.calm.trans ?_ (raise _ _)) (raise _ _)
    exact (((putEntry _ _ s).trans (releaseBinding _ _)).trans (offer _ rfl _)).trans (bind _ _ _)
  case h_2 => exact (putEntry _ _ s).trans ((bind _ _ _).trans (raise _ _))

theorem mismatch (p : Port) (reason : DenyReason) (x : ExtIx) (e : Entry) (s : State) : s.calm (s.mismatch p reason x e) :=
  (((putEntry _ _ s).trans (deny _ _ _ _)).trans (modEntry _ _ _)).trans (countFailure _ _)

theorem answerBlock (p : Port) (response : Long) (s : State) : s.calm (s.answerBlock p response) := by
  unfold State.answerBlock
  split
  case h_1 => exact deny _ _ _ s
  case h_2 =>
    split
    case h_1 => exact refl s
    case h_2 =>
      split
      case h_1 => exact refl s
      case h_2 =>
        split_ifs
        · exact deny _ _ _ s
        · exact matchingAnswer _ _ _ s
        · exact mismatch _ _ _ _ s

theorem answerExpiry (x : ExtIx) (s : State) : s.calm (s.answerExpiry x) := by
  unfold State.answerExpiry
  split
  case h_1 => exact refl s
  case h_2 =>
    split
    case h_1 => exact refl s
    case h_2 =>
      split
      case isTrue => exact mismatch _ _ _ _ s
      case isFalse => exact refl s

theorem checkInBlock (p : Port) (s : State) : s.calm (s.checkInBlock p) := by
  unfold State.checkInBlock
  split
  case h_1 => exact deny _ _ _ s
  case h_2 =>
    split
    case h_1 => exact deny _ _ _ s
    case h_2 =>
      split
      case isTrue => exact putEntry _ _ s
      case isFalse => exact deny _ _ _ s

theorem refreshEnd (x : ExtIx) (s : State) : s.calm (s.refreshEnd x) := by
  unfold State.refreshEnd
  split
  case h_1 => exact refl s
  case h_2 =>
    split
    case isTrue => exact (putEntry _ _ s).trans (lapse _ _ _)
    case isFalse => exact refl s

theorem lockEnd (x : ExtIx) (s : State) : s.calm (s.lockEnd x) := by
  unfold State.lockEnd
  split
  case h_1 => exact refl s
  case h_2 =>
    split
    case isTrue => exact unlock _ _ s
    case isFalse => exact refl s

/-! ### Dialling (R85 to R101) -/

theorem createCall (slot : Fin 128) (c : Call) (s : State) : s.calm (s.createCall slot c) := by
  have k : s.calm { s.putCall slot (some c) with nextId := c.id } := of_eq rfl rfl rfl rfl rfl rfl rfl rfl rfl
  exact (k.trans (modEntry _ _ _)).trans (putPort ⟨rfl, rfl⟩)

theorem offHookBlock (p : Port) (s : State) : s.calm (s.offHookBlock p) := by
  have off : s.calm (s.putPort p { s.port p with hook := .off }) := putPort ⟨rfl, rfl⟩
  unfold State.offHookBlock
  dsimp only
  split
  case h_1 =>
    refine off.trans ?_
    unfold State.startDialling
    split
    case h_1 => exact deny _ _ _ _
    case h_2 =>
      split
      case h_1 => exact putPort ⟨rfl, rfl⟩
      case h_2 => exact deny _ _ _ _
      case h_3 => exact deny _ _ _ _
  case h_2 =>
    refine off.trans ?_
    unfold State.answerCall
    dsimp only
    split
    case h_1 => exact (putPort (by exact ⟨rfl, rfl⟩)).trans (raise _ _)
    case h_2 => exact putPort ⟨rfl, rfl⟩
  all_goals exact off

theorem hangUp (p : Port) (s : State) : s.calm (s.hangUp p) := by
  unfold State.hangUp
  split
  case h_1 => exact raise _ s
  case h_2 => exact refl s

theorem onHookBlock (p : Port) (s : State) : s.calm (s.onHookBlock p) := by
  have on : s.calm (s.putPort p { s.port p with hook := .on }) := putPort ⟨rfl, rfl⟩
  unfold State.onHookBlock
  dsimp only
  split
  case h_1 => exact putPort ⟨rfl, rfl⟩
  case h_2 => exact putPort ⟨rfl, rfl⟩
  case h_3 => exact on.trans (hangUp _ _)
  case h_4 => exact on.trans (hangUp _ _)
  case h_5 => exact on
  case h_6 => exact on

/-- An attempt that ends BLOCKED with a notice (R90, R99, R101). -/
theorem blockDialling (p : Port) (reason : NoticeReason) (s : State) :
    s.calm ((s.offer p (.notice reason)).putPort p ((s.port p).ended .blocked)) := by
  refine (offer p rfl s).trans (putPort ?_)
  rw [State.offer_port]
  exact ⟨rfl, rfl⟩

theorem requestCall (p : Port) (ix : ExtIx) (v : Verdict) (deciding : Option ScreenNo) (ds : List Digit) (s : State) :
    s.calm (s.requestCall p ix v deciding ds) := by
  unfold State.requestCall
  split
  case h_1 => exact (blockDialling _ _ s).trans (raise _ _)
  case h_2 => exact ((createCall _ _ s).trans (putPort (by exact ⟨rfl, rfl⟩))).trans (raise _ _)

theorem evaluate (p : Port) (ds : List Digit) (s : State) : s.calm (s.evaluate p ds) := by
  unfold State.evaluate
  split
  case h_1 => exact refl s
  case h_2 =>
    split
    case h_1 => exact refl s
    case h_2 =>
      dsimp only
      split
      case h_1 => exact (blockDialling _ _ s).trans (raise _ _)
      all_goals exact requestCall _ _ _ _ _ s

theorem digitsBlock (p : Port) (endFlag : Bool) (codes : List Digit) (s : State) : s.calm (s.digitsBlock p endFlag codes) := by
  unfold State.digitsBlock
  dsimp only
  split
  case isFalse => exact refl s
  case isTrue =>
    split
    case isTrue => exact (putPort (by exact ⟨rfl, rfl⟩)).trans (evaluate _ _ _)
    case isFalse => exact putPort ⟨rfl, rfl⟩

theorem interdigitEnd (p : Port) (s : State) : s.calm (s.interdigitEnd p) := by
  unfold State.interdigitEnd
  dsimp only
  split
  case isFalse => exact refl s
  case isTrue =>
    split
    case isTrue => exact blockDialling _ _ s
    case isFalse => exact (putPort (by exact ⟨rfl, rfl⟩)).trans (evaluate _ _ _)

end State.calm

end Sys2Proof.Machine

namespace Sys2Proof.Machine

/-! ## Keys, draws and calls (spec/07, spec/08) -/

/-- States that agree on the loops, the ports, the time base, the link's holding and the counter, where the ring is well
after it was, the wait queue is no longer, and every context's sides are well after they were. -/
theorem State.calm.of_keys {s t : State} (hl : t.loops = s.loops) (hp : t.ports = s.ports) (ht : t.timeBase = s.timeBase)
    (hh : t.holding = s.holding) (hg : t.handling = s.handling) (hc : t.challengeCounter = s.challengeCounter)
    (hr : s.ringWell → t.ringWell) (hw : t.waitQueue.length ≤ s.waitQueue.length)
    (hx : ∀ x, (s.context x).sidesWell → (t.context x).sidesWell) : s.calm t where
  mild := {
    queues := fun l => by simp [State.loop, hl]
    ring := hr
    wait := hw.trans
    time := by simp [State.timeWell, ht]
    holding := hh
    handling := by rw [hg]
    counter := by simp [State.counterWell, hc]
    sides := hx }
  steady := .of_eq hl hp

/-- Writing an empty slot, or any key as the device's, leaves a ring well (R141, R142). -/
theorem ringWell_set {ring : Table RingSlot 128} (h : ∀ i, (ring.get i).owner = .host → (ring.get i).key = Key.zero)
    (i : RingPos) {slot : RingSlot} (hs : slot.owner = .host → slot.key = Key.zero) :
    ∀ j, ((ring.set i slot).get j).owner = .host → ((ring.set i slot).get j).key = Key.zero := by
  intro j
  rw [Table.get_set]
  split
  · exact hs
  · exact h j

theorem State.offer_waitQueue (p : Port) (b : OutBlock) (s : State) : (s.offer p b).waitQueue = s.waitQueue := by
  obtain ⟨_, _, _, _, _, h⟩ := AdmissionOnly.offer p b s
  rw [h]
  rfl

theorem State.modCall_waitQueue (id : CallId) (f : Call → Call) (s : State) : (s.modCall id f).waitQueue = s.waitQueue := by
  unfold State.modCall
  split <;> rfl

theorem State.keyStation_waitQueue (c : CtxId) (k : Key) (s : State) : (s.keyStation c k).waitQueue = s.waitQueue := by
  unfold State.keyStation
  split
  · rfl
  · split
    · rfl
    · split
      · rfl
      · exact State.offer_waitQueue _ _ _

theorem State.completeServed_waitQueue (c : CtxId) (s : State) : (s.completeServed c).waitQueue = s.waitQueue := by
  unfold State.completeServed
  split
  · rfl
  · exact State.modCall_waitQueue _ _ s

/-- A delivery leaves the rest of the wait queue (R144). -/
theorem State.deliver_waitQueue (own : Option CtxId) (c : CtxId) (rest : List WaitItem) (s : State) :
    (s.deliver own c rest).waitQueue = rest := by
  unfold State.deliver
  dsimp only
  split
  · exact State.keyStation_waitQueue _ _ _
  · exact (State.completeServed_waitQueue _ _).trans (State.keyStation_waitQueue _ _ _)

/-- A serving pass takes items off the head of the wait queue (R144). -/
theorem State.serveQueue_waitQueue (own : Option CtxId) (ws : List WaitItem) {s : State} (h : s.waitQueue = ws) :
    (s.serveQueue own ws).waitQueue.length ≤ ws.length := by
  induction ws generalizing s with
  | nil => exact (congrArg List.length h).le
  | cons w rest ih =>
    unfold State.serveQueue
    split
    case isTrue => exact (ih (State.deliver_waitQueue _ _ _ _)).trans (Nat.le_succ _)
    case isFalse => exact (congrArg List.length h).le

theorem State.servingPass_waitQueue (own : Option CtxId) (s : State) :
    (s.servingPass own).waitQueue.length ≤ s.waitQueue.length := by
  have pass : ∀ t : State, t.endPass.waitQueue = t.waitQueue := by
    intro t
    unfold State.endPass
    split <;> rfl
  rw [State.servingPass, pass]
  exact State.serveQueue_waitQueue own _ rfl

/-- A draw demand lets the wait queue grow by one item at most (R145, R150). -/
theorem State.drawDemand_waitQueue (c : CtxId) (limit : Nat) (s : State) :
    (s.drawDemand c limit).waitQueue.length ≤ s.waitQueue.length + 1 := by
  have joined : (s.waitQueue ++ [WaitItem.mk c limit]).length ≤ s.waitQueue.length + 1 := by simp
  unfold State.drawDemand
  dsimp only
  split
  · exact joined
  · exact (State.servingPass_waitQueue _ _).trans joined
  · exact (State.servingPass_waitQueue _ _).trans joined

namespace State.calm

theorem keyStation (c : CtxId) (k : Key) (s : State) : s.calm (s.keyStation c k) := by
  unfold State.keyStation
  split
  case h_1 => exact refl s
  case h_2 =>
    split
    case h_1 => exact refl s
    case h_2 =>
      split
      case h_1 => exact refl s
      case h_2 => exact ((spendNonce s).trans (putContext fun h => h.keyed _ _)).trans (offer _ rfl _)

theorem completeServed (c : CtxId) (s : State) : s.calm (s.completeServed c) := by
  unfold State.completeServed
  split
  case h_1 => exact refl s
  case h_2 => exact (modCall _ _ s).trans (raise _ _)

theorem deliver (own : Option CtxId) (c : CtxId) {rest : List WaitItem} {s : State}
    (h : rest.length ≤ s.waitQueue.length) : s.calm (s.deliver own c rest) := by
  have k : s.calm { s with
      ring := s.ring.set s.pointer RingSlot.empty, pointer := ringAhead s.pointer 1, waitQueue := rest } :=
    of_keys rfl rfl rfl rfl rfl rfl (fun h => ringWell_set h _ fun _ => rfl) h fun _ => id
  unfold State.deliver
  dsimp only
  split
  case isTrue => exact k.trans (keyStation _ _ _)
  case isFalse => exact (k.trans (keyStation _ _ _)).trans (completeServed _ _)

theorem serveQueue (own : Option CtxId) (ws : List WaitItem) {s : State} (h : s.waitQueue = ws) :
    s.calm (s.serveQueue own ws) := by
  induction ws generalizing s with
  | nil => exact refl s
  | cons w rest ih =>
    unfold State.serveQueue
    split
    case isTrue => exact (deliver _ _ (by simp [h])).trans (ih (State.deliver_waitQueue _ _ _ _))
    case isFalse => exact refl s

theorem servingPass (own : Option CtxId) (s : State) : s.calm (s.servingPass own) := by
  have pass : ∀ t : State, t.calm t.endPass := by
    intro t
    unfold State.endPass
    split <;> exact of_eq rfl rfl rfl rfl rfl rfl rfl rfl rfl
  exact (serveQueue own _ rfl).trans (pass _)

/-- A draw demand is calm while the wait queue has room for its item (R125, R150). -/
theorem drawDemand (c : CtxId) (limit : Nat) {s : State} (h : s.waitQueue.length < 16) :
    s.calm (s.drawDemand c limit) := by
  have k : s.calm { s.putContext c { s.context c with state := .keyWait } with
      waitQueue := s.waitQueue ++ [WaitItem.mk c limit] } := by
    have wait : s.calm (s.putContext c { s.context c with state := .keyWait }) := putContext fun h => h.congr rfl rfl rfl
    refine wait.trans ⟨⟨fun _ => id, id, fun _ => ?_, id, rfl, rfl, id,
      fun _ => id⟩, .of_eq rfl rfl⟩
    simpa [State.waitWell] using h
  unfold State.drawDemand
  dsimp only
  split
  case h_1 => exact k
  case h_2 => exact k.trans (servingPass _ _)
  case h_3 => exact k.trans (servingPass _ _)

/-- The draw demands of a list of plans are calm while the wait queue has room for one item for each station among them. -/
theorem demandAll (ix : ExtIx) (plans : List (CtxId × CtxPlan)) {s : State}
    (h : s.waitQueue.length + plans.countP (fun p => p.2.isStation) ≤ 16) : s.calm (s.demandAll ix plans) := by
  unfold State.demandAll
  induction plans generalizing s with
  | nil => exact refl s
  | cons p plans ih =>
    rw [List.countP_cons] at h
    rw [List.foldl_cons]
    split
    case isTrue hp =>
      rw [if_pos hp] at h
      have grows := State.drawDemand_waitQueue p.1 (s.keyWaitLimitOf ix) s
      exact (drawDemand _ _ (by omega)).trans (ih (by omega))
    case isFalse hp =>
      rw [if_neg hp] at h
      exact ih h

theorem allocate (id : CallId) (c : CtxId) (plan : CtxPlan) (s : State) : s.calm (s.allocate id c plan) := by
  unfold State.allocate
  split
  case h_1 => exact putContext fun _ => .allocated id plan
  case h_2 => exact putContext fun _ => (Context.sidesWell.allocated id plan).keyed _ _

theorem settleCall (id : CallId) (ids : List CtxId) (s : State) : s.calm (s.settleCall id ids) := by
  unfold State.settleCall
  split <;> exact modCall _ _ s

end State.calm

theorem State.allocate_waitQueue (id : CallId) (c : CtxId) (plan : CtxPlan) (s : State) :
    (s.allocate id c plan).waitQueue = s.waitQueue := by
  unfold State.allocate
  split <;> rfl

theorem State.allocate_foldl_waitQueue (id : CallId) (plans : List (CtxId × CtxPlan)) (s : State) :
    (plans.foldl (fun s p => s.allocate id p.1 p.2) s).waitQueue = s.waitQueue := by
  induction plans generalizing s with
  | nil => rfl
  | cons p plans ih => exact (ih _).trans (State.allocate_waitQueue id p.1 p.2 s)

/-- Of the plans given contexts, no more are for stations than of all the plans. -/
theorem countP_isStation_zip_le (ids : List CtxId) (ctxs : List CtxPlan) :
    (ids.zip ctxs).countP (fun p => p.2.isStation) ≤ ctxs.countP CtxPlan.isStation := by
  induction ids generalizing ctxs with
  | nil => simp
  | cons x ids ih =>
    cases ctxs with
    | nil => simp
    | cons c ctxs =>
      rw [List.zip_cons_cons, List.countP_cons, List.countP_cons]
      exact Nat.add_le_add_right (ih ctxs) _

namespace State.calm

/-- A CONNECT CALL that passes the check of the wait queue's room is calm (R125, R127, R128). -/
theorem connect (c : Call) (paths : List PathPlan) (ctxs : List CtxPlan) {s : State}
    (h : s.waitQueue.length + ctxs.countP CtxPlan.isStation ≤ 16) : s.calm (s.connect c paths ctxs) := by
  unfold State.connect
  dsimp only
  refine trans ?_ (putPort ⟨rfl, rfl⟩)
  refine trans ?_ (settleCall _ _ _)
  have allocated : ∀ f, s.calm (((s.freeIds.zip ctxs).foldl (fun s p => s.allocate c.id p.1 p.2) s).modCall c.id f) :=
    fun f => (foldl (fun t (p : CtxId × CtxPlan) => allocate c.id p.1 p.2 t) _ s).trans (modCall _ f _)
  have installed : ∀ t ids, State.calm t (t.installPaths c.id ids paths) :=
    fun t ids => of_eq rfl rfl rfl rfl rfl rfl rfl rfl rfl
  refine trans (trans (allocated _) (installed _ _)) (demandAll _ _ ?_)
  show (State.waitQueue (State.modCall _ _ _)).length + _ ≤ 16
  rw [State.modCall_waitQueue, State.allocate_foldl_waitQueue]
  have := countP_isStation_zip_le s.freeIds ctxs
  omega

theorem connectCallAct (b : ConnectBody) (s : State) : s.calm (connectCallAct b s).1 := by
  unfold Machine.connectCallAct
  split
  case h_1 => exact refl s
  case h_2 c _ =>
    split
    case isTrue => exact refl s
    case isFalse =>
      split
      case h_1 => exact refl s
      case h_2 paths ctxs _ =>
        split
        case h_1 => exact refl s
        case h_2 hr =>
          refine connect c paths ctxs ?_
          simp only [State.connectRefusal] at hr
          split_ifs at hr with _ _ _ _ hroom
          simp only [State.noRoom, Bool.or_eq_true, decide_eq_true_eq, not_or] at hroom
          exact Nat.le_of_not_lt hroom.2

theorem leaveQueue (c : CtxId) (s : State) : s.calm (s.leaveQueue c) :=
  of_keys rfl rfl rfl rfl rfl rfl id (List.length_filter_le _ _) fun _ => id

theorem freeContext (c : CtxId) (s : State) : s.calm (s.freeContext c) :=
  (leaveQueue c s).trans (putContext fun _ => .free)

theorem deferredLapse (ix : ExtIx) (s : State) : s.calm (s.deferredLapse ix) := by
  unfold State.deferredLapse
  split
  case h_2 => exact refl s
  case h_1 =>
    split
    case h_1 => exact lapse _ _ s
    case h_2 => exact refl s

theorem endNotice (p : Port) (n : Option NoticeReason) (s : State) : s.calm (s.endNotice p n) := by
  unfold State.endNotice
  split
  case h_1 => exact offer _ rfl s
  case h_2 => exact refl s

theorem freeCall (id : CallId) (s : State) : s.calm (s.freeCall id) := by
  unfold State.freeCall
  split
  case h_1 => exact putCall _ _ s
  case h_2 => exact refl s

theorem endCall (c : Call) (n : Option NoticeReason) (s : State) : s.calm (s.endCall c n) := by
  unfold State.endCall
  dsimp only
  refine trans ?_ (freeCall _ _)
  refine trans ?_ (deferredLapse _ _)
  refine trans ?_ (endNotice _ _ _)
  refine trans ?_ (modEntry _ _ _)
  refine trans (trans (of_eq (t := s.removePaths c.id) rfl rfl rfl rfl rfl rfl rfl rfl rfl)
    (foldl (fun t x => freeContext x t) c.contexts _)) (putPort ?_)
  exact ⟨rfl, rfl⟩

theorem openTo (ix : ExtIx) (v : Verdict) (s : State) : s.calm (s.openTo ix v).1 := by
  unfold State.openTo
  split
  case h_1 => exact refl s
  case h_2 =>
    split
    case isTrue => exact refl s
    case isFalse =>
      split
      case h_2 => exact refl s
      case h_1 =>
        split
        case isTrue => exact refl s
        case isFalse =>
          split
          case h_1 => exact refl s
          case h_2 => exact ((createCall _ _ s).trans (putPort (by exact ⟨rfl, rfl⟩))).trans (offer _ rfl _)

theorem openCallAct (index : Word) (v : Byte) (s : State) : s.calm (openCallAct index v s).1 := by
  unfold Machine.openCallAct
  split
  case h_2 => exact refl s
  case h_1 =>
    split
    case isTrue => exact refl s
    case isFalse => exact openTo _ _ s

theorem onCall (id : CallId) {act : Call → State → State × Answer} {s : State} (h : ∀ c, s.calm (act c s).1) :
    s.calm (s.onCall id act).1 := by
  unfold State.onCall
  split
  case h_1 => exact refl s
  case h_2 => exact h _

theorem moveCall (c : Call) (state : CallState) (ctxState : CtxState) (s : State) :
    s.calm (s.moveCall c state ctxState) :=
  (modCall _ _ s).trans
    (foldl (f := fun s x => s.putContext x { s.context x with state := ctxState })
      (fun _ _ => putContext fun h => h.congr rfl rfl rfl) _ _)

theorem holdCallAct (c : Call) (s : State) : s.calm (holdCallAct c s).1 := by
  unfold Machine.holdCallAct
  split
  case isTrue => exact moveCall _ _ _ s
  case isFalse => exact refl s

theorem retrieveCallAct (c : Call) (s : State) : s.calm (retrieveCallAct c s).1 := by
  unfold Machine.retrieveCallAct
  split
  case isTrue => exact moveCall _ _ _ s
  case isFalse => exact refl s

theorem refuseCallAct (c : Call) (s : State) : s.calm (refuseCallAct c s).1 := by
  unfold Machine.refuseCallAct
  split
  case isTrue => exact endCall _ _ s
  case isFalse => exact refl s

theorem applyPolicy (x : CtxId) (s : State) : s.calm (s.applyPolicy x) := by
  unfold State.applyPolicy
  split
  case h_1 => exact refl s
  case h_2 =>
    split
    case h_1 => exact refl s
    case h_2 c _ =>
      split
      case h_1 =>
        have k : ∀ t : State, t.calm (t.retransform x) := fun t => of_eq rfl rfl rfl rfl rfl rfl rfl rfl rfl
        exact (((freeContext _ s).trans (k _)).trans (modCall _ _ _)).trans (raise _ _)
      case h_2 => exact (raise _ s).trans (endCall _ _ _)

/-! ## Requests on tables, keys and settings -/

theorem setClassAct (b : ClassBody) (s : State) : s.calm (setClassAct b s).1 := by
  unfold Machine.setClassAct
  split
  case h_1 => exact refl s
  case h_2 => exact of_eq rfl rfl rfl rfl rfl rfl rfl rfl rfl

theorem readClassAct (cls : Byte) (s : State) : s.calm (readClassAct cls s).1 := by
  unfold Machine.readClassAct
  split <;> exact refl s

theorem setScreenAct (b : ScreenBody) (s : State) : s.calm (setScreenAct b s).1 := by
  unfold Machine.setScreenAct
  split
  case h_1 => exact refl s
  case h_2 => exact of_eq rfl rfl rfl rfl rfl rfl rfl rfl rfl

theorem readScreenAct (screen : Byte) (s : State) : s.calm (readScreenAct screen s).1 := by
  unfold Machine.readScreenAct
  split <;> exact refl s

theorem sendToStationAct (port : Byte) (body : List Byte) (s : State) : s.calm (sendToStationAct port body s).1 := by
  unfold Machine.sendToStationAct
  dsimp only
  split_ifs with _ _ _ full
  · exact refl s
  · exact refl s
  · exact refl s
  · exact refl s
  · exact putLoop (fun h => h.enqueueRelay (Nat.lt_of_not_le full) _ _) ⟨rfl, rfl, rfl, rfl⟩

theorem setInterceptAct (member : Bool) (first last : Byte) (s : State) : s.calm (setInterceptAct member first last s).1 := by
  unfold Machine.setInterceptAct
  split_ifs
  · exact refl s
  · exact refl s
  · exact of_eq rfl rfl rfl rfl rfl rfl rfl rfl rfl

/-- The slots a deposit writes are the device's (R142). -/
theorem deposit (targets : List (RingPos × Key)) (s : State) : s.calm (s.deposit targets) := by
  refine of_keys rfl rfl rfl rfl rfl rfl (fun h => ?_) le_rfl fun _ => id
  show ∀ i, ((targets.foldl (fun ring t => ring.set t.1 ⟨.device, t.2⟩) s.ring).get i).owner = .host → _
  induction targets using List.reverseRecOn with
  | nil => exact h
  | append_singleton targets t ih =>
    intro i
    rw [show (s.deposit (targets ++ [t])).ring = (targets ++ [t]).foldl (fun ring t => ring.set t.1 ⟨.device, t.2⟩) s.ring
      from rfl, List.foldl_append]
    exact ringWell_set ih t.1 (slot := ⟨.device, t.2⟩) nofun i

theorem depositKeysAct (b : DepositBody) (s : State) : s.calm (depositKeysAct b s).1 := by
  unfold Machine.depositKeysAct
  split_ifs
  · exact refl s
  · exact refl s
  · exact deposit _ s

theorem startDrawAct (s : State) : s.calm (startDrawAct s).1 := by
  have k : s.calm { s with supplier := .running } := of_eq rfl rfl rfl rfl rfl rfl rfl rfl rfl
  unfold Machine.startDrawAct
  split
  case h_1 => exact k.trans (servingPass none _)
  case h_2 => exact servingPass none s
  case h_3 => exact servingPass none s

theorem resumeDrawAct (s : State) : s.calm (resumeDrawAct s).1 := by
  unfold Machine.resumeDrawAct
  split
  case h_1 => exact refl s
  case h_2 => exact servingPass none s
  case h_3 => exact servingPass none s

theorem holdKeyAct (slot : Byte) (key : Key) (s : State) : s.calm (holdKeyAct slot key s).1 := by
  unfold Machine.holdKeyAct
  split
  case h_1 => exact refl s
  case h_2 => exact of_eq rfl rfl rfl rfl rfl rfl rfl rfl rfl

theorem dropKeyAct (slot : Byte) (s : State) : s.calm (dropKeyAct slot s).1 := by
  unfold Machine.dropKeyAct
  split
  case h_1 => exact refl s
  case h_2 => exact of_eq rfl rfl rfl rfl rfl rfl rfl rfl rfl

theorem readContextAct (context : Byte) (s : State) : s.calm (readContextAct context s).1 := by
  unfold Machine.readContextAct
  split <;> exact refl s

theorem setDeviceAct (body : List Byte) (s : State) : s.calm (setDeviceAct body s).1 := by
  unfold Machine.setDeviceAct
  split
  case h_1 => exact refl s
  case h_2 => exact of_eq rfl rfl rfl rfl rfl rfl rfl rfl rfl

/-! ## Frames and ticks (spec/06) -/

/-- States that agree on the loops, the ports, the key store and the link's holding, where the time base is well after it
was, and every context's sides are. -/
theorem of_time {s t : State} (hl : t.loops = s.loops) (hp : t.ports = s.ports) (hr : t.ring = s.ring)
    (hw : t.waitQueue = s.waitQueue) (hh : t.holding = s.holding) (hg : t.handling.isSome = s.handling.isSome)
    (hc : t.challengeCounter = s.challengeCounter) (ht : s.timeWell → t.timeWell)
    (hx : ∀ x, (s.context x).sidesWell → (t.context x).sidesWell) : s.calm t where
  mild := {
    queues := fun l => by simp [State.loop, hl]
    ring := by simp [State.ringWell, hr]
    wait := by simp [State.waitWell, hw]
    time := ht
    holding := hh
    handling := hg
    counter := by simp [State.counterWell, hc]
    sides := hx }
  steady := .of_eq hl hp

theorem millisecond (s : State) : s.calm s.millisecond where
  mild := {
    queues := fun _ => id, ring := id, time := id, holding := rfl, handling := rfl, counter := id, sides := fun _ => id
    wait := by simp [State.waitWell, State.millisecond] }
  steady := {
    loop := fun _ => .refl _
    port := fun p => by
      simp only [State.port, State.millisecond, Table.get_map]
      exact ⟨rfl, rfl⟩ }

/-- A tick leaves the time base well: the Holdover Length stops at its greatest value, and the seconds' divider wraps
(R105, R107). -/
theorem tick (s : State) : s.calm s.tick := by
  refine (millisecond s).trans ?_
  have time : ∀ d, d < 1000 → s.millisecond.timeWell →
      ({ s.millisecond with timeBase := { s.millisecond.timeBase.lengthTick with secondDivider := d } } : State).timeWell := by
    rintro d hd ⟨h1, h2, h3, _, h5, h6, h7⟩
    unfold TimeBase.lengthTick
    split
    case h_1 => exact ⟨h1, h2, h3, hd, Nat.min_le_left _ _, h6, h7⟩
    case h_2 => exact ⟨h1, h2, h3, hd, h5, h6, h7⟩
  have divider : ∀ t : TimeBase, t.lengthTick.secondDivider = t.secondDivider := by
    intro t
    unfold TimeBase.lengthTick
    split <;> rfl
  unfold State.tick
  dsimp only
  split
  case isTrue => exact of_time rfl rfl rfl rfl rfl rfl rfl (time 0 (by decide)) fun _ => id
  case isFalse hd =>
    refine of_time rfl rfl rfl rfl rfl rfl rfl (fun h => time _ ?_ h) fun _ => id
    obtain ⟨_, _, _, h4, _⟩ := h
    rw [divider] at hd ⊢
    omega

theorem beginFrame (s : State) : s.calm s.beginFrame := by
  unfold State.beginFrame
  dsimp only
  split
  case isTrue =>
    have k : s.calm { s with
        handling := s.handling.map HeldReply.seen, timeBase := { s.timeBase with tickDivider := 0 } } := by
      refine of_time rfl rfl rfl rfl rfl (by simp) rfl ?_ fun _ => id
      rintro ⟨h1, h2, _, h4⟩
      exact ⟨h1, h2, Nat.zero_lt_succ _, h4⟩
    exact k.trans (tick _)
  case isFalse hd =>
    refine of_time rfl rfl rfl rfl rfl (by simp) rfl ?_ fun _ => id
    rintro ⟨h1, h2, h3, h4⟩
    exact ⟨h1, h2, by dsimp only at h3 ⊢; omega, h4⟩

theorem serveFrame (inputs : Table Byte 192) (s : State) : s.calm (s.serveFrame inputs) := by
  have k : s.calm { s with
      contexts := (s.frameSteps inputs).map CtxFrame.context
      outputs := Table.tabulate (fun d => some (s.slotOctet inputs (s.frameSteps inputs) d)) } := by
    refine of_keys rfl rfl rfl rfl rfl rfl id le_rfl fun x hx => ?_
    simp only [State.context, State.frameSteps, Table.get_map, Table.get_imap]
    exact hx.stepContext s inputs x
  exact k.trans (foldl (fun s i => raise i s) _ _)

theorem highwayFrame (inputs : Table Byte 192) (s : State) : s.calm (s.highwayFrame inputs) :=
  (beginFrame s).trans (serveFrame inputs _)

theorem unservedFrame (s : State) : s.calm s.unservedFrame := by
  have k : s.calm { s with outputs := Table.replicate 192 none } := of_eq rfl rfl rfl rfl rfl rfl rfl rfl rfl
  exact k.trans (beginFrame _)

theorem acceptPulse (sinceFrame : Nat) (inputs : Table Byte 192) (s : State) :
    s.calm (s.acceptPulse sinceFrame inputs) := by
  unfold State.acceptPulse
  split
  case isFalse => exact refl s
  case isTrue =>
    have k : s.calm { s with timeBase := { s.timeBase with missCount := 0 } } := by
      refine of_time rfl rfl rfl rfl rfl rfl rfl ?_ fun _ => id
      rintro ⟨_, h2, h3, h4, h5, _, h7⟩
      exact ⟨Nat.zero_lt_succ _, h2, h3, h4, h5, fun _ => rfl, h7⟩
    exact k.trans (highwayFrame inputs _)

theorem restorePulse (sincePulse : Option Nat) (inputs : Table Byte 192) {s : State} (hs : s.timeBase.source = .holdover) :
    s.calm (s.restorePulse sincePulse inputs) := by
  unfold State.restorePulse
  dsimp only
  split
  case isFalse hc =>
    refine of_time rfl rfl rfl rfl rfl rfl rfl ?_ fun _ => id
    rintro ⟨h1, _, h3, h4, h5, h6, _⟩
    exact ⟨h1, Nat.lt_of_not_le hc, h3, h4, h5, h6, by simp [hs]⟩
  case isTrue =>
    have k : s.calm { s with
        timeBase := { s.timeBase with source := .highway, missCount := 0, restoreCount := 0 }
        contexts := s.contexts.map Context.resume } := by
      refine of_time rfl rfl rfl rfl rfl rfl rfl ?_ fun x hx => ?_
      · rintro ⟨_, _, h3, h4, h5, _, _⟩
        exact ⟨Nat.zero_lt_succ _, Nat.zero_lt_succ _, h3, h4, h5, nofun, fun _ => rfl⟩
      · simp only [State.context, Table.get_map]
        exact hx.resume
    exact (k.trans (raise _ _)).trans (highwayFrame inputs _)

theorem missPulse (inputs : Table Byte 192) {s : State} (hs : s.timeBase.source = .highway) :
    s.calm (s.missPulse inputs) := by
  unfold State.missPulse
  split
  case isTrue hm =>
    have k : s.calm { s with timeBase := { s.timeBase with missCount := s.timeBase.missCount + 1 } } := by
      refine of_time rfl rfl rfl rfl rfl rfl rfl ?_ fun _ => id
      rintro ⟨_, h2, h3, h4, h5, _, h7⟩
      exact ⟨hm, h2, h3, h4, h5, by simp [hs], h7⟩
    exact k.trans (highwayFrame inputs _)
  case isFalse =>
    have k : s.calm { s with
        timeBase :=
          { s.timeBase with source := .holdover, missCount := 0, restoreCount := 0, holdoverLength := 0 } } := by
      refine of_time rfl rfl rfl rfl rfl rfl rfl ?_ fun _ => id
      rintro ⟨_, _, h3, h4, _, _, _⟩
      exact ⟨Nat.zero_lt_succ _, Nat.zero_lt_succ _, h3, h4, Nat.zero_le _, fun _ => rfl, nofun⟩
    exact (k.trans (raise _ _)).trans (unservedFrame _)

theorem restoreRunTimeout (s : State) : s.calm { s with timeBase := { s.timeBase with restoreCount := 0 } } := by
  refine of_time rfl rfl rfl rfl rfl rfl rfl ?_ fun _ => id
  rintro ⟨h1, _, h3, h4, h5, h6, _⟩
  exact ⟨h1, Nat.zero_lt_succ _, h3, h4, h5, h6, fun _ => rfl⟩

end State.calm

end Sys2Proof.Machine

namespace Sys2Proof.Machine

/-! ## Ports, loops and stations -/

@[simp] theorem loopOf_portOf (l : LoopNo) (st : Station) : loopOf (portOf l st) = l := by
  apply Fin.ext
  simp only [loopOf, portOf]
  omega

@[simp] theorem stationOf_portOf (l : LoopNo) (st : Station) : stationOf (portOf l st) = st := by
  apply Fin.ext
  simp only [stationOf, portOf]
  omega

@[simp] theorem portOf_loopOf (p : Port) : portOf (loopOf p) (stationOf p) = p := by
  apply Fin.ext
  simp only [loopOf, stationOf, portOf]
  omega

/-- The next turn goes to a listed address (R45). -/
theorem LoopRec.nextStation_listed {r : LoopRec} {st : Station} (h : r.nextStation = some st) :
    r.pollList.get st = true := by
  have listed : st ∈ (List.finRange 32).filter r.pollList.get := by
    unfold LoopRec.nextStation at h
    dsimp only at h
    split at h
    case h_2 => exact List.mem_of_head? h
    case h_1 =>
      split at h
      case h_1 hf => exact Option.some.inj h ▸ List.mem_of_find?_eq_some hf
      case h_2 => exact List.mem_of_head? h
  exact (List.mem_filter.mp listed).2

/-! ## The absence procedure (R52) -/

namespace State.calm

theorem discardBlocks (p : Port) (s : State) : s.calm (s.discardBlocks p) :=
  putLoop (fun h => h.discard _) ⟨rfl, rfl, rfl, rfl⟩

theorem dropChallengeAt (p : Port) (s : State) : s.calm (s.dropChallengeAt p) := by
  unfold State.dropChallengeAt
  split
  case h_1 => exact modEntry _ _ s
  case h_2 => exact refl s

theorem lapseAt (p : Port) (s : State) : s.calm (s.lapseAt p) := by
  unfold State.lapseAt
  split
  case h_1 => exact lapse _ _ s
  case h_2 => exact refl s

theorem absenceProcedure (p : Port) (s : State) : s.calm (s.absenceProcedure p) :=
  (((discardBlocks p s).trans (dropChallengeAt p _)).trans (putPort (.gone _))).trans (lapseAt p _)

end State.calm

/-! ## Updates that let ports fade

`s.fades t`: every loop polls as before, and no port has become PRESENT or has come to a Miss Count. -/

/-- The port is ABSENT with Miss Count 0. -/
def State.unmissed (s : State) (p : Port) : Prop := (s.port p).presence = .absent ∧ (s.port p).miss = 0

/-- Every loop polls as before, an ABSENT port is still ABSENT, and a Miss Count of 0 still 0. -/
structure State.fades (s t : State) : Prop where
  loop : ∀ l, (s.loop l).polledAlike (t.loop l)
  absent : ∀ p, (s.port p).presence = .absent → (t.port p).presence = .absent
  miss : ∀ p, (s.port p).miss = 0 → (t.port p).miss = 0

theorem State.steady.fades {s t : State} (k : s.steady t) : s.fades t where
  loop := k.loop
  absent p h := (k.port p).presence.trans h
  miss p h := (k.port p).miss.trans h

namespace State.fades

theorem refl (s : State) : s.fades s := (State.steady.refl s).fades

theorem trans {s t u : State} (h : s.fades t) (k : t.fades u) : s.fades u where
  loop l := (h.loop l).trans (k.loop l)
  absent p := k.absent p ∘ h.absent p
  miss p := k.miss p ∘ h.miss p

theorem unmissed {s t : State} (k : s.fades t) {p : Port} (h : s.unmissed p) : t.unmissed p :=
  ⟨k.absent p h.1, k.miss p h.2⟩

theorem putPort {s : State} {p : Port} {r : PortRec} (ha : (s.port p).presence = .absent → r.presence = .absent)
    (hm : (s.port p).miss = 0 → r.miss = 0) : s.fades (s.putPort p r) where
  loop _ := .refl _
  absent q := by
    rw [State.port_putPort]
    split
    case isTrue hq => subst hq; exact ha
    case isFalse => exact id
  miss q := by
    rw [State.port_putPort]
    split
    case isTrue hq => subst hq; exact hm
    case isFalse => exact id

/-- What fades leaves the unlisted ports ABSENT with Miss Count 0. -/
theorem presenceWell {s t : State} (k : s.fades t) (h : s.presenceWell) : t.presenceWell where
  disabled l := by rw [(k.loop l).state, (k.loop l).enable]; exact h.disabled l
  turn l u hu := by
    rw [(k.loop l).state, (k.loop l).pollList]
    exact h.turn l u ((k.loop l).turn ▸ hu)
  unlisted l st hl := by
    rw [(k.loop l).enable, (k.loop l).pollList] at hl
    exact k.unmissed (h.unlisted l st hl)

/-- A fold of such updates. -/
theorem foldl {α : Type} {f : State → α → State} (h : ∀ (s : State) a, s.fades (f s a)) (as : List α) (s : State) :
    s.fades (as.foldl f s) := by
  induction as generalizing s with
  | nil => exact refl s
  | cons a as ih => exact (h s a).trans (ih _)

/-- What each update of a fold brings about, and every such update keeps, holds of each item at the end. -/
theorem foldl_each {α : Type} {f : State → α → State} {holds : α → State → Prop} (h : ∀ (s : State) a, s.fades (f s a))
    (own : ∀ s a, holds a (f s a)) (kept : ∀ {s t : State} a, s.fades t → holds a s → holds a t) {as : List α} {a : α}
    (ha : a ∈ as) (s : State) : holds a (as.foldl f s) := by
  induction as generalizing s with
  | nil => cases ha
  | cons b as ih =>
    rcases List.mem_cons.mp ha with rfl | hb
    · exact kept a (foldl h as _) (own s a)
    · exact ih hb _

theorem goAbsent (p : Port) (s : State) : s.fades (s.goAbsent p) := by
  have absent : s.fades (s.putPort p { s.port p with presence := .absent }) := putPort (fun _ => rfl) id
  exact absent.trans ((State.calm.raise _ _).trans (State.calm.absenceProcedure p _)).steady.fades

theorem ensureAbsent (p : Port) (s : State) : s.fades (s.ensureAbsent p) := by
  unfold State.ensureAbsent
  split
  case h_1 => exact goAbsent p s
  case h_2 => exact refl s

theorem clearMiss (p : Port) (s : State) : s.fades (s.clearMiss p) := putPort id fun _ => rfl

theorem removeStation (p : Port) (s : State) : s.fades (s.removeStation p) :=
  ((ensureAbsent p s).trans (State.calm.discardBlocks p _).steady.fades).trans (clearMiss p _)

end State.fades

theorem State.clearMiss_miss (p : Port) (s : State) : ((s.clearMiss p).port p).miss = 0 := by simp [State.clearMiss]

theorem State.goAbsent_absent (p : Port) (s : State) : ((s.goAbsent p).port p).presence = .absent := by
  refine (State.calm.absenceProcedure p _).steady.fades.absent p ?_
  simp

theorem State.ensureAbsent_absent (p : Port) (s : State) : ((s.ensureAbsent p).port p).presence = .absent := by
  unfold State.ensureAbsent
  split
  case h_1 => exact s.goAbsent_absent p
  case h_2 h => exact h

theorem State.removeStation_unmissed (p : Port) (s : State) : (s.removeStation p).unmissed p :=
  ⟨(State.fades.clearMiss p _).absent p (s.ensureAbsent_absent p), State.clearMiss_miss p _⟩

/-! ## Absences and the list (R40 to R42, R52) -/

/-- The record of a loop that the host has disabled (R41). -/
def LoopRec.off (poll : Table Bool 32) : LoopRec := ⟨false, poll, .disabled, none, [], 0, none⟩

/-- A loop disabled: its record is put off, its listed ports become ABSENT, and every Miss Count 0 (R41). -/
theorem State.disableLoop_eq (l : LoopNo) (poll : Table Bool 32) (s : State) :
    s.disableLoop l poll = (List.finRange 32).foldl (fun s st => s.clearMiss (portOf l st))
      (((List.finRange 32).filter (s.loop l).pollList.get).foldl (fun s st => s.ensureAbsent (portOf l st))
        (s.putLoop l (.off poll))) := rfl

namespace State.mild

theorem goAbsent (p : Port) (s : State) : s.mild (s.goAbsent p) := by
  have absent := putPort p { s.port p with presence := .absent } s
  exact absent.trans ((State.calm.raise _ _).trans (State.calm.absenceProcedure p _)).mild

theorem ensureAbsent (p : Port) (s : State) : s.mild (s.ensureAbsent p) := by
  unfold State.ensureAbsent
  split
  case h_1 => exact goAbsent p s
  case h_2 => exact refl s

theorem setLoop (l : LoopNo) (enable : Bool) (poll : Table Bool 32) (s : State) : s.mild (s.setLoop l enable poll) := by
  unfold State.setLoop
  split
  case h_1 =>
    refine trans (putLoop (l := l) fun h => ?_) (foldl (fun t st =>
      ((ensureAbsent (portOf l st) t).trans (State.calm.discardBlocks _ _).mild).trans (putPort _ _ _)) _ _)
    exact h
  case h_2 =>
    refine trans (trans (putLoop (l := l) fun _ => ?_) (foldl (fun t st => ensureAbsent (portOf l st) t) _ _))
      (foldl (fun t st => putPort (portOf l st) _ t) _ _)
    exact .empty rfl rfl
  case h_3 => exact putLoop fun h => h
  case h_4 => exact putLoop fun h => h

end State.mild

namespace State.presenceWell

/-- One loop's record written beside the ports it polls. -/
theorem putLoop {s : State} (h : s.presenceWell) {l : LoopNo} {r : LoopRec}
    (disabled : r.state = .disabled ↔ r.enable = false)
    (turn : ∀ t, r.turn = some t → r.state = .idleCycle ∧ r.pollList.get t.station = true)
    (unlisted : ∀ st, r.enable = false ∨ r.pollList.get st = false → s.unmissed (portOf l st)) :
    (s.putLoop l r).presenceWell where
  disabled m := by
    rw [State.loop_putLoop]
    split
    · exact disabled
    · exact h.disabled m
  turn m t := by
    rw [State.loop_putLoop]
    split
    · exact turn t
    · exact h.turn m t
  unlisted m st := by
    rw [State.loop_putLoop]
    split
    case isTrue hm => subst hm; exact unlisted st
    case isFalse => exact h.unlisted m st

/-- A loop that goes on polling as it did, in a state and with a turn that fit. -/
theorem putLoop_polling {s : State} (h : s.presenceWell) {l : LoopNo} {r : LoopRec}
    (disabled : r.state = .disabled ↔ r.enable = false)
    (turn : ∀ t, r.turn = some t → r.state = .idleCycle ∧ r.pollList.get t.station = true)
    (enable : r.enable = (s.loop l).enable) (poll : r.pollList = (s.loop l).pollList) : (s.putLoop l r).presenceWell :=
  h.putLoop disabled turn fun st hst => h.unlisted l st (enable ▸ poll ▸ hst)

theorem endTurn {s : State} (h : s.presenceWell) (l : LoopNo) : (s.endTurn l).presenceWell :=
  h.putLoop_polling (h.disabled l) nofun rfl rfl

/-- The record of a port that an enabled loop polls may change as it will. -/
theorem putPort {s : State} (h : s.presenceWell) {l : LoopNo} {st : Station} (enable : (s.loop l).enable = true)
    (listed : (s.loop l).pollList.get st = true) (r : PortRec) : (s.putPort (portOf l st) r).presenceWell where
  disabled := h.disabled
  turn := h.turn
  unlisted m k hk := by
    rw [State.port_putPort]
    split
    case isTrue hp =>
      have hm : m = l := by rw [← loopOf_portOf m k, hp, loopOf_portOf]
      have hst : k = st := by rw [← stationOf_portOf m k, hp, stationOf_portOf]
      subst hm hst
      simp [enable, listed] at hk
    case isFalse => exact h.unlisted m k hk

/-- The address of an open window is polled by an enabled loop (R45, R47). -/
theorem of_openWindow {s : State} (h : s.presenceWell) {l : LoopNo} {t : Turn} (ht : s.openWindow l = some t) :
    (s.loop l).enable = true ∧ (s.loop l).pollList.get t.station = true := by
  have turn : (s.loop l).turn = some t := by
    unfold State.openWindow at ht
    split at ht
    case h_2 => cases ht
    case h_1 u hu =>
      split at ht
      case isTrue => cases ht; exact hu
      case isFalse => cases ht
  obtain ⟨state, listed⟩ := h.turn l t turn
  refine ⟨?_, listed⟩
  by_contra he
  have := (h.disabled l).mpr (by simpa using he)
  simp [state] at this

/-- A loop's record replaced, after which ports fade: what it leaves out has to be ABSENT with Miss Count 0 at the end. -/
theorem relist {s t : State} (h : s.presenceWell) {l : LoopNo} {r : LoopRec} (k : (s.putLoop l r).fades t)
    (disabled : r.state = .disabled ↔ r.enable = false)
    (turn : ∀ u, r.turn = some u → r.state = .idleCycle ∧ r.pollList.get u.station = true)
    (unlisted : ∀ st, r.enable = false ∨ r.pollList.get st = false → t.unmissed (portOf l st)) : t.presenceWell := by
  have here : r.polledAlike (t.loop l) := by simpa using k.loop l
  have there : ∀ m, m ≠ l → (s.loop m).polledAlike (t.loop m) := fun m hm => by simpa [hm] using k.loop m
  refine ⟨fun m => ?_, fun m u hu => ?_, fun m st hst => ?_⟩ <;> by_cases hm : m = l
  · subst hm; rw [here.state, here.enable]; exact disabled
  · rw [(there m hm).state, (there m hm).enable]; exact h.disabled m
  · subst hm; rw [here.state, here.pollList]; exact turn u (here.turn ▸ hu)
  · rw [(there m hm).state, (there m hm).pollList]; exact h.turn m u ((there m hm).turn ▸ hu)
  · subst hm; rw [here.enable, here.pollList] at hst; exact unlisted st hst
  · rw [(there m hm).enable, (there m hm).pollList] at hst; exact k.unmissed (h.unlisted m st hst)

/-- A list change: every address left out was unlisted before, or is removed (R40). -/
theorem changeList {s : State} (h : s.presenceWell) {l : LoopNo} (enable : (s.loop l).enable = true)
    (poll : Table Bool 32) : (s.changeList l poll).presenceWell := by
  have step : ∀ (t : State) st, t.fades (t.removeStation (portOf l st)) := fun t st => .removeStation _ t
  have k := State.fades.foldl step ((List.finRange 32).filter (fun st => (s.loop l).pollList.get st && !poll.get st))
    (s.putLoop l { s.loop l with pollList := poll, turn := (s.loop l).keepTurn poll })
  refine h.relist k (h.disabled l) (fun u hu => ?_) fun st hst => ?_
  · simp only [LoopRec.keepTurn] at hu
    split at hu
    case h_2 => cases hu
    case h_1 ht =>
      split at hu
      case isFalse => cases hu
      case isTrue hp => cases hu; exact ⟨(h.turn l _ ht).1, hp⟩
  · have out : poll.get st = false := by simpa [enable] using hst
    cases listed : (s.loop l).pollList.get st with
    | false => exact k.unmissed (h.unlisted l st (.inr listed))
    | true =>
      exact State.fades.foldl_each step (holds := fun st t => t.unmissed (portOf l st))
        (fun t st => t.removeStation_unmissed _) (fun st k => k.unmissed)
        (List.mem_filter.mpr ⟨List.mem_finRange st, by simp [listed, out]⟩) _

/-- A loop disabled: each port was unlisted before or becomes ABSENT, and every Miss Count becomes 0 (R41). -/
theorem disableLoop {s : State} (h : s.presenceWell) (l : LoopNo) (poll : Table Bool 32) :
    (s.disableLoop l poll).presenceWell := by
  have absent : ∀ (t : State) st, t.fades (t.ensureAbsent (portOf l st)) := fun t st => .ensureAbsent _ t
  have clear : ∀ (t : State) st, t.fades (t.clearMiss (portOf l st)) := fun t st => .clearMiss _ t
  have k := State.fades.foldl absent ((List.finRange 32).filter (s.loop l).pollList.get) (s.putLoop l (.off poll))
  have each := fun (st : Station) (hst : (s.loop l).pollList.get st = true) =>
    State.fades.foldl_each absent (holds := fun st t => (t.port (portOf l st)).presence = .absent)
      (fun t st => t.ensureAbsent_absent _) (fun st k => k.absent _)
      (List.mem_filter.mpr ⟨List.mem_finRange st, hst⟩) (s.putLoop l (.off poll))
  rw [State.disableLoop_eq]
  generalize ((List.finRange 32).filter (s.loop l).pollList.get).foldl
    (fun s st => s.ensureAbsent (portOf l st)) (s.putLoop l (.off poll)) = t at k each
  refine h.relist (k.trans (State.fades.foldl clear _ t)) (by simp [LoopRec.off]) nofun fun st _ => ⟨?_, ?_⟩
  · refine (State.fades.foldl clear _ t).absent _ ?_
    cases listed : (s.loop l).pollList.get st with
    | false => exact k.absent _ (h.unlisted l st (.inr listed)).1
    | true => exact each st listed
  · exact State.fades.foldl_each clear (holds := fun st t => (t.port (portOf l st)).miss = 0)
      (fun t st => t.clearMiss_miss _) (fun st k => k.miss _) (List.mem_finRange st) t

theorem setLoop {s : State} (h : s.presenceWell) (l : LoopNo) (enable : Bool) (poll : Table Bool 32) :
    (s.setLoop l enable poll).presenceWell := by
  -- a loop that is not enabled has no turn
  have idle : (s.loop l).enable = false → ∀ t, (s.loop l).turn ≠ some t := by
    intro he t ht
    have state := (h.turn l t ht).1
    simp [(h.disabled l).mpr he] at state
  unfold State.setLoop
  split
  case h_1 _ he => exact h.changeList he poll
  case h_2 => exact h.disableLoop l poll
  case h_3 _ he => exact h.putLoop (by simp) (fun t ht => absurd ht (idle he t)) fun st _ => h.unlisted l st (.inl he)
  case h_4 _ he =>
    exact h.putLoop (h.disabled l) (fun t ht => absurd ht (idle he t)) fun st _ => h.unlisted l st (.inl he)

end State.presenceWell

end Sys2Proof.Machine

namespace Sys2Proof.Machine

/-! ## What each command keeps -/

/-- Each invariant of the queues, the key store, the counts, the sides and the presences that holds before holds after. -/
structure State.keepsWell (s t : State) : Prop where
  queues : s.queuesWell → t.queuesWell
  ring : s.ringWell → t.ringWell
  wait : s.waitWell → t.waitWell
  time : s.timeWell → t.timeWell
  holding : s.holdingWell → t.holdingWell
  counter : s.counterWell → t.counterWell
  sides : s.sidesWell → t.sidesWell
  presence : s.presenceWell → t.presenceWell

/-- What a request's meaning has to keep: the invariants, and its frame in the holding (R192). -/
structure State.serves (s t : State) : Prop where
  well : s.keepsWell t
  frame : s.holding ≠ [] → t.holding ≠ []

/-- A mild update that leaves the presences well. -/
theorem State.mild.keepsWell {s t : State} (k : s.mild t) (hp : s.presenceWell → t.presenceWell) : s.keepsWell t where
  queues h l := k.queues l (h l)
  ring := k.ring
  wait := k.wait
  time := k.time
  holding := by simp [State.holdingWell, k.holding, k.handling]
  counter := k.counter
  sides h x := k.sides x (h x)
  presence := hp

theorem State.mild.serves {s t : State} (k : s.mild t) (hp : s.presenceWell → t.presenceWell) : s.serves t :=
  ⟨k.keepsWell hp, by simp [k.holding]⟩

theorem State.calm.keepsWell {s t : State} (k : s.calm t) : s.keepsWell t := k.mild.keepsWell k.steady.fades.presenceWell

theorem State.calm.serves {s t : State} (k : s.calm t) : s.serves t := k.mild.serves k.steady.fades.presenceWell

namespace State.keepsWell

theorem refl (s : State) : s.keepsWell s := (State.calm.refl s).keepsWell

theorem trans {s t u : State} (h : s.keepsWell t) (k : t.keepsWell u) : s.keepsWell u where
  queues := k.queues ∘ h.queues
  ring := k.ring ∘ h.ring
  wait := k.wait ∘ h.wait
  time := k.time ∘ h.time
  holding := k.holding ∘ h.holding
  counter := k.counter ∘ h.counter
  sides := k.sides ∘ h.sides
  presence := k.presence ∘ h.presence

theorem foldl {α : Type} {f : State → α → State} (h : ∀ (s : State) a, s.keepsWell (f s a)) (as : List α) (s : State) :
    s.keepsWell (as.foldl f s) := by
  induction as generalizing s with
  | nil => exact refl s
  | cons a as ih => exact (h s a).trans (ih _)

/-- States that differ in the link's holding, which stays well. -/
theorem of_holding {s t : State} (hl : t.loops = s.loops) (hp : t.ports = s.ports) (hr : t.ring = s.ring)
    (hw : t.waitQueue = s.waitQueue) (ht : t.timeBase = s.timeBase) (hc : t.challengeCounter = s.challengeCounter)
    (hx : t.contexts = s.contexts) (hh : s.holdingWell → t.holdingWell) : s.keepsWell t where
  queues := by simp [State.queuesWell, State.loop, hl]
  ring := by simp [State.ringWell, hr]
  wait := by simp [State.waitWell, hw]
  time := by simp [State.timeWell, ht]
  holding := hh
  counter := by simp [State.counterWell, hc]
  sides := by simp [State.sidesWell, State.context, hx]
  presence := (State.steady.of_eq hl hp).fades.presenceWell

/-! ### The control link (R190 to R193) -/

theorem dropFrame (k : LinkErrorKind) (s : State) : s.keepsWell (s.dropFrame k) := of_holding rfl rfl rfl rfl rfl rfl rfl id

/-- A frame joins the holding while it has fewer than two (R192). -/
theorem hold (f : Frame) (s : State) : s.keepsWell (s.hold f) := by
  unfold State.hold
  split_ifs with full
  · exact (State.calm.raise _ s).keepsWell
  · refine of_holding rfl rfl rfl rfl rfl rfl rfl fun h => ⟨?_, fun _ => by simp⟩
    simp only [List.length_append, List.length_cons, List.length_nil]
    omega
  · exact (State.calm.raise _ s).keepsWell

theorem receiveOctet (s : State) (o : Byte) : s.keepsWell (s.receiveOctet o) := by
  have assembling : ∀ os, s.keepsWell { s with assembling := os } := fun os => of_holding rfl rfl rfl rfl rfl rfl rfl id
  unfold State.receiveOctet
  dsimp only
  split_ifs
  · exact assembling _
  · exact refl s
  · exact dropFrame _ s
  · unfold State.completeFrame
    split
    · exact (assembling []).trans (hold _ _)
    · exact dropFrame _ s
  · exact assembling _

theorem lineError (k : LinkErrorKind) (s : State) : s.keepsWell (s.lineError k) := by
  unfold State.lineError
  split
  · exact refl s
  · exact dropFrame k s

theorem release (r : Reply) (s : State) : s.keepsWell (s.release r) := by
  refine of_holding rfl rfl rfl rfl rfl rfl rfl fun h => ⟨?_, nofun⟩
  exact (List.tail_sublist s.holding).length_le.trans h.1

/-- A reply held back needs its frame at the head of the holding (R115, R192). -/
theorem respond (f : Frame) (a : Answer) {s : State} (frame : s.holding ≠ []) : s.keepsWell (s.respond f a) := by
  unfold State.respond
  dsimp only
  split
  · exact of_holding rfl rfl rfl rfl rfl rfl rfl fun h => ⟨h.1, fun _ => frame⟩
  · exact release _ s

theorem admitFrame (f : Frame) (s : State) : s.keepsWell (s.admitFrame f) ∧ (s.admitFrame f).holding ≠ [] := by
  have held : (s.admitFrame f).holding ≠ [] := by cases h : s.holding <;> simp [h]
  refine ⟨of_holding rfl rfl rfl rfl rfl rfl rfl fun h => ⟨?_, fun _ => held⟩, held⟩
  cases hh : s.holding with
  | nil => simp [hh]
  | cons g gs => simpa [hh] using h.1

/-- A request whose meaning keeps the invariants, and its frame, keeps them, taken or not (R193). -/
theorem serve {s : State} (i : Instr) {act : State → State × Answer} (ha : ∀ t : State, t.serves (act t).1) :
    s.keepsWell (s.serve i act) := by
  unfold State.serve
  split
  case h_2 => exact refl s
  case h_1 f _ =>
    unfold State.request
    split
    case isFalse => exact refl s
    case isTrue =>
      obtain ⟨admitted, held⟩ := admitFrame f s
      obtain ⟨acted, kept⟩ := ha (s.admitFrame f)
      exact (admitted.trans acted).trans (respond f _ (kept held))

/-! ### The station loops (R40 to R55) -/

theorem loopTurnStart (l : LoopNo) (s : State) : s.keepsWell (s.putLoop l (s.loop l).startTurn) := by
  refine (State.mild.putLoop fun h => h.startTurn).keepsWell fun h => ?_
  unfold LoopRec.startTurn
  split
  case h_2 => exact h.putLoop_polling (h.disabled l) (h.turn l) rfl rfl
  case h_1 st state _ hst =>
    have listed := LoopRec.nextStation_listed hst
    unfold LoopRec.beginTurn
    split
    all_goals
      refine h.putLoop_polling (h.disabled l) ?_ rfl rfl
      rintro t ⟨⟩
      exact ⟨state, listed⟩

theorem blockSent (l : LoopNo) (s : State) : s.keepsWell (s.blockSent l) := by
  have note : ∀ (p : Port) b (t : State), t.calm (t.noteSent p b) := by
    intro p b t
    unfold State.noteSent
    split
    case h_2 => exact .refl t
    case h_1 =>
      unfold State.startAnswerTimer
      split
      case h_1 => exact .refl t
      case h_2 =>
        split
        case h_1 => exact .refl t
        case h_2 =>
          split
          case h_1 => exact .refl t
          case h_2 =>
            split
            case isTrue => exact .putEntry _ _ t
            case isFalse => exact .refl t
  unfold State.blockSent
  split
  case h_2 => exact refl s
  case h_1 t ht =>
    split
    case isFalse => exact refl s
    case isTrue =>
      have window : s.keepsWell (s.putLoop l { s.loop l with turn := some { t with phase := .window } }) := by
        refine State.mild.keepsWell (.putLoop fun h => h) fun h => h.putLoop_polling (h.disabled l) ?_ rfl rfl
        rintro u ⟨⟩
        exact h.turn l t ht
      exact window.trans (note _ _ _).keepsWell

theorem mild_endTurn (l : LoopNo) (s : State) : s.mild (s.endTurn l) := .putLoop fun h => h

/-- The outcome of a turn at the port of its address, which an enabled loop polls. -/
theorem outcome {s : State} {l : LoopNo} {t : Turn} (ht : s.openWindow l = some t) {f : State → State}
    (mild : ∀ u : State, u.mild (f u))
    (presence : ∀ u : State, u.presenceWell → (u.loop l).enable = true → (u.loop l).pollList.get t.station = true →
      (f u).presenceWell) : s.keepsWell (f (s.endTurn l)) := by
  refine ((mild_endTurn l s).trans (mild _)).keepsWell fun h => ?_
  obtain ⟨enable, listed⟩ := h.of_openWindow ht
  exact presence _ (h.endTurn l) (by simpa [State.endTurn] using enable) (by simpa [State.endTurn] using listed)

/-- A miss, with the absence it may bring (R51). -/
theorem miss {s : State} {l : LoopNo} {t : Turn} (ht : s.openWindow l = some t) :
    s.keepsWell ((s.endTurn l).miss (portOf l t.station)) := by
  refine outcome ht (fun u => ?_) fun u h enable listed => ?_
  · unfold State.miss
    dsimp only
    split
    · split
      · exact (State.mild.putPort _ _ u).trans (State.mild.goAbsent _ _)
      · exact .putPort _ _ u
    · exact .putPort _ _ u
  · unfold State.miss
    dsimp only
    split
    · split
      · exact (State.fades.goAbsent _ _).presenceWell (h.putPort enable listed _)
      · exact h.putPort enable listed _
    · exact h.putPort enable listed _

theorem windowTimeout (l : LoopNo) (s : State) : s.keepsWell (s.windowTimeout l) := by
  unfold State.windowTimeout
  split
  case h_1 ht => exact miss ht
  case h_2 => exact refl s

theorem stationReply (l : LoopNo) (chars : List LoopChar) (s : State) : s.keepsWell (s.stationReply l chars) := by
  have hand : ∀ (u : State) p b, u.calm (u.handOn p b) := by
    intro u p b
    unfold State.handOn
    split
    case h_2 => exact .refl u
    case h_1 =>
      split
      case h_1 => exact .of_eq rfl rfl rfl rfl rfl rfl rfl rfl rfl
      case h_2 => exact .refl u
  unfold State.stationReply
  split
  case h_2 => exact refl s
  case h_1 t ht =>
    dsimp only
    split
    case h_2 => exact miss ht
    case h_1 =>
      refine trans (outcome ht (f := State.present (portOf l t.station)) (fun u => ?_) fun u h enable listed => ?_)
        (hand _ _ _).keepsWell
      · unfold State.present
        dsimp only
        split
        · exact .putPort _ _ u
        · exact (State.mild.putPort _ _ u).trans (State.calm.raise _ _).mild
      · unfold State.present
        dsimp only
        split
        · exact h.putPort enable listed _
        · exact (State.calm.raise _ _).steady.fades.presenceWell (h.putPort enable listed _)

theorem loopBreak (l : LoopNo) (s : State) : s.keepsWell (s.loopBreak l) := by
  have abandon : ∀ t : State, t.calm (t.abandonLoop l) := by
    intro t
    have queue : t.calm (t.putLoop l { t.loop l with
        queue := (t.loop l).queue.filter (fun q => !t.carriesPending l q) }) := by
      refine .putLoop (fun h => h.filter_device fun q hq => ?_) ⟨rfl, rfl, rfl, rfl⟩
      unfold State.carriesPending
      split
      case h_1 hb => simp [hb, OutBlock.origin] at hq
      case h_2 => rfl
    exact queue.trans (.of_eq rfl rfl rfl rfl rfl rfl rfl rfl rfl)
  unfold State.loopBreak
  dsimp only
  split
  case h_2 => exact refl s
  case h_3 => exact refl s
  case h_1 state =>
    have broken : s.keepsWell (s.putLoop l { s.loop l with state := .fault, position := none, turn := none }) := by
      refine State.mild.keepsWell (.putLoop fun h => h) fun h => h.putLoop_polling ?_ nofun rfl rfl
      simpa [state] using h.disabled l
    exact broken.trans ((State.calm.raise _ _).trans (abandon _)).keepsWell

theorem loopRestore (l : LoopNo) (s : State) : s.keepsWell (s.loopRestore l) := by
  unfold State.loopRestore
  dsimp only
  split
  case h_2 => exact refl s
  case h_3 => exact refl s
  case h_1 state =>
    have restored : s.keepsWell (s.putLoop l { s.loop l with state := .idleCycle }) := by
      refine State.mild.keepsWell (.putLoop fun h => h) fun h => h.putLoop_polling ?_ (fun t ht => ?_) rfl rfl
      · simpa [state] using h.disabled l
      · have := (h.turn l t ht).1
        simp [state] at this
    exact restored.trans (State.calm.raise _ _).keepsWell

/-- A block taken by its unit (R49). -/
theorem takeBlock (p : Port) (b : StationBlock) {act : State → State} (ha : ∀ t : State, t.calm (act t)) (s : State) :
    s.keepsWell (s.takeBlock p b act) := by
  have present : ∀ t : State, t.calm (t.atPresent p act) := by
    intro t
    unfold State.atPresent
    split
    case h_1 => exact ha t
    case h_2 => exact .refl t
  unfold State.takeBlock
  split
  case h_1 => exact (present s).keepsWell
  case h_2 =>
    split
    case isFalse => exact refl s
    case isTrue =>
      have taken : ∀ rest, s.calm { s with handed := rest } := fun _ => .of_eq rfl rfl rfl rfl rfl rfl rfl rfl rfl
      exact ((taken _).trans (present _)).keepsWell

/-! ### Restarts (R39, R156, R199, R200) -/

/-- Every object at its cold value is well, the holding left with at most one frame and nothing handled (R200). -/
theorem cold {s t : State} (hl : t.loops = Table.replicate 8 LoopRec.cold) (hp : t.ports = Table.replicate 256 PortRec.cold)
    (hr : t.ring = Table.replicate 128 RingSlot.empty) (hw : t.waitQueue = []) (ht : t.timeBase = TimeBase.cold)
    (hc : t.challengeCounter = 0) (hx : t.contexts = Table.replicate 96 Context.free) (hh : t.holding.length ≤ 1)
    (hg : t.handling = none) : s.keepsWell t := by
  have loop : ∀ l, t.loop l = LoopRec.cold := fun l => by simp [State.loop, hl]
  have port : ∀ p, t.port p = PortRec.cold := fun p => by simp [State.port, hp]
  refine ⟨fun _ l => ?_, fun _ i _ => ?_, fun _ => ?_, fun _ => ?_, fun _ => ⟨hh.trans (by decide), by simp [hg]⟩,
    fun _ => ?_, fun _ x => ?_, fun _ => ⟨fun l => ?_, fun l u hu => ?_, fun l st _ => ?_⟩⟩
  · exact loop l ▸ .empty rfl rfl
  · rw [hr, Table.get_replicate]; rfl
  · simp [State.waitWell, hw]
  · simp [State.timeWell, ht, TimeBase.cold]
  · simp [State.counterWell, hc]
  · show (t.context x).sidesWell
    simpa [State.context, hx] using Context.sidesWell.free
  · simp [loop, LoopRec.cold]
  · simp [loop, LoopRec.cold] at hu
  · simp [port, PortRec.cold]

theorem coldStart (cause : RestartCause) (s : State) : s.keepsWell (s.coldStart cause) :=
  cold rfl rfl rfl rfl rfl rfl rfl (Nat.zero_le _) rfl

/-- A warm restart keeps enables, lists and presences, empties the wait queue and the contexts, and leaves each loop the
notices of its released ports (R19, R20, R39, R140, R156). -/
theorem warmBlocks (s : State) : s.keepsWell s.warmBlocks := by
  refine ⟨fun _ l => ?_, id, fun _ => Nat.zero_le _, id, id, id, fun _ x => ?_, fun h => ⟨fun l => ?_, fun l u hu => ?_,
    fun l st hl => ?_⟩⟩
  · rw [State.loop_warmBlocks]
    exact .notices ((List.nodup_finRange 32).filter _) rfl rfl
  · show (s.warmBlocks.context x).sidesWell
    simpa [State.context, State.warmBlocks] using Context.sidesWell.free
  · rw [State.loop_warmBlocks]
    cases he : (s.loop l).enable <;> simp [State.warmLoop, he]
  · rw [State.loop_warmBlocks] at hu
    cases hu
  · rw [State.loop_warmBlocks] at hl
    rw [State.port_warmBlocks]
    exact ⟨(h.unlisted l st hl).1, rfl⟩

end State.keepsWell

theorem State.serves.restartCold (s : State) : s.serves (restartColdAct s).1 where
  well := .cold rfl rfl rfl rfl rfl rfl rfl (List.length_take_le _ _) rfl
  frame h := by
    show s.holding.take 1 ≠ []
    simpa using h

theorem State.serves.restartWarm (s : State) : s.serves (restartWarmAct s).1 where
  well := (State.keepsWell.warmBlocks s).trans (.of_holding rfl rfl rfl rfl rfl rfl rfl fun h =>
    ⟨(List.length_take_le' _ _).trans h.1, fun hg => by
      have held : s.holding ≠ [] := h.2 hg
      show s.holding.take 1 ≠ []
      simpa using held⟩)
  frame h := by
    show s.holding.take 1 ≠ []
    simpa using h

theorem State.serves.setLoopAct (b : LoopBody) (s : State) : s.serves (setLoopAct b s).1 := by
  unfold Machine.setLoopAct
  split
  case h_1 => exact (State.mild.setLoop _ _ _ s).serves fun h => h.setLoop _ _ _
  case h_2 => exact (State.calm.refl s).serves

/-- Every command keeps each of these invariants: a request because its meaning does, a calm event because it is calm, and
an event of the link, of a loop or a restart by its own rule. -/
theorem exec_keepsWell (i : Instr) (s : State) : ∃ t, exec i s = .next t ∧ s.keepsWell t := by
  cases i with
  | powerUp => exact ⟨_, rfl, .coldStart _ s⟩
  | resetLine => exact ⟨_, rfl, .coldStart _ s⟩
  | controlFrameReceived octets => exact ⟨_, rfl, .foldl State.keepsWell.receiveOctet octets s⟩
  | linkGap => exact ⟨_, rfl, .lineError _ s⟩
  | unknownRequestKind kind tag body =>
    refine ⟨_, rfl, ?_⟩
    split
    case isTrue => exact .serve _ fun t => (State.calm.refl t).serves
    case isFalse => exact .refl s
  | replyReleased =>
    refine ⟨_, rfl, ?_⟩
    split
    case h_2 => exact .refl s
    case h_1 =>
      split
      case isTrue => exact .release _ s
      case isFalse => exact .refl s
  | transmitterFree => exact ⟨_, rfl, .of_holding rfl rfl rfl rfl rfl rfl rfl id⟩
  | enterExtension tag body => exact ⟨_, rfl, .serve _ fun t => (State.calm.enterAct body t).serves⟩
  | eraseExtension tag index =>
    exact ⟨_, rfl, .serve _ fun t => (State.calm.onEntry index fun ix e => .eraseEntry ix e t).serves⟩
  | unlockExtension tag index =>
    exact ⟨_, rfl, .serve _ fun t => (State.calm.onEntry index fun ix e => .unlockEntry ix e t).serves⟩
  | readExtension tag index =>
    exact ⟨_, rfl, .serve _ fun t =>
      (State.calm.onEntry index fun ix e => .of_eq rfl rfl rfl rfl rfl rfl rfl rfl rfl).serves⟩
  | setClass tag body => exact ⟨_, rfl, .serve _ fun t => (State.calm.setClassAct body t).serves⟩
  | readClass tag cls => exact ⟨_, rfl, .serve _ fun t => (State.calm.readClassAct cls t).serves⟩
  | readPort tag port => exact ⟨_, rfl, .serve _ fun t => (State.calm.refl t).serves⟩
  | setScreen tag body => exact ⟨_, rfl, .serve _ fun t => (State.calm.setScreenAct body t).serves⟩
  | readScreen tag screen => exact ⟨_, rfl, .serve _ fun t => (State.calm.readScreenAct screen t).serves⟩
  | setLoop tag body => exact ⟨_, rfl, .serve _ fun t => .setLoopAct body t⟩
  | sendToStation tag port body => exact ⟨_, rfl, .serve _ fun t => (State.calm.sendToStationAct port body t).serves⟩
  | setInterceptSet tag first last =>
    exact ⟨_, rfl, .serve _ fun t => (State.calm.setInterceptAct true first last t).serves⟩
  | setInterceptClear tag first last =>
    exact ⟨_, rfl, .serve _ fun t => (State.calm.setInterceptAct false first last t).serves⟩
  | openCall tag index verdict => exact ⟨_, rfl, .serve _ fun t => (State.calm.openCallAct index verdict t).serves⟩
  | connectCall tag body => exact ⟨_, rfl, .serve _ fun t => (State.calm.connectCallAct body t).serves⟩
  | holdCall tag call => exact ⟨_, rfl, .serve _ fun t => (State.calm.onCall call fun c => .holdCallAct c t).serves⟩
  | retrieveCall tag call =>
    exact ⟨_, rfl, .serve _ fun t => (State.calm.onCall call fun c => .retrieveCallAct c t).serves⟩
  | refuseCall tag call => exact ⟨_, rfl, .serve _ fun t => (State.calm.onCall call fun c => .refuseCallAct c t).serves⟩
  | clearCall tag call => exact ⟨_, rfl, .serve _ fun t => (State.calm.onCall call fun c => .endCall c none t).serves⟩
  | readCall tag call => exact ⟨_, rfl, .serve _ fun t => (State.calm.onCall call fun _ => .refl t).serves⟩
  | depositKeys tag body => exact ⟨_, rfl, .serve _ fun t => (State.calm.depositKeysAct body t).serves⟩
  | startDraw tag => exact ⟨_, rfl, .serve _ fun t => (State.calm.startDrawAct t).serves⟩
  | stopDraw tag => exact ⟨_, rfl, .serve _ fun t => State.calm.serves (.of_eq rfl rfl rfl rfl rfl rfl rfl rfl rfl)⟩
  | resumeDraw tag => exact ⟨_, rfl, .serve _ fun t => (State.calm.resumeDrawAct t).serves⟩
  | holdKey tag slot key => exact ⟨_, rfl, .serve _ fun t => (State.calm.holdKeyAct slot key t).serves⟩
  | dropKey tag slot => exact ⟨_, rfl, .serve _ fun t => (State.calm.dropKeyAct slot t).serves⟩
  | readKeys tag => exact ⟨_, rfl, .serve _ fun t => (State.calm.refl t).serves⟩
  | readContext tag context => exact ⟨_, rfl, .serve _ fun t => (State.calm.readContextAct context t).serves⟩
  | setDevice tag body => exact ⟨_, rfl, .serve _ fun t => (State.calm.setDeviceAct body t).serves⟩
  | readDevice tag => exact ⟨_, rfl, .serve _ fun t => (State.calm.refl t).serves⟩
  | restartCold tag => exact ⟨_, rfl, .serve _ .restartCold⟩
  | restartWarm tag => exact ⟨_, rfl, .serve _ .restartWarm⟩
  | loopTurnStart loop => exact ⟨_, rfl, .loopTurnStart loop s⟩
  | blockSent loop => exact ⟨_, rfl, .blockSent loop s⟩
  | replyWindowTimeout loop => exact ⟨_, rfl, .windowTimeout loop s⟩
  | stationReply loop chars =>
    refine ⟨_, rfl, ?_⟩
    split
    case isTrue => exact .refl s
    case isFalse => exact .stationReply loop chars s
  | loopBreak loop => exact ⟨_, rfl, .loopBreak loop s⟩
  | loopRestore loop => exact ⟨_, rfl, .loopRestore loop s⟩
  | feature port body => exact ⟨_, rfl, .takeBlock port _ (State.calm.raise _) s⟩
  | register port number => exact ⟨_, rfl, .takeBlock port _ (State.calm.registerBlock port number) s⟩
  | answer port response => exact ⟨_, rfl, .takeBlock port _ (State.calm.answerBlock port response) s⟩
  | checkIn port => exact ⟨_, rfl, .takeBlock port _ (State.calm.checkInBlock port) s⟩
  | answerTimeExpiry index => exact ⟨_, rfl, (State.calm.answerExpiry index s).keepsWell⟩
  | refreshExpiry index => exact ⟨_, rfl, (State.calm.refreshEnd index s).keepsWell⟩
  | lockExpiry index => exact ⟨_, rfl, (State.calm.lockEnd index s).keepsWell⟩
  | offHook port => exact ⟨_, rfl, .takeBlock port _ (State.calm.offHookBlock port) s⟩
  | onHook port => exact ⟨_, rfl, .takeBlock port _ (State.calm.onHookBlock port) s⟩
  | digits port endFlag codes => exact ⟨_, rfl, .takeBlock port _ (State.calm.digitsBlock port endFlag codes) s⟩
  | interdigitExpiry port => exact ⟨_, rfl, (State.calm.interdigitEnd port s).keepsWell⟩
  | keyWaitExpiry context =>
    refine ⟨_, rfl, ?_⟩
    split
    case isTrue => exact ((State.calm.leaveQueue context s).trans (.applyPolicy context _)).keepsWell
    case isFalse => exact .refl s
  | framePulse sinceFrame sincePulse inputs =>
    refine ⟨_, rfl, ?_⟩
    split
    case h_1 => exact (State.calm.acceptPulse sinceFrame inputs s).keepsWell
    case h_2 hs => exact (State.calm.restorePulse sincePulse inputs hs).keepsWell
  | pulseMissing inputs =>
    refine ⟨_, rfl, ?_⟩
    split
    case h_1 hs => exact (State.calm.missPulse inputs hs).keepsWell
    case h_2 => exact .refl s
  | holdoverFrame =>
    refine ⟨_, rfl, ?_⟩
    split
    case h_1 => exact (State.calm.unservedFrame s).keepsWell
    case h_2 => exact .refl s
  | restoreRunTimeout =>
    refine ⟨_, rfl, ?_⟩
    split
    case h_1 => exact (State.calm.restoreRunTimeout s).keepsWell
    case h_2 => exact .refl s
  | linkFramingError => exact ⟨_, rfl, .lineError _ s⟩
  | linkLengthError octet =>
    refine ⟨_, rfl, ?_⟩
    split
    case isTrue => exact .dropFrame _ s
    case isFalse => exact .refl s

/-- Every step keeps each of these invariants. -/
theorem step_keepsWell {s t : State} (ht : step s = .next t) : s.keepsWell t := by
  unfold step at ht
  split at ht
  case h_1 => cases ht; exact .refl s
  case h_2 c rest _ =>
    obtain ⟨u, hu, hw⟩ := exec_keepsWell c { s with pending := rest }
    cases hu.symm.trans ht
    have taken : s.keepsWell { s with pending := rest } := .of_holding rfl rfl rfl rfl rfl rfl rfl id
    exact taken.trans hw

/-- Settles O9: one device block per address, and the Relay Count that of the relay blocks, in every queue. -/
theorem outboundQueuesStayWell : Obligations.OutboundQueuesStayWell := fun _ _ h ht => (step_keepsWell ht).queues h

/-- Settles O11: each invariant on its own. -/
theorem keyStoreAndCountsStayWell : Obligations.KeyStoreAndCountsStayWell :=
  ⟨⟨fun _ _ h ht => (step_keepsWell ht).ring h, fun _ _ h ht => (step_keepsWell ht).wait h⟩,
    ⟨fun _ _ h ht => (step_keepsWell ht).time h, fun _ _ h ht => (step_keepsWell ht).holding h,
      fun _ _ h ht => (step_keepsWell ht).counter h⟩,
    ⟨fun _ _ h ht => (step_keepsWell ht).sides h, fun _ _ h ht => (step_keepsWell ht).presence h⟩⟩

end Sys2Proof.Machine

/-!
PROOFS. Device blocks offered and withdrawn (O18), SEND TO STATION (O29), the turns (O30), breaks and restores (O33).
-/

namespace Sys2Proof.Machine

/-! ## The challenge pending at a port (R2, R54) -/

/-- A challenged entry goes back to UNBOUND, or from MOVING to ADMITTED (R52, R67, R78). -/
theorem Entry.revert_eq {e : Entry} (h : e.state = .challenged ∨ e.state = .moving) :
    e.revert = { e with challenge := none, state := if e.state = .challenged then .unbound else .admitted } := by
  rcases h with h | h <;> simp [Entry.revert, h]

/-- The challenge of an entry is the one found at its port (R2). -/
theorem State.wired.challengeAt_eq {s : State} (h : s.wired) {ix : ExtIx} {e : Entry} {c : Challenge}
    (he : s.entry? ix = some e) (hc : e.challenge = some c) : s.challengeAt c.port = some ix := by
  cases hx : s.challengeAt c.port with
  | none => exact absurd rfl (State.challengeAt_none hx ix e c he hc)
  | some jx =>
    obtain ⟨d, k, hd, hk, hp⟩ := State.challengeAt_found hx
    rw [h.oneChallenge ix jx e d c k he hd hc hk hp.symm]

/-- The nonce pending at a port is that of the challenge there. -/
theorem State.wired.pendingNonce_eq_some_iff {s : State} (h : s.wired) {p : Port} {n : Long} :
    s.pendingNonce p = some n ↔
      ∃ ix e c, s.entry? ix = some e ∧ e.challenge = some c ∧ c.port = p ∧ c.nonce = n := by
  constructor
  · intro hn
    unfold State.pendingNonce at hn
    split at hn
    case h_2 => cases hn
    case h_1 ix hx =>
      obtain ⟨e, c, he, hc, hp⟩ := State.challengeAt_found hx
      exact ⟨ix, e, c, he, hc, hp, by simpa [he, hc] using hn⟩
  · rintro ⟨ix, e, c, he, hc, rfl, rfl⟩
    simp [State.pendingNonce, h.challengeAt_eq he hc, he, hc]

/-- The record of a loop's queue that carries the challenge pending at its port (R54, R60). -/
theorem State.wired.carriesPending_iff {s : State} (h : s.wired) {l : LoopNo} {q : QueueRec} :
    s.carriesPending l q = true ↔ ∃ ix e c, s.entry? ix = some e ∧ e.challenge = some c ∧
      c.port = portOf l q.station ∧ q.block = .challenge c.nonce := by
  unfold State.carriesPending
  split
  case h_1 n hb =>
    rw [decide_eq_true_eq, h.pendingNonce_eq_some_iff]
    constructor
    · rintro ⟨ix, e, c, he, hc, hp, rfl⟩
      exact ⟨ix, e, c, he, hc, hp, hb⟩
    · rintro ⟨ix, e, c, he, hc, hp, hn⟩
      exact ⟨ix, e, c, he, hc, hp, (OutBlock.challenge.inj (hb.symm.trans hn)).symm⟩
  case h_2 hb =>
    refine ⟨nofun, ?_⟩
    rintro ⟨_, _, c, _, _, _, hn⟩
    exact absurd hn (hb c.nonce)

/-! ## Device blocks (R58 to R60) -/

/-- The records that a device block for a station leaves in the queue: those of other stations, and relay blocks. -/
theorem QueueRec.not_deviceFor (st : Station) (q : QueueRec) :
    (!q.deviceFor st) = (decide (q.station ≠ st) || decide (q.block.origin = .relay)) := by
  cases h : q.block.origin <;> simp [QueueRec.deviceFor, h]

/-- A block offered for a PRESENT port joins the tail, and the older device block for the address is lost (R58). -/
theorem State.offer_present {s : State} {p : Port} (h : (s.port p).presence = .present) (b : OutBlock) :
    s.offer p b = (s.putLoop (loopOf p) { s.loop (loopOf p) with
      queue := (s.loop (loopOf p)).queue.filter
        (fun q => decide (q.station ≠ stationOf p) || decide (q.block.origin = .relay)) ++ [⟨stationOf p, b⟩] }).loseBlock p
          ((s.loop (loopOf p)).queue.find? (·.deviceFor (stationOf p))) := by
  simp only [State.offer, h, QueueRec.not_deviceFor]

/-- The only record of a list that passes a test is the one found. -/
theorem find?_of_countP_le_one {α : Type} {p : α → Bool} {as : List α} {a : α} (h : as.countP p ≤ 1) (ha : a ∈ as)
    (hp : p a = true) : as.find? p = some a := by
  rw [List.countP_eq_length_filter] at h
  rw [← List.head?_filter]
  have mem : a ∈ as.filter p := List.mem_filter.mpr ⟨ha, hp⟩
  match as.filter p, h, mem with
  | [b], _, hb => rw [List.mem_singleton.mp hb]; rfl

/-- A CHALLENGE taken out by replacement abandons the challenge it carried (R59). -/
theorem State.loseBlock_challenge {s : State} {p : Port} {st : Station} {ix : ExtIx} {e : Entry} {c : Challenge}
    (hx : s.challengeAt p = some ix) (he : s.entry? ix = some e) (hc : e.challenge = some c)
    (hs : e.state = .challenged ∨ e.state = .moving) :
    s.loseBlock p (some ⟨st, .challenge c.nonce⟩) = s.putEntry ix (some { e with
      challenge := none, state := if e.state = .challenged then .unbound else .admitted }) := by
  simp [State.loseBlock, State.loseChallenge, hx, State.modEntry_eq, he, hc, Entry.revert_eq hs]

/-- Settles O18: R58 by presence, R59 by the block replaced, and R60. -/
theorem deviceBlocksReplaceAndAreWithdrawn : Obligations.DeviceBlocksReplaceAndAreWithdrawn := by
  refine ⟨⟨fun s p b => State.offer_absent b, ?replaced, ?abandoned⟩, ?withdrawn⟩
  case replaced =>
    intro s p b present unasked
    rw [State.offer_present present]
    unfold State.loseBlock
    split
    case h_2 => rfl
    case h_1 st n found =>
      have passes := List.find?_some found
      simp only [QueueRec.deviceFor, Bool.and_eq_true, decide_eq_true_eq] at passes
      exact absurd (by rw [passes.1]) (unasked _ (List.mem_of_find?_eq_some found) n)
  case abandoned =>
    intro s p b ix e c present well mem hx he hc hs
    have found : (s.loop (loopOf p)).queue.find? (·.deviceFor (stationOf p)) = some ⟨stationOf p, .challenge c.nonce⟩ :=
      find?_of_countP_le_one (well.1 (stationOf p)) mem (by simp [QueueRec.deviceFor, OutBlock.origin])
    rw [State.offer_present present, found]
    exact State.loseBlock_challenge (s := s.putLoop _ _) hx he hc hs
  case withdrawn =>
    intro s p nonce
    have same : ∀ q : QueueRec, (!q.challengeFor (stationOf p) nonce) = decide (q ≠ ⟨stationOf p, .challenge nonce⟩) := by
      rintro ⟨st, b⟩
      simp [QueueRec.challengeFor]
    simp only [State.withdraw, same]

/-! ## SEND TO STATION (R61) -/

/-- Settles O29: the checks of R61 in order, then the relay record. -/
theorem sendToStationQueuesARelay : Obligations.SendToStationQueuesARelay := by
  intro tag port body p s ht hp
  obtain rfl : octetPort port = p := Fin.ext hp.symm
  have refused : ∀ code, sendToStationAct port body (s.admitFrame ⟨18, tag, port :: body⟩) =
      (s.admitFrame ⟨18, tag, port :: body⟩).refuse code →
      exec (.sendToStation tag port body) s = .next (s.replied ⟨18, tag, port :: body⟩ code []) :=
    fun code ha => congrArg Host.Outcome.next (State.serve_refused rfl ht ha)
  refine ⟨fun long => refused _ ?_, fun short closed => refused _ ?_, fun short enable listed present =>
    ⟨fun full => refused _ ?_, fun room => ?_⟩⟩
  · simp [sendToStationAct, long]
  · simp only [sendToStationAct, Nat.not_lt.mpr short, if_false, State.loop_admitFrame, State.port_admitFrame]
    rcases closed with h | h | h <;> simp [h]
  · simp [sendToStationAct, Nat.not_lt.mpr short, enable, listed, present, full]
  · refine congrArg Host.Outcome.next (State.serve_replied rfl ht ?_)
    simp [sendToStationAct, Nat.not_lt.mpr short, enable, listed, present, Nat.not_le.mpr room, LoopRec.enqueueRelay,
      State.done]

/-! ## Turns (R45 to R47, R74) -/

/-- The first of the ascending positions that pass a test, none before it passing. -/
theorem find?_finRange {n : Nat} {p : Fin n → Bool} {i : Fin n} (hi : p i = true) (before : ∀ k, k < i → p k = false) :
    (List.finRange n).find? p = some i := by
  rw [List.find?_eq_some_iff_getElem]
  refine ⟨hi, i.val, by simp, by simp, fun j hj => ?_⟩
  rw [List.getElem_finRange]
  simpa using before ⟨j, hj.trans i.isLt⟩ hj

/-- The next turn goes where R45 says. -/
theorem LoopRec.turnGoesTo.nextStation {r : LoopRec} {st : Station} (h : r.turnGoesTo st) : r.nextStation = some st := by
  obtain ⟨listed, h⟩ := h
  unfold LoopRec.nextStation
  simp only [List.find?_filter, List.head?_filter]
  have lowest : (∀ k, k < st → r.pollList.get k = false) → (List.finRange 32).find? r.pollList.get = some st :=
    find?_finRange listed
  rcases h with ⟨p, hp, above, between⟩ | ⟨last, first⟩
  · simp only [hp]
    rw [find?_finRange (i := st) (by simp [listed, above])]
    intro k hk
    by_cases hpk : p < k
    · simp [between k hpk hk]
    · simp [hpk]
  · cases hp : r.position with
    | none => exact lowest first
    | some p =>
      have beyond : (List.finRange 32).find? (fun k => decide (r.pollList.get k = true ∧ decide (p < k) = true)) = none := by
        rw [List.find?_eq_none]
        intro k _
        by_cases hpk : p < k
        · simp [last p hp k hpk]
        · simp [hpk]
      simp only [beyond]
      exact lowest first

/-- A turn with nothing queued sends the bare address (R46). -/
theorem LoopRec.beginTurn_poll {r : LoopRec} {st : Station} (h : ∀ q ∈ r.queue, q.station ≠ st) :
    r.beginTurn st = { r with position := some st, turn := some ⟨st, none, [addressChar st], .sending⟩ } := by
  have empty : r.oldestFor st = none := List.find?_eq_none.mpr fun q hq => by simpa using h q hq
  simp [LoopRec.beginTurn, empty]

/-- A turn takes the station's oldest record out of the queue and sends it (R46). -/
theorem LoopRec.beginTurn_block {r : LoopRec} {st : Station} {b : OutBlock} {pre post : List QueueRec}
    (hq : r.queue = pre ++ ⟨st, b⟩ :: post) (hp : ∀ q ∈ pre, q.station ≠ st) :
    r.beginTurn st = { r with
      position := some st
      queue := pre ++ post
      relayCount := if b.origin = .relay then r.relayCount - 1 else r.relayCount
      turn := some ⟨st, some b, blockChars st b, .sending⟩ } := by
  have oldest : r.oldestFor st = some ⟨st, b⟩ := by
    rw [LoopRec.oldestFor, hq, List.find?_append, List.find?_eq_none.mpr fun q hm => by simpa using hp q hm]
    simp
  have rest : r.queue.erase ⟨st, b⟩ = pre ++ post := by
    rw [hq, List.erase_append_right _ fun hm => hp _ hm rfl, List.erase_cons_head]
  have count : r.relayCount - relays [⟨st, b⟩] = if b.origin = .relay then r.relayCount - 1 else r.relayCount := by
    split <;> simp [relays, *]
  simp only [LoopRec.beginTurn, oldest, rest, count]

/-- The characters of a block: address, kind, length, body and check (R44). -/
theorem blockChars_eq {b : OutBlock} {kind : Byte} {body : List Byte} (st : Station) (h : b.kindBody = (kind, body)) :
    blockChars st b = addressChar st ::
      (kind :: BitVec.ofNat 8 body.length :: (body ++ [blockCheck kind body])).map dataChar := by
  simp only [blockChars, h]

/-- Settles O30: the turn begins at the address of R45, and its last character opens the window. -/
theorem turnSendsABlockAndStartsItsTimer : Obligations.TurnSendsABlockAndStartsItsTimer := by
  refine ⟨fun l st s state turn goes => ?begin, fun l st block chars s turn => ?sent⟩
  case begin =>
    have start : exec (.loopTurnStart l) s = .next (s.putLoop l ((s.loop l).beginTurn st)) := by
      show Host.Outcome.next (s.putLoop l (s.loop l).startTurn) = _
      simp [LoopRec.startTurn, state, turn, goes.nextStation]
    refine ⟨fun empty => ?_, fun pre post b kind body hq hp hk => ?_⟩
    · rw [start, LoopRec.beginTurn_poll empty]
      rfl
    · rw [start, LoopRec.beginTurn_block hq hp, blockChars_eq st hk]
      rfl
  case sent =>
    have window : s.blockSent l = (s.putLoop l { s.loop l with turn := some ⟨st, block, chars, .window⟩ }).noteSent
        (portOf l st) block := by
      simp [State.blockSent, turn]
    refine ⟨fun quiet => ?_, fun nonce ix e port hb hx he hc => ?_⟩
    · refine congrArg Host.Outcome.next (window.trans ?_)
      unfold State.noteSent
      split
      case h_2 => rfl
      case h_1 nonce =>
        have free : s.challengeAt (portOf l st) = none := quiet.resolve_left fun h => h nonce rfl
        have free' : ∀ r, (s.putLoop l r).challengeAt (portOf l st) = none := fun _ => free
        simp only [State.startAnswerTimer, free']
    · subst hb
      have hx' : ∀ r, (s.putLoop l r).challengeAt (portOf l st) = some ix := fun _ => hx
      refine congrArg Host.Outcome.next (window.trans ?_)
      simp only [State.noteSent, State.startAnswerTimer, hx', State.entry_putLoop, he, hc]
      rfl

/-! ## Breaks and restores (R54, R55) -/

/-- Settles O33: the break as R54 has it, every challenge of the loop abandoned, and the restore of R55. -/
theorem loopBreakAndRestore : Obligations.LoopBreakAndRestore := by
  refine ⟨fun l s wired state => ?broken, fun l s state => ?restored⟩
  case restored =>
    refine congrArg Host.Outcome.next ?_
    simp [State.loopRestore, state, Item.loopRestored]
  case broken =>
    have break_eq : s.loopBreak l = ((s.putLoop l { s.loop l with state := .fault, position := none, turn := none }).raise
        (.loopFault l)).abandonLoop l := by simp [State.loopBreak, state]
    have loop : (s.loopBreak l).loop l = { s.loop l with
        state := .fault, position := none, turn := none
        queue := (s.loop l).queue.filter (fun q => !s.carriesPending l q) } := by
      rw [break_eq]
      refine (State.loop_putLoop _ _ _ _).trans ((if_pos rfl).trans ?_)
      rw [State.loop_raise, State.loop_putLoop, if_pos rfl]
      rfl
    have entry : ∀ ix, (s.loopBreak l).entry? ix =
        (s.entry? ix).map (fun e => if e.challengedOn l then e.revert else e) := by
      intro ix
      rw [break_eq]
      exact Table.get_map _ _ _
    refine ⟨_, rfl, ⟨?_, ?_, ?_, ?_, ?_⟩, fun q => ?_, ?_, ?_, fun ix e c he hc hl => ?_, fun ix e he hl => ?_⟩
    · rw [loop]
    · rw [loop]
    · rw [loop]
    · rw [loop]
    · rw [loop]
    · rw [loop, List.mem_filter, Bool.not_eq_true', ← Bool.not_eq_true, wired.carriesPending_iff]
    · rw [break_eq]; rfl
    · rw [break_eq]; rfl
    · have on : e.challengedOn l = true := by simp [Entry.challengedOn, hc, hl]
      have hs : e.state = .challenged ∨ e.state = .moving :=
        (wired.fields ix e he).challenge.mp (by simp [hc])
      rw [entry, he, Option.map_some, if_pos on, Entry.revert_eq hs]
    · have off : e.challengedOn l = false := by
        cases hc : e.challenge with
        | none => simp [Entry.challengedOn, hc]
        | some c => simp [Entry.challengedOn, hc, hl c hc]
      rw [entry, he, Option.map_some, off]
      rfl

end Sys2Proof.Machine

/-!
PROOFS. The outcomes of a turn: misses and absence (O31), VALID replies and their blocks (O32).
-/

namespace Sys2Proof.Machine

/-! ## The judgement of a reply (R44, R47, R48) -/

/-- The check as one number (R44). -/
theorem blockCheck_eq (kind : Byte) (body : List Byte) :
    blockCheck kind body = BitVec.ofNat 8 (255 - (kind.toNat + body.length + octetSum body) % 256) := by
  unfold blockCheck
  generalize kind.toNat + body.length + octetSum body = n
  apply BitVec.eq_of_toNat_eq
  have full : (255 : Byte).toNat = 255 := rfl
  simp only [BitVec.toNat_sub, BitVec.toNat_ofNat, full]
  omega

/-- A reply that carries a block, its check as the part forms it. -/
theorem validReply_block {st : Station} {chars : List LoopChar} {kind : Byte} {body : List Byte} :
    validReply st chars (some (kind, body)) ↔ body.length ≤ 32 ∧ chars = addressChar st ::
      (kind :: BitVec.ofNat 8 body.length :: (body ++ [blockCheck kind body])).map dataChar := by
  rw [blockCheck_eq]
  rfl

/-- Data characters carry their octets, without a marker or a framing error (R43). -/
theorem eq_map_dataChar_iff {cs : List LoopChar} {os : List Byte} : cs = os.map dataChar ↔
    cs.any (fun c => c.framingError || c.marker) = false ∧ cs.map LoopChar.data = os := by
  constructor
  · rintro rfl
    simp [dataChar, Function.comp_def]
  · rintro ⟨plain, rfl⟩
    rw [List.map_map]
    refine (List.map_id cs).symm.trans (List.map_congr_left fun c hc => ?_)
    have hp := List.any_eq_false.mp plain c hc
    obtain ⟨data, marker, error⟩ := c
    simp_all [dataChar]

/-- A VALID reply begins with the turn's own address. -/
theorem judge_cons (st : Station) (rest : List LoopChar) : judge st (addressChar st :: rest) =
    if rest.any (fun c => c.framingError || c.marker) then none
    else match rest.map LoopChar.data with
      | [] => some none
      | kind :: len :: more =>
        if len.toNat ≤ 32 ∧ more.length = len.toNat + 1 ∧ more.getLast? = some (blockCheck kind more.dropLast) then
          some (some (kind, more.dropLast))
        else none
      | _ => none := by
  simp only [judge, addressChar]
  simp <;> rfl

/-- A reply that is not GARBLED begins with the turn's own address. -/
theorem judge_some_address {st : Station} {chars : List LoopChar} {block : Option (Byte × List Byte)}
    (h : judge st chars = some block) : ∃ rest, chars = addressChar st :: rest := by
  match chars, h with
  | ⟨data, marker, error⟩ :: rest, h =>
    refine ⟨rest, ?_⟩
    unfold judge at h
    dsimp only at h
    split at h
    case isTrue => cases h
    case isFalse ha => simp_all [addressChar]

/-- The reply of a whole block with its good check is judged to carry it. -/
theorem judge_of_validReply {st : Station} {chars : List LoopChar} {block : Option (Byte × List Byte)}
    (h : validReply st chars block) : judge st chars = some block := by
  match block, h with
  | none, h =>
    obtain rfl : chars = [addressChar st] := h
    rw [judge_cons]
    rfl
  | some (kind, body), h =>
    obtain ⟨short, rfl⟩ := validReply_block.mp h
    obtain ⟨plain, octets⟩ := eq_map_dataChar_iff.mp
      (rfl : (kind :: BitVec.ofNat 8 body.length :: (body ++ [blockCheck kind body])).map dataChar = _)
    have len : (BitVec.ofNat 8 body.length).toNat = body.length := Nat.mod_eq_of_lt (by omega)
    rw [judge_cons, plain, octets]
    simp [len, short]

/-- A reply is VALID with a block, or without one, exactly as R48 says. -/
theorem judge_eq_some_iff {st : Station} {chars : List LoopChar} {block : Option (Byte × List Byte)} :
    judge st chars = some block ↔ validReply st chars block := by
  refine ⟨fun h => ?_, judge_of_validReply⟩
  obtain ⟨rest, rfl⟩ := judge_some_address h
  rw [judge_cons] at h
  split at h
  case isTrue => cases h
  case isFalse plain =>
    rw [Bool.not_eq_true] at plain
    split at h
    case h_1 empty =>
      obtain rfl := Option.some.inj h
      rw [List.map_eq_nil_iff.mp empty]
      rfl
    case h_2 kind len more octets =>
      split at h
      case isFalse => cases h
      case isTrue whole =>
        obtain ⟨short, count, check⟩ := whole
        obtain rfl := Option.some.inj h
        have body : (more.dropLast).length = len.toNat := by simp [count]
        refine validReply_block.mpr ⟨body ▸ short, ?_⟩
        rw [body, BitVec.ofNat_toNat, BitVec.setWidth_eq, List.dropLast_append_getLast? _ check]
        exact congrArg _ (eq_map_dataChar_iff.mpr ⟨plain, octets⟩)
    case h_3 => cases h

/-- A GARBLED reply is one that is VALID with nothing. -/
theorem judge_eq_none {st : Station} {chars : List LoopChar} (h : ∀ block, ¬ validReply st chars block) :
    judge st chars = none :=
  Option.eq_none_iff_forall_ne_some.mpr fun block hb => h block (judge_eq_some_iff.mp hb)

/-! ## The outcome of a turn (R47 to R51) -/

/-- The window of a turn that awaits a reply. -/
theorem State.awaits.openWindow {s : State} {l : LoopNo} {st : Station} (h : s.awaits l st) :
    ∃ t, s.openWindow l = some t ∧ t.station = st := by
  obtain ⟨t, turn, station, phase⟩ := h
  exact ⟨t, by simp [State.openWindow, turn, phase], station⟩

/-- The window closes without a reply: a miss (R47, R51). -/
theorem State.awaits.timeout {s : State} {l : LoopNo} {st : Station} (h : s.awaits l st) :
    exec (.replyWindowTimeout l) s = .next ((s.turnEnded l).miss (portOf l st)) := by
  obtain ⟨t, window, rfl⟩ := h.openWindow
  show Host.Outcome.next (s.windowTimeout l) = _
  simp only [State.windowTimeout, window]
  rfl

/-- A VALID reply: its port is PRESENT, and its block is handed on (R49, R50). -/
theorem State.awaits.valid {s : State} {l : LoopNo} {st : Station} {chars : List LoopChar}
    {block : Option (Byte × List Byte)} (h : s.awaits l st) (hv : validReply st chars block) :
    exec (.stationReply l chars) s =
      .next (((s.turnEnded l).present (portOf l st)).handOn (portOf l st) block) := by
  obtain ⟨t, window, rfl⟩ := h.openWindow
  have judged := judge_eq_some_iff.mpr hv
  obtain ⟨rest, rfl⟩ := judge_some_address judged
  show Host.Outcome.next (s.stationReply l _) = _
  simp only [State.stationReply, window, judged]
  rfl

/-- A GARBLED reply: a miss (R48, R51). -/
theorem State.awaits.garbled {s : State} {l : LoopNo} {st : Station} {chars : List LoopChar} (h : s.awaits l st)
    (nonempty : chars ≠ []) (hv : ∀ block, ¬ validReply st chars block) :
    exec (.stationReply l chars) s = .next ((s.turnEnded l).miss (portOf l st)) := by
  obtain ⟨t, window, rfl⟩ := h.openWindow
  show Host.Outcome.next (if chars.isEmpty then s else s.stationReply l chars) = _
  rw [if_neg (by simpa using nonempty)]
  simp only [State.stationReply, window, judge_eq_none hv]
  rfl

/-! ## Misses and absence (R51, R52) -/

@[simp] theorem State.putLoop_putLoop (s : State) (l : LoopNo) (r q : LoopRec) :
    (s.putLoop l r).putLoop l q = s.putLoop l q := by
  simp [State.putLoop]

@[simp] theorem State.putPort_putPort (s : State) (p : Port) (r q : PortRec) :
    (s.putPort p r).putPort p q = s.putPort p q := by
  simp [State.putPort]

/-- A port made ABSENT with its report: its blocks discarded, its hook ON, its dialling ended; nothing yet of its challenge
and its extension (R51, R52). -/
def State.absented (p : Port) (s : State) : State :=
  ((s.putLoop (loopOf p) ((s.loop (loopOf p)).discard (stationOf p))).putPort p
    { s.port p with presence := .absent }.gone).raise (.stationAbsent p)

/-- The challenge pending at a port is read off the directory alone. -/
theorem State.challengeAt_congr {s t : State} (h : t.directory = s.directory) (p : Port) :
    t.challengeAt p = s.challengeAt p := by
  unfold State.challengeAt
  rw [h]

@[simp] theorem State.port_dropChallengeAt (s : State) (p q : Port) : (s.dropChallengeAt p).port q = s.port q := by
  unfold State.dropChallengeAt
  split <;> rfl

theorem State.putPort_dropChallengeAt (s : State) (p q : Port) (r : PortRec) :
    (s.dropChallengeAt p).putPort q r = (s.putPort q r).dropChallengeAt p := by
  unfold State.dropChallengeAt
  rw [State.challengeAt_congr (s := s) (t := s.putPort q r) rfl]
  cases s.challengeAt p <;> rfl

/-- A port's absence, its steps in the order of what they change (R51, R52). -/
theorem State.goAbsent_eq (p : Port) (s : State) :
    s.goAbsent p = ((s.absented p).dropChallengeAt p).lapseAt p := by
  let t := ((s.putPort p { s.port p with presence := .absent }).raise (.stationAbsent p)).discardBlocks p
  have record : t.port p = { s.port p with presence := .absent } := by simp [t, State.discardBlocks]
  have absented : t.putPort p (t.port p).gone = s.absented p := by
    rw [record]
    show (((s.putPort p _).putPort p _).putLoop _ _).raise _ = _
    rw [State.putPort_putPort]
    rfl
  show ((t.dropChallengeAt p).putPort p ((t.dropChallengeAt p).port p).gone).lapseAt p = _
  rw [State.port_dropChallengeAt, State.putPort_dropChallengeAt, absented]

/-- The absence of a port whose record and loop have just been written. -/
theorem State.absented_written (s : State) (l : LoopNo) (st : Station) (r : LoopRec) (q : PortRec) :
    ((s.putLoop l r).putPort (portOf l st) q).absented (portOf l st) =
      ((s.putLoop l (r.discard st)).putPort (portOf l st) { q with presence := .absent }.gone).raise
        (.stationAbsent (portOf l st)) := by
  have loop : ((s.putLoop l r).putPort (portOf l st) q).loop l = r := by simp
  have port : ((s.putLoop l r).putPort (portOf l st) q).port (portOf l st) = q := by simp
  unfold State.absented
  rw [loopOf_portOf, stationOf_portOf, loop, port]
  show ((((s.putPort _ q).putLoop l r).putLoop l _).putPort _ _).raise _ = _
  rw [State.putLoop_putLoop]
  show ((((s.putLoop l _).putPort _ q).putPort _ _).raise _) = _
  rw [State.putPort_putPort]

theorem State.dropChallengeAt_none {s : State} {p : Port} (h : s.challengeAt p = none) : s.dropChallengeAt p = s := by
  simp [State.dropChallengeAt, h]

theorem State.dropChallengeAt_some {s : State} {p : Port} {ix : ExtIx} {e : Entry} (h : s.challengeAt p = some ix)
    (he : s.entry? ix = some e) : s.dropChallengeAt p = s.putEntry ix (some e.revert) := by
  simp [State.dropChallengeAt, h, State.modEntry_eq, he]

theorem State.lapseAt_none {s : State} {p : Port} (h : (s.port p).bound = none) : s.lapseAt p = s := by
  simp [State.lapseAt, h]

theorem State.lapseAt_some {s : State} {p : Port} {ix : ExtIx} (h : (s.port p).bound = some ix) :
    s.lapseAt p = s.lapse ix .absent := by
  simp [State.lapseAt, h]

@[simp] theorem PortRec.gone_bound (r : PortRec) : r.gone.bound = r.bound := by
  unfold PortRec.gone
  split <;> rfl

/-- A miss that leaves the presence as it is (R51). -/
theorem State.miss_stays {s : State} {p : Port}
    (h : (s.port p).presence = .absent ∨ min 32 ((s.port p).miss + 1) < s.absenceLimit) :
    s.miss p = s.putPort p { s.port p with miss := min 32 ((s.port p).miss + 1) } := by
  unfold State.miss
  dsimp only
  split
  case h_2 => rfl
  case h_1 hp =>
    rw [if_neg]
    exact Nat.not_le.mpr (h.resolve_left (by simp [hp]))

/-- A miss that makes a PRESENT port ABSENT (R51). -/
theorem State.miss_absents {s : State} {p : Port} (hp : (s.port p).presence = .present)
    (h : s.absenceLimit ≤ min 32 ((s.port p).miss + 1)) :
    s.miss p = (s.putPort p { s.port p with miss := min 32 ((s.port p).miss + 1) }).goAbsent p := by
  simp [State.miss, hp, h]

/-- The records addressed to a station discarded, with the relay blocks counted (R40, R52). -/
theorem LoopRec.discard_eq (st : Station) (r : LoopRec) : r.discard st = { r with
    queue := r.queue.filter (fun q => decide (q.station ≠ st))
    relayCount := r.relayCount - r.queue.countP (fun q => decide (q.station = st) && decide (q.block.origin = .relay)) } := by
  simp only [LoopRec.discard, relays, List.countP_filter, Bool.and_comm]

/-- Settles O31: a miss by its count, the absence it brings by R52, and GARBLED as NONE. -/
theorem missedTurnsCountUpToAbsence : Obligations.MissedTurnsCountUpToAbsence := by
  refine ⟨fun l st s awaits stays => ?stays, fun l st p s gone awaits hp present limit hg => ?absents,
    fun l st chars s awaits hc hv => (awaits.garbled hc hv).trans awaits.timeout.symm⟩
  case stays =>
    have miss := State.miss_stays (s := s.turnEnded l) (p := portOf l st) stays
    exact ⟨awaits.timeout.trans (congrArg _ miss), fun chars hc hv => (awaits.garbled hc hv).trans (congrArg _ miss)⟩
  case absents =>
    subst hp
    have timeout : exec (.replyWindowTimeout l) s =
        .next ((gone.dropChallengeAt (portOf l st)).lapseAt (portOf l st)) := by
      have absented : ((s.turnEnded l).putPort (portOf l st) { s.port (portOf l st) with
          miss := min 32 ((s.port (portOf l st)).miss + 1) }).absented (portOf l st) = gone := by
        refine (State.absented_written s l st _ _).trans ?_
        rw [hg, LoopRec.discard_eq]
        rfl
      rw [awaits.timeout, State.miss_absents (s := s.turnEnded l) present limit, State.goAbsent_eq]
      exact congrArg (fun t : State => Host.Outcome.next ((t.dropChallengeAt _).lapseAt _)) absented
    have challenge : gone.challengeAt (portOf l st) = s.challengeAt (portOf l st) :=
      State.challengeAt_congr (by rw [hg]; rfl) _
    have bound : (gone.port (portOf l st)).bound = (s.port (portOf l st)).bound := by
      rw [hg]
      simp
      split <;> rfl
    have entry : ∀ ix, gone.entry? ix = s.entry? ix := fun ix => by rw [hg]; rfl
    refine ⟨fun hb hc => ?_, fun ix hb hc => ?_, fun ix e hb hc he hs => ?_⟩
    · rw [timeout, State.dropChallengeAt_none (challenge.trans hc), State.lapseAt_none (bound.trans hb)]
    · rw [timeout, State.dropChallengeAt_none (challenge.trans hc), State.lapseAt_some (bound.trans hb)]
    · rw [timeout, State.dropChallengeAt_some (challenge.trans hc) ((entry ix).trans he),
        State.lapseAt_none ((congrArg PortRec.bound (State.port_putEntry _ _ _ _)).trans (bound.trans hb)), Entry.revert_eq hs]

/-! ## VALID replies and their blocks (R49, R50) -/

/-- A VALID outcome makes the port PRESENT, with a report when it was ABSENT (R50). -/
theorem State.present_eq (p : Port) (s : State) : s.present p =
    if (s.port p).presence = .present then s.putPort p { s.port p with miss := 0 }
    else (s.putPort p { s.port p with presence := .present, miss := 0 }).raise (.stationPresent p) := by
  unfold State.present
  dsimp only
  split <;> simp [*]

@[simp] theorem State.handed_present (p : Port) (s : State) : (s.present p).handed = s.handed := by
  rw [State.present_eq]
  split <;> rfl

/-- A block that arrives from a PRESENT port is taken by its unit (R49). -/
theorem State.blockArrives.takeBlock {s : State} {p : Port} {b : StationBlock} (h : s.blockArrives p b)
    (act : State → State) : s.takeBlock p b act = act s.blockTaken := by
  obtain ⟨oldest, present⟩ := h
  have taken : ∀ rest, ({ s with handed := rest } : State).atPresent p act = act { s with handed := rest } := by
    intro rest
    have : (({ s with handed := rest } : State).port p).presence = .present := present
    simp only [State.atPresent, this]
  unfold State.takeBlock State.blockTaken
  cases hh : s.handed with
  | nil =>
    have same : ({ s with handed := [] } : State) = s := by rw [← hh]
    have := taken []
    rw [same] at this
    simpa [same] using this
  | cons q rest =>
    obtain rfl : q = (p, b) := by simpa [hh] using oldest
    simpa using taken rest

theorem digitOf_eq {o : Byte} {d : Digit} (h : d.val = o.toNat) : digitOf o = some d := by
  have ho : o.toNat < 12 := h ▸ d.isLt
  rw [digitOf, dif_pos ho]
  exact congrArg some (Fin.ext h.symm)

theorem digitOf_none {o : Byte} (h : 11 < o.toNat) : digitOf o = none := by
  rw [digitOf, dif_neg (by omega)]

/-- The octet of a digit code (R203). -/
theorem toNat_digitOctet (d : Digit) : (BitVec.ofNat 8 d.val).toNat = d.val := Nat.mod_eq_of_lt (by omega)

/-- Digit codes are read back from their octets. -/
theorem readAll_digitOctets {g : Byte → Option Digit} {ds : List Digit}
    (h : ∀ d ∈ ds, g (BitVec.ofNat 8 d.val) = some d) : readAll g (ds.map (fun d => BitVec.ofNat 8 d.val)) = some ds := by
  refine readAll_eq (num := Fin.val) (fun o ho d hd => ?_) ?_
  · obtain ⟨k, hk, rfl⟩ := List.mem_map.mp ho
    obtain rfl : d = k := Fin.ext (hd.trans (toNat_digitOctet k))
    exact h d hk
  · simp only [List.map_map]
    exact List.map_congr_left fun d _ => (toNat_digitOctet d).symm

/-- A long is read back from its four octets (R201). -/
theorem exists_longOctets_eq (t : Long) : ∃ a b c d, longOctets t = [a, b, c, d] ∧ longOfOctets a b c d = t := by
  refine ⟨_, _, _, _, rfl, ?_⟩
  have ht := t.isLt
  apply BitVec.eq_of_toNat_eq
  simp only [longOfOctets, longOf, wordOf, highWord, lowWord, BitVec.toNat_ofNat]
  omega

/-- What a body of REGISTER carries: three to six numerals. -/
theorem decodeStationBlock_register (body : List Byte) : decodeStationBlock 1 body =
    if 3 ≤ body.length ∧ body.length ≤ 6 then (readAll numeralOf body).map .register else none := rfl

/-- What a body of DIGITS carries: a mark and its codes. -/
theorem decodeStationBlock_digits (flag : Byte) (codes : List Byte) : decodeStationBlock 6 (flag :: codes) =
    if 1 ≤ codes.length ∧ codes.length ≤ 16 then
      match flagOf flag, readAll digitOf codes with
      | some endFlag, some ds => some (.digits endFlag ds)
      | _, _ => none
    else none := rfl

/-- Settles O32: the judgement of R48, the outcome of R50, and the kinds and bodies a station sends. -/
theorem validReplyHandsItsBlockOn : Obligations.ValidReplyHandsItsBlockOn := by
  refine ⟨fun l st p chars block s met awaits hp valid hm => ?handed, ⟨fun number h3 h6 h10 => ?register,
    fun response => ?answer, rfl, rfl, rfl, fun codes h1 h16 => ?digits, fun body h => if_pos h, fun kind body h => ?otherKind,
    fun body h => ?noRegister, fun kind body h hb => ?noBody, fun body h => ?noAnswer, rfl, fun flag codes h => ?noDigits,
    fun body h => if_neg (Nat.not_le.mpr h)⟩, fun p body s arrives => ?feature⟩
  case handed =>
    subst hp
    have present : (s.turnEnded l).present (portOf l st) = met := (State.present_eq _ _).trans hm.symm
    have handed : met.handed = s.handed := by rw [← present, State.handed_present]; rfl
    have reply := awaits.valid valid
    rw [present] at reply
    refine ⟨?_, ?_, ?_⟩
    · rintro rfl
      exact reply
    · rintro kind body b rfl hb
      rw [reply]
      simp only [State.handOn, hb, handed]
    · rintro kind body rfl hb
      rw [reply]
      simp only [State.handOn, hb]
  case register =>
    have digits : readAll numeralOf (number.map (fun d => BitVec.ofNat 8 d.val)) = some number :=
      readAll_digitOctets fun d hd => numeralOf_eq (toNat_digitOctet d).symm ((toNat_digitOctet d).trans_lt (h10 d hd))
    rw [decodeStationBlock_register, digits, if_pos (by simp [h3, h6])]
    rfl
  case answer =>
    obtain ⟨a, b, c, d, octets, long⟩ := exists_longOctets_eq response
    rw [octets, ← long]
    rfl
  case digits =>
    have read : readAll digitOf (codes.map (fun d => BitVec.ofNat 8 d.val)) = some codes :=
      readAll_digitOctets fun d _ => digitOf_eq (toNat_digitOctet d).symm
    constructor
    · rw [decodeStationBlock_digits, read, if_pos (by simp [h1, h16])]
      rfl
    · rw [decodeStationBlock_digits, read, if_pos (by simp [h1, h16])]
      rfl
  case otherKind =>
    have kind_toNat : kind.toNat = 0 ∨ 7 < kind.toNat := h.imp_left fun h => by rw [h]; rfl
    unfold decodeStationBlock
    split
    case h_8 => rfl
    all_goals omega
  case noRegister =>
    rcases h with h | h | ⟨o, ho, h⟩
    · exact if_neg fun k => by omega
    · exact if_neg fun k => by omega
    · rw [decodeStationBlock_register, readAll_none ho (numeralOf_none h)]
      exact ite_self _
  case noBody =>
    match body, hb with
    | o :: os, _ => rcases h with rfl | rfl | rfl <;> rfl
  case noAnswer =>
    match body, h with
    | [], _ | [_], _ | [_, _], _ | [_, _, _], _ | _ :: _ :: _ :: _ :: _ :: _, _ => rfl
    | [_, _, _, _], h => exact absurd rfl h
  case noDigits =>
    rw [decodeStationBlock_digits]
    rcases h with rfl | h | h | ⟨o, ho, h⟩
    · rfl
    · exact if_neg fun k => by omega
    · simp [flagOf_none h]
    · simp [readAll_none ho (digitOf_none h)]
  case feature => exact congrArg Host.Outcome.next (arrives.takeBlock _)

end Sys2Proof.Machine

/-!
PROOFS. Ports struck off a loop's list, as one change (R40, R41, R52, R81).
-/

namespace Sys2Proof.Machine

/-! ## What becomes of an entry (R52, R81) -/

/-- An extension that loses its port: Overdue while a call is live, otherwise released and lapsed (R81). -/
def Entry.leave (e : Entry) : Entry :=
  if e.liveCall.isSome then { e with overdue := some .absent } else { e.released with state := e.state.lapsed }

/-- The entry without a challenge at one of the ports (R52, step 2). -/
def Entry.dropIn (ps : List Port) (e : Entry) : Entry :=
  if e.challenge.any (fun c => decide (c.port ∈ ps)) then e.revert else e

/-- The entry without a port of those bound (R52, step 4). -/
def Entry.leaveIn (ps : List Port) (e : Entry) : Entry :=
  if e.bound.any (fun q => decide (q ∈ ps)) then e.leave else e

/-- The entry after the absence procedure of each of the ports (R52). -/
def Entry.goneIn (ps : List Port) (e : Entry) : Entry := (e.dropIn ps).leaveIn ps

namespace Entry

variable (e : Entry) (ps qs : List Port)

@[simp] theorem leave_challenge : e.leave.challenge = e.challenge := by
  unfold leave
  split <;> rfl

@[simp] theorem leave_liveCall : e.leave.liveCall = e.liveCall := by
  unfold leave
  split <;> rfl

@[simp] theorem dropIn_bound : (e.dropIn ps).bound = e.bound := by
  unfold dropIn
  split <;> rfl

@[simp] theorem goneIn_liveCall : (e.goneIn ps).liveCall = e.liveCall := by
  have drop : (e.dropIn ps).liveCall = e.liveCall := by
    unfold dropIn
    split <;> rfl
  unfold goneIn leaveIn
  split
  · rw [leave_liveCall, drop]
  · exact drop

/-- Which of the two comes first makes no difference. -/
theorem revert_leave : e.leave.revert = e.revert.leave := by
  unfold leave
  have live : e.revert.liveCall = e.liveCall := rfl
  rw [live]
  split
  case isTrue => rfl
  case isFalse => cases hs : e.state <;> simp [Entry.revert, Entry.released, AdmissionState.lapsed, hs]

theorem dropIn_leaveIn : (e.leaveIn ps).dropIn qs = (e.dropIn qs).leaveIn ps := by
  unfold leaveIn
  rw [dropIn_bound]
  split
  case isFalse => rfl
  case isTrue =>
    unfold dropIn
    rw [leave_challenge]
    split
    · exact e.revert_leave
    · rfl

theorem dropIn_append : (e.dropIn ps).dropIn qs = e.dropIn (ps ++ qs) := by
  unfold dropIn
  cases hc : e.challenge with
  | none => simp [hc]
  | some c => by_cases hp : c.port ∈ ps <;> simp [hc, hp, Entry.revert]

/-- An extension that has lost its port loses nothing more. -/
theorem leaveIn_leave : e.leave.leaveIn qs = e.leave := by
  unfold leaveIn leave
  cases hl : e.liveCall with
  | none => simp [Entry.released]
  | some id => simp

theorem leaveIn_append : (e.leaveIn ps).leaveIn qs = e.leaveIn (ps ++ qs) := by
  by_cases hp : e.bound.any (fun q => decide (q ∈ ps)) = true
  · have both : e.bound.any (fun q => decide (q ∈ ps ++ qs)) = true := by
      rw [Option.any_eq_true] at hp ⊢
      obtain ⟨q, hq, hm⟩ := hp
      exact ⟨q, hq, by simp_all⟩
    have first : e.leaveIn ps = e.leave := if_pos hp
    rw [first, leaveIn_leave]
    exact (if_pos both).symm
  · have rest : e.bound.any (fun q => decide (q ∈ ps ++ qs)) = e.bound.any (fun q => decide (q ∈ qs)) := by
      cases hb : e.bound <;> simp_all
    have first : e.leaveIn ps = e := if_neg hp
    rw [first, leaveIn, leaveIn, rest]

/-- The ports one after another, or all together. -/
theorem goneIn_append : (e.goneIn ps).goneIn qs = e.goneIn (ps ++ qs) := by
  unfold goneIn
  rw [dropIn_leaveIn, dropIn_append, leaveIn_append]

@[simp] theorem goneIn_nil : e.goneIn [] = e := by
  unfold goneIn leaveIn dropIn
  cases hc : e.challenge <;> cases hb : e.bound <;> simp [hb]

variable {e ps}

/-- An entry with nothing at any of the ports is left alone. -/
theorem goneIn_apart (hc : ∀ c, e.challenge = some c → c.port ∉ ps) (hb : ∀ q, e.bound = some q → q ∉ ps) :
    e.goneIn ps = e := by
  have drop : e.dropIn ps = e := if_neg fun h => by
    obtain ⟨c, h, hm⟩ := (Option.any_eq_true _ _).mp h
    exact hc c h (by simpa using hm)
  rw [goneIn, drop]
  refine if_neg fun h => ?_
  obtain ⟨q, h, hm⟩ := (Option.any_eq_true _ _).mp h
  exact hb q h (by simpa using hm)

/-- An entry with its challenge at one of the ports, and not bound at any. -/
theorem goneIn_challenged {c : Challenge} (hc : e.challenge = some c) (hm : c.port ∈ ps)
    (hb : ∀ q, e.bound = some q → q ∉ ps) : e.goneIn ps = e.revert := by
  have drop : e.dropIn ps = e.revert := if_pos (by simp [hc, hm])
  rw [goneIn, drop]
  refine if_neg fun h => ?_
  obtain ⟨q, h, hm⟩ := (Option.any_eq_true _ _).mp h
  exact hb q h (by simpa using hm)

/-- An entry bound at one of the ports. -/
theorem goneIn_bound {q : Port} (hb : e.bound = some q) (hm : q ∈ ps) : e.goneIn ps = (e.dropIn ps).leave := by
  refine if_pos ?_
  rw [dropIn_bound]
  simp [hb, hm]

end Entry

/-! ## Ports struck off, as one change -/

/-- The extension at the index lapses when its port goes absent: no call of it is live (R81). -/
def State.lapses (s : State) (ix : ExtIx) : Bool := (s.entry? ix).any (fun e => e.liveCall.isNone)

/-- The port is PRESENT. -/
def State.isPresent (s : State) (p : Port) : Bool := decide ((s.port p).presence = .present)

/-- A port gone absent, its extension released when it lapses (R52, R64, R81). -/
def PortRec.left (lapses : ExtIx → Bool) (r : PortRec) : PortRec :=
  { r.gone with presence := .absent, bound := r.bound.filter (fun ix => !lapses ix) }

/-- A port made ABSENT when it is PRESENT and `off`, its Miss Count 0 when `clear` (R40, R41). -/
def PortRec.struck (lapses : ExtIx → Bool) (off clear : Bool) (r : PortRec) : PortRec :=
  let q := if off && decide (r.presence = .present) then r.left lapses else r
  { q with miss := if clear then 0 else r.miss }

/-- What a port's absence raises: STATION ABSENT, and LAPSED of the extension that lapses (R52, R81). -/
def State.absenceItems (s : State) (p : Port) : List Item :=
  .stationAbsent p :: ((s.port p).bound.filter s.lapses).toList.map (fun ix => .lapsed ix p .absent)

/-- The directory and the port table replaced. -/
def State.withTables (directory : Table (Option Entry) 320) (ports : Table PortRec 256) (s : State) : State :=
  { s with directory := directory, ports := ports }

/-- The PRESENT ones of the ports `off` made ABSENT, with the absence procedure but for the queues; the Miss Counts of the
ports `clear` 0 (R40, R41, R52). -/
def State.strike (off clear : List Port) (s : State) : State :=
  (s.withTables (s.directory.map (Option.map (Entry.goneIn (off.filter s.isPresent))))
    (s.ports.imap (fun p r => r.struck s.lapses (decide (p ∈ off)) (decide (p ∈ clear))))).raiseAll
      ((off.filter s.isPresent).flatMap s.absenceItems)

/-! ### Several items raised -/

namespace State

variable (s : State) (is js : List Item)

theorem raiseAll_append : (s.raiseAll is).raiseAll js = s.raiseAll (is ++ js) := List.foldl_append.symm

/-- What does not depend on the link commutes with the items raised. -/
theorem raiseAll_comm {f : State → State} (h : ∀ (s : State) i, f (s.raise i) = (f s).raise i) :
    f (s.raiseAll is) = (f s).raiseAll is := by
  induction is generalizing s with
  | nil => rfl
  | cons i is ih => exact (ih (s.raise i)).trans (congrArg _ (h s i))

@[simp] theorem raiseAll_directory : (s.raiseAll is).directory = s.directory := by
  induction is generalizing s with
  | nil => rfl
  | cons i is ih => exact ih (s.raise i)

@[simp] theorem raiseAll_ports : (s.raiseAll is).ports = s.ports := by
  induction is generalizing s with
  | nil => rfl
  | cons i is ih => exact ih (s.raise i)

@[simp] theorem raiseAll_loops : (s.raiseAll is).loops = s.loops := by
  induction is generalizing s with
  | nil => rfl
  | cons i is ih => exact ih (s.raise i)

/-- Items leave a line at rest only where it was at rest. -/
theorem line_of_raiseAll (h : (s.raiseAll is).line = none) : s.line = none := by
  induction is generalizing s with
  | nil => exact h
  | cons i is ih =>
    have first : (s.raise i).line = none := ih (s.raise i) h
    by_contra busy
    rw [State.raise_busy i busy] at first
    exact busy first

/-! ### Reading the state afterwards -/

variable (off clear : List Port)

theorem directory_strike : (s.strike off clear).directory =
    s.directory.map (Option.map (Entry.goneIn (off.filter s.isPresent))) := raiseAll_directory _ _

theorem ports_strike : (s.strike off clear).ports =
    s.ports.imap (fun p r => r.struck s.lapses (decide (p ∈ off)) (decide (p ∈ clear))) := raiseAll_ports _ _

@[simp] theorem port_strike (p : Port) : (s.strike off clear).port p =
    (s.port p).struck s.lapses (decide (p ∈ off)) (decide (p ∈ clear)) := by
  simp [State.port, ports_strike]

@[simp] theorem entry_strike (ix : ExtIx) : (s.strike off clear).entry? ix =
    (s.entry? ix).map (Entry.goneIn (off.filter s.isPresent)) := by
  simp [State.entry?, directory_strike]

@[simp] theorem loop_strike (l : LoopNo) : (s.strike off clear).loop l = s.loop l := by
  simp [State.loop, State.strike, State.withTables]

@[simp] theorem lapses_strike : (s.strike off clear).lapses = s.lapses := by
  funext ix
  rw [State.lapses, entry_strike, State.lapses]
  cases s.entry? ix <;> simp

theorem line_of_strike (h : (s.strike off clear).line = none) : s.line = none := by
  have before := line_of_raiseAll _ _ h
  exact before

theorem strike_putLoop (l : LoopNo) (r : LoopRec) : (s.putLoop l r).strike off clear = (s.strike off clear).putLoop l r :=
  (raiseAll_comm (s.withTables _ _) _ (f := State.putLoop l r) fun _ _ => rfl).symm

theorem strike_admitFrame (g : Frame) : (s.admitFrame g).strike off clear = (s.strike off clear).admitFrame g :=
  (raiseAll_comm (s.withTables _ _) _ (f := State.admitFrame g) fun _ _ => rfl).symm

/-- A port that is not struck off is as present as it was, and its absence would raise the same. -/
theorem absence_strike {p : Port} (h : p ∉ off) : (s.strike off clear).isPresent p = s.isPresent p ∧
    (s.strike off clear).absenceItems p = s.absenceItems p := by
  have record : ((s.strike off clear).port p) = (s.port p).struck s.lapses false (decide (p ∈ clear)) := by simp [h]
  constructor
  · rw [State.isPresent, record]
    rfl
  · rw [State.absenceItems, lapses_strike, record]
    rfl

end State

/-- A Miss Count stands beside the absence. -/
theorem PortRec.left_miss (lapses : ExtIx → Bool) (r : PortRec) (n : Nat) :
    { r with miss := n }.left lapses = { r.left lapses with miss := n } := by
  unfold PortRec.left PortRec.gone
  dsimp only
  split <;> rfl

theorem PortRec.presence_cases (r : PortRec) : r.presence = .absent ∨ r.presence = .present := by
  cases r.presence <;> simp

section Struck

variable {lapses : ExtIx → Bool} {off clear : Bool} {r : PortRec}

theorem PortRec.struck_present (h : r.presence = .present) : r.struck lapses true clear =
    { r.left lapses with miss := if clear then 0 else r.miss } := by
  simp [PortRec.struck, h]

theorem PortRec.struck_uncleared (h : r.presence = .present) : r.struck lapses true false = r.left lapses :=
  (PortRec.struck_present h).trans (PortRec.left_miss lapses r r.miss).symm

/-- A port that is kept, or is ABSENT already, has its Miss Count cleared at most. -/
theorem PortRec.struck_stays (h : off = false ∨ r.presence = .absent) : r.struck lapses off clear =
    { r with miss := if clear then 0 else r.miss } := by
  rcases h with rfl | h
  · rfl
  · simp [PortRec.struck, h]

/-- A port struck off once is not struck off again. -/
theorem PortRec.struck_struck (off clear : Bool) {off' : Bool} (h : ¬ (off = true ∧ off' = true)) (clear' : Bool) :
    (r.struck lapses off clear).struck lapses off' clear' = r.struck lapses (off || off') (clear || clear') := by
  cases off with
  | true =>
    obtain rfl : off' = false := by simpa using h
    rw [PortRec.struck_stays (.inl rfl)]
    cases clear <;> cases clear' <;> rfl
  | false =>
    rw [PortRec.struck_stays (off := false) (.inl rfl), Bool.false_or]
    cases off' with
    | false => cases clear <;> cases clear' <;> rfl
    | true =>
      rcases r.presence_cases with hp | hp
      · rw [PortRec.struck_stays (r := r) (.inr hp)]
        refine (PortRec.struck_stays (r := { r with miss := if clear then 0 else r.miss }) (.inr hp)).trans ?_
        cases clear <;> cases clear' <;> rfl
      · rw [PortRec.struck_present (r := r) hp]
        refine (PortRec.struck_present (r := { r with miss := if clear then 0 else r.miss }) hp).trans ?_
        rw [PortRec.left_miss]
        cases clear <;> cases clear' <;> rfl

end Struck

/-- Ports struck off one after another, or all together. -/
theorem State.strike_append (s : State) {off off' : List Port} (h : ∀ p ∈ off', p ∉ off) (clear clear' : List Port) :
    (s.strike off clear).strike off' clear' = s.strike (off ++ off') (clear ++ clear') := by
  have present : off'.filter (s.strike off clear).isPresent = off'.filter s.isPresent :=
    List.filter_congr fun p hp => (s.absence_strike off clear (h p hp)).1
  have items : (off'.filter s.isPresent).flatMap (s.strike off clear).absenceItems =
      (off'.filter s.isPresent).flatMap s.absenceItems := by
    unfold List.flatMap
    rw [List.map_congr_left fun p hp => (s.absence_strike off clear (h p (List.mem_filter.mp hp).1)).2]
  have directory : (s.strike off clear).directory.map (Option.map (Entry.goneIn (off'.filter s.isPresent))) =
      s.directory.map (Option.map (Entry.goneIn ((off ++ off').filter s.isPresent))) := by
    refine Table.ext_get fun ix => ?_
    rw [State.directory_strike, Table.get_map, Table.get_map, Table.get_map, Option.map_map, List.filter_append]
    congr 1
    funext e
    exact e.goneIn_append _ _
  have ports : (s.strike off clear).ports.imap
        (fun p r => r.struck s.lapses (decide (p ∈ off')) (decide (p ∈ clear'))) =
      s.ports.imap (fun p r => r.struck s.lapses (decide (p ∈ off ++ off')) (decide (p ∈ clear ++ clear'))) := by
    refine Table.ext_get fun p => ?_
    rw [State.ports_strike, Table.get_imap, Table.get_imap, Table.get_imap, PortRec.struck_struck]
    · simp
    · simpa using fun hp hp' => h p hp' hp
  have tables : ∀ directory ports, (s.strike off clear).withTables directory ports =
      (s.withTables directory ports).raiseAll ((off.filter s.isPresent).flatMap s.absenceItems) := fun directory ports =>
    State.raiseAll_comm (s.withTables _ _) _ (f := State.withTables directory ports) fun _ _ => rfl
  show ((s.strike off clear).withTables _ _).raiseAll _ = _
  rw [State.lapses_strike, present, items, directory, ports, tables, State.raiseAll_append, ← List.flatMap_append,
    ← List.filter_append]
  rfl

/-! ## The absence procedure, as one change (R52) -/

/-- One entry of the directory changed, the others left alone. -/
theorem State.directory_map_set {s : State} {f : Entry → Entry} {ix : ExtIx} {e : Entry} (he : s.entry? ix = some e)
    (only : ∀ jx d, s.entry? jx = some d → jx ≠ ix → f d = d) :
    s.directory.map (Option.map f) = s.directory.set ix (some (f e)) := by
  refine Table.ext_get fun jx => ?_
  rw [Table.get_map, Table.get_set]
  change Option.map f (s.entry? jx) = if jx = ix then some (f e) else s.entry? jx
  split
  case isTrue h => rw [h, he]; rfl
  case isFalse h =>
    cases hd : s.entry? jx with
    | none => rfl
    | some d => exact congrArg some (only jx d hd h)

/-- No entry of the directory changed. -/
theorem State.directory_map_self {s : State} {f : Entry → Entry} (same : ∀ jx d, s.entry? jx = some d → f d = d) :
    s.directory.map (Option.map f) = s.directory := by
  refine Table.ext_get fun jx => ?_
  rw [Table.get_map]
  change Option.map f (s.entry? jx) = s.entry? jx
  cases hd : s.entry? jx with
  | none => rfl
  | some d => exact congrArg some (same jx d hd)

/-- No port struck off, no Miss Count cleared. -/
theorem State.strike_none (s : State) {off : List Port} (h : ∀ p ∈ off, (s.port p).presence = .absent) :
    s.strike off [] = s := by
  have filter : off.filter s.isPresent = [] := by
    rw [List.filter_eq_nil_iff]
    intro p hp
    simp [State.isPresent, h p hp]
  have directory : s.directory.map (Option.map (Entry.goneIn [])) = s.directory :=
    State.directory_map_self fun _ d _ => d.goneIn_nil
  have ports : s.ports.imap (fun p r => r.struck s.lapses (decide (p ∈ off)) (decide (p ∈ ([] : List Port)))) = s.ports := by
    refine Table.ext_get fun p => ?_
    rw [Table.get_imap]
    refine PortRec.struck_stays ?_
    by_cases hp : p ∈ off
    · exact .inr (h p hp)
    · exact .inl (decide_eq_false hp)
  rw [State.strike, filter, directory, ports]
  rfl

/-- A Miss Count cleared. -/
theorem State.clearMiss_eq (p : Port) (s : State) : s.clearMiss p = s.strike [] [p] := by
  have directory : s.directory.map (Option.map (Entry.goneIn [])) = s.directory :=
    State.directory_map_self fun _ d _ => d.goneIn_nil
  have ports : s.ports.imap (fun q r => r.struck s.lapses (decide (q ∈ ([] : List Port))) (decide (q ∈ [p]))) =
      s.ports.set p { s.port p with miss := 0 } := by
    refine Table.ext_get fun q => ?_
    rw [Table.get_imap, Table.get_set]
    by_cases hq : q = p
    · subst hq
      simp [PortRec.struck, State.port]
    · simp [PortRec.struck, hq]
  rw [State.strike, List.filter_nil, directory, ports]
  rfl

/-- A port gone absent keeps an extension that does not lapse (R52, R81). -/
theorem PortRec.left_kept {lapses : ExtIx → Bool} {r : PortRec} (h : ∀ ix, r.bound = some ix → lapses ix = false) :
    r.left lapses = { r with presence := .absent }.gone := by
  have kept : r.bound.filter (fun ix => !lapses ix) = r.bound := by
    cases hb : r.bound with
    | none => rfl
    | some ix => simp [h ix hb]
  rw [PortRec.left, kept]
  unfold PortRec.gone
  dsimp only
  split <;> rfl

/-- A port gone absent loses an extension that lapses (R52, R64, R81). -/
theorem PortRec.left_unbound {lapses : ExtIx → Bool} {r : PortRec} {ix : ExtIx} (hb : r.bound = some ix)
    (h : lapses ix = true) : r.left lapses = { r with presence := .absent }.gone.unbind := by
  have lost : r.bound.filter (fun ix => !lapses ix) = none := by simp [hb, h]
  rw [PortRec.left, lost]
  unfold PortRec.gone
  dsimp only
  split
  case isTrue => rfl
  case isFalse hd => simp_all [PortRec.unbind]

section Absence

variable {s : State} {p : Port}

/-- The ports after the absence of one that was PRESENT. -/
theorem State.ports_absence (h : (s.port p).presence = .present) :
    s.ports.imap (fun q r => r.struck s.lapses (decide (q ∈ [p])) (decide (q ∈ ([] : List Port)))) =
      s.ports.set p ((s.port p).left s.lapses) := by
  refine Table.ext_get fun q => ?_
  rw [Table.get_imap, Table.get_set]
  split
  case isTrue hq =>
    subst hq
    rw [decide_eq_true (List.mem_singleton_self q), decide_eq_false List.not_mem_nil]
    exact PortRec.struck_uncleared h
  case isFalse hq => simp [PortRec.struck, hq]

/-- The absence of a PRESENT port, by what it makes of the directory, of the port's record and of its extension. -/
theorem State.strike_present (h : (s.port p).presence = .present) {directory : Table (Option Entry) 320} {r : PortRec}
    {items : List Item} (hd : s.directory.map (Option.map (Entry.goneIn [p])) = directory)
    (hr : (s.port p).left s.lapses = r) (hi : s.absenceItems p = .stationAbsent p :: items) :
    s.strike [p] [] = ((s.withTables directory (s.ports.set p r)).raise (.stationAbsent p)).raiseAll items := by
  have filter : [p].filter s.isPresent = [p] := by simp [State.isPresent, h]
  rw [State.strike, filter, State.ports_absence h, hd, hr, List.flatMap_singleton, hi]
  rfl

/-- An entry neither challenged at the port nor bound there is left alone. -/
theorem State.wired.goneIn_apart (h : s.wired) {ix : ExtIx} {e : Entry} (he : s.entry? ix = some e)
    (hc : s.challengeAt p ≠ some ix) (hb : (s.port p).bound ≠ some ix) : e.goneIn [p] = e := by
  refine Entry.goneIn_apart (fun c hc' hm => hc ?_) fun q hq hm => hb ?_
  · rw [← List.mem_singleton.mp hm]
    exact h.challengeAt_eq he hc'
  · rw [← List.mem_singleton.mp hm]
    exact h.portOfEntry ix e q he hq

/-- An entry bound at the port has no challenge there, and loses the port alone. -/
theorem State.wired.goneIn_bound (h : s.wired) {ix : ExtIx} {e : Entry} (he : s.entry? ix = some e)
    (hb : e.bound = some p) : e.goneIn [p] = e.leave := by
  have drop : e.dropIn [p] = e := if_neg fun hd => by
    obtain ⟨c, hc, hm⟩ := (Option.any_eq_true _ _).mp hd
    obtain rfl : c.port = p := by simpa using hm
    have unbound := h.challengedPort ix e c he hc
    rw [h.portOfEntry ix e _ he hb] at unbound
    cases unbound
  rw [Entry.goneIn_bound hb (List.mem_singleton_self p), drop]

theorem State.challengeAt_absented : (s.absented p).challengeAt p = s.challengeAt p := State.challengeAt_congr rfl p

theorem State.port_absented : (s.absented p).port p = { s.port p with presence := .absent }.gone := by
  simp [State.absented]

theorem State.bound_absented : ((s.absented p).port p).bound = (s.port p).bound := by
  rw [State.port_absented, PortRec.gone_bound]

/-- The absence of a port to which no extension is bound: the challenge pending there is abandoned (R52). -/
theorem State.wired.goAbsent_unbound (h : s.wired) (hp : (s.port p).presence = .present) (hb : (s.port p).bound = none) :
    s.goAbsent p = (s.strike [p] []).putLoop (loopOf p) ((s.loop (loopOf p)).discard (stationOf p)) := by
  have left := PortRec.left_kept (r := s.port p) (lapses := s.lapses) fun ix hix => by simp [hb] at hix
  have items : s.absenceItems p = [.stationAbsent p] := by simp [State.absenceItems, hb]
  rw [State.goAbsent_eq, State.lapseAt_none (by simp [State.bound_absented, hb])]
  cases hx : s.challengeAt p with
  | none =>
    have directory : s.directory.map (Option.map (Entry.goneIn [p])) = s.directory :=
      State.directory_map_self fun jx d hd => h.goneIn_apart hd (by simp [hx]) (by simp [hb])
    rw [State.dropChallengeAt_none (State.challengeAt_absented.trans hx), State.strike_present hp directory left items]
    rfl
  | some ix =>
    obtain ⟨e, c, he, hc, hcp⟩ := State.challengeAt_found hx
    have gone : e.goneIn [p] = e.revert := Entry.goneIn_challenged hc (by simp [hcp]) fun q hq hm => by
      obtain rfl := List.mem_singleton.mp hm
      simp [h.portOfEntry ix e q he hq] at hb
    have directory := State.directory_map_set (f := Entry.goneIn [p]) he fun jx d hd hne =>
      h.goneIn_apart hd (by simpa [hx] using hne.symm) (by simp [hb])
    rw [gone] at directory
    rw [State.dropChallengeAt_some (State.challengeAt_absented.trans hx) (e := e) he,
      State.strike_present hp directory left items]
    rfl

/-- The absence of a port whose extension has a live call: the lapse is deferred (R52, R81). -/
theorem State.lapse_absented_live {ix : ExtIx} {e : Entry} (he : s.entry? ix = some e) (hl : e.liveCall.isSome) :
    (s.absented p).lapse ix .absent = (s.absented p).putEntry ix (some e.leave) := by
  have entry : (s.absented p).entry? ix = some e := he
  simp [State.lapse, entry, hl, Entry.leave]

/-- The absence of a port whose extension has no live call: it is released, and NOTICE REREGISTER meets an ABSENT port
(R52, R58, R81). -/
theorem State.lapse_absented_idle {ix : ExtIx} {e : Entry} (he : s.entry? ix = some e) (hb : e.bound = some p)
    (hl : e.liveCall = none) : (s.absented p).lapse ix .absent = (((s.absented p).putEntry ix (some e.leave)).putPort p
      { s.port p with presence := .absent }.gone.unbind).raise (.lapsed ix p .absent) := by
  have entry : (s.absented p).entry? ix = some e := he
  have steps : (s.absented p).lapse ix .absent = ((((s.absented p).releaseBinding ix).modEntry ix
      (fun e => { e with state := e.state.lapsed })).offer p (.notice .reregister)).raise (.lapsed ix p .absent) := by
    simp [State.lapse, entry, hl, hb]
  have absent : { s.port p with presence := .absent }.gone.unbind.presence = .absent := by
    unfold PortRec.unbind PortRec.gone
    dsimp only
    split <;> split <;> rfl
  have released : ((s.absented p).releaseBinding ix).modEntry ix (fun e => { e with state := e.state.lapsed }) =
      ((s.absented p).putEntry ix (some e.leave)).putPort p { s.port p with presence := .absent }.gone.unbind := by
    rw [State.releaseBinding_bound entry hb, State.port_absented, State.modEntry_eq, State.entry_putPort,
      State.entry_putEntry_self, Entry.leave, if_neg (by simp [hl])]
    show (((s.absented p).putEntry ix _).putEntry ix _).putPort p _ = _
    rw [State.putEntry_putEntry]
    rfl
  rw [steps, released, State.offer_absent _ (by simpa using absent)]

/-- The absence of a port to which an extension is bound: no challenge is pending there, and the extension lapses or becomes
Overdue (R52, R81). -/
theorem State.wired.goAbsent_bound (h : s.wired) (hp : (s.port p).presence = .present) {ix : ExtIx}
    (hb : (s.port p).bound = some ix) :
    s.goAbsent p = (s.strike [p] []).putLoop (loopOf p) ((s.loop (loopOf p)).discard (stationOf p)) := by
  obtain ⟨e, he, heb⟩ := h.entryOfPort p ix hb
  have unasked : s.challengeAt p = none := (h.unchallenged hb).challengeAt
  have directory := State.directory_map_set (f := Entry.goneIn [p]) he fun jx d hd hne =>
    h.goneIn_apart hd (by simp [unasked]) (by simpa [hb] using hne.symm)
  rw [h.goneIn_bound he heb] at directory
  rw [State.goAbsent_eq, State.dropChallengeAt_none (State.challengeAt_absented.trans unasked),
    State.lapseAt_some (State.bound_absented.trans hb)]
  cases hl : e.liveCall with
  | some id =>
    have kept : s.lapses ix = false := by simp [State.lapses, he, hl]
    have left := PortRec.left_kept (r := s.port p) (lapses := s.lapses) fun jx hjx => by
      rwa [← Option.some.inj (hb.symm.trans hjx)]
    have items : s.absenceItems p = [.stationAbsent p] := by simp [State.absenceItems, hb, kept]
    rw [State.lapse_absented_live he (by simp [hl]), State.strike_present hp directory left items]
    rfl
  | none =>
    have lapses : s.lapses ix = true := by simp [State.lapses, he, hl]
    have items : s.absenceItems p = [.stationAbsent p, .lapsed ix p .absent] := by simp [State.absenceItems, hb, lapses]
    rw [State.lapse_absented_idle he heb hl, State.strike_present hp directory (PortRec.left_unbound hb lapses) items]
    show (((((s.putLoop _ _).putPort p _).putPort p _).putEntry ix _).raise _).raise _ = _
    rw [State.putPort_putPort]
    rfl

/-- The absence of a PRESENT port: its blocks discarded, and it struck off (R51, R52). -/
theorem State.wired.goAbsent_eq (h : s.wired) (hp : (s.port p).presence = .present) :
    s.goAbsent p = (s.strike [p] []).putLoop (loopOf p) ((s.loop (loopOf p)).discard (stationOf p)) := by
  cases hb : (s.port p).bound with
  | none => exact h.goAbsent_unbound hp hb
  | some ix => exact h.goAbsent_bound hp hb

end Absence

end Sys2Proof.Machine

/-!
PROOFS. SET LOOP by the loop's enable (O28).
-/

namespace Sys2Proof.Machine

/-! ## The queue without the records of some stations (R40, R41) -/

/-- The queue and Relay Count without the records addressed to any of the stations. -/
def LoopRec.discardAll (sts : List Station) (r : LoopRec) : LoopRec :=
  { r with
    queue := r.queue.filter (fun q => decide (q.station ∉ sts))
    relayCount := r.relayCount - r.queue.countP (fun q => decide (q.station ∈ sts) && decide (q.block.origin = .relay)) }

theorem LoopRec.discard_eq_discardAll (st : Station) (r : LoopRec) : r.discard st = r.discardAll [st] := by
  simp [LoopRec.discard_eq, LoopRec.discardAll]

@[simp] theorem LoopRec.discardAll_nil (r : LoopRec) : r.discardAll [] = r := by
  simp [LoopRec.discardAll]

/-- Stations one after another, or all together. -/
theorem LoopRec.discardAll_append (r : LoopRec) (sts sts' : List Station) :
    (r.discardAll sts).discardAll sts' = r.discardAll (sts ++ sts') := by
  have queue : (r.queue.filter (fun q => decide (q.station ∉ sts))).filter (fun q => decide (q.station ∉ sts')) =
      r.queue.filter (fun q => decide (q.station ∉ sts ++ sts')) := by
    rw [List.filter_filter]
    exact List.filter_congr fun q _ => by simp [Bool.and_comm]
  have count : r.queue.countP (fun q => decide (q.station ∈ sts ++ sts') && decide (q.block.origin = .relay)) =
      r.queue.countP (fun q => decide (q.station ∈ sts) && decide (q.block.origin = .relay)) +
        (r.queue.filter (fun q => decide (q.station ∉ sts))).countP
          (fun q => decide (q.station ∈ sts') && decide (q.block.origin = .relay)) := by
    rw [List.countP_eq_countP_filter_add _ _ (fun q => decide (q.station ∈ sts)), List.countP_filter, List.countP_filter,
      List.countP_filter]
    congr 1
    · exact List.countP_congr fun q _ => by simp; tauto
    · exact List.countP_congr fun q _ => by simp; tauto
  rw [LoopRec.discardAll, LoopRec.discardAll, LoopRec.discardAll]
  dsimp only
  rw [queue, count, Nat.sub_sub]

@[simp] theorem LoopRec.discard_off (st : Station) (poll : Table Bool 32) : (LoopRec.off poll).discard st = .off poll := rfl

/-- Nothing is left to discard a second time. -/
theorem LoopRec.discard_discard (st : Station) (r : LoopRec) : (r.discard st).discard st = r.discard st := by
  simp only [LoopRec.discard_eq_discardAll, LoopRec.discardAll_append]
  simp [LoopRec.discardAll]

/-! ## The stations of a list, one after another (R40, R41, assumption 11) -/

theorem portOf_injective (l : LoopNo) : Function.Injective (portOf l) := fun a b h => by
  rw [← stationOf_portOf l a, h, stationOf_portOf]

@[simp] theorem State.putLoop_loop (s : State) (l : LoopNo) : s.putLoop l (s.loop l) = s := by
  show { s with loops := s.loops.set l (s.loops.get l) } = s
  rw [Table.set_get_self]

/-- A port made ABSENT when it is PRESENT, on a loop whose queue is empty (R41). -/
theorem State.wired.ensureAbsent_off {s : State} (h : s.wired) {p : Port} {poll : Table Bool 32}
    (hl : s.loop (loopOf p) = .off poll) : s.ensureAbsent p = s.strike [p] [] := by
  rcases (s.port p).presence_cases with hp | hp
  · rw [State.strike_none _ (by simpa using hp)]
    simp only [State.ensureAbsent, hp]
  · have same : (s.strike [p] []).putLoop (loopOf p) (.off poll) = s.strike [p] [] := by
      rw [← hl, ← State.loop_strike s [p] [], State.putLoop_loop]
    simp only [State.ensureAbsent, hp, h.goAbsent_eq hp, hl, LoopRec.discard_off, same]

/-- A port made ABSENT when it is PRESENT, and its blocks discarded (R40). -/
theorem State.wired.discardBlocks_ensureAbsent {s : State} (h : s.wired) (p : Port) :
    (s.ensureAbsent p).discardBlocks p =
      (s.strike [p] []).putLoop (loopOf p) ((s.loop (loopOf p)).discard (stationOf p)) := by
  rcases (s.port p).presence_cases with hp | hp
  · rw [State.strike_none _ (by simpa using hp)]
    simp only [State.ensureAbsent, hp]
    rfl
  · simp only [State.ensureAbsent, hp, h.goAbsent_eq hp]
    simp [State.discardBlocks, LoopRec.discard_discard]

/-- An address taken off the list (R40). -/
theorem State.wired.removeStation_eq {s : State} (h : s.wired) (p : Port) : s.removeStation p =
    (s.strike [p] [p]).putLoop (loopOf p) ((s.loop (loopOf p)).discard (stationOf p)) := by
  rw [State.removeStation, h.discardBlocks_ensureAbsent, State.clearMiss_eq, State.strike_putLoop,
    State.strike_append _ (by simp)]
  rfl

section Lists

variable {s : State} {l : LoopNo} {sts : List Station}

/-- A station's port is none of the ports of others. -/
theorem portOf_apart {st : Station} (new : st ∉ sts) : ∀ p ∈ sts.map (portOf l), p ∉ [portOf l st] := by
  intro p hp hm
  obtain ⟨st', hst', rfl⟩ := List.mem_map.mp hp
  exact new (portOf_injective l (List.mem_singleton.mp hm) ▸ hst')

/-- The addresses taken off the list (R40). -/
theorem State.wired.foldl_removeStation (h : s.wired) (hs : sts.Nodup) :
    sts.foldl (fun s st => s.removeStation (portOf l st)) s =
      (s.strike (sts.map (portOf l)) (sts.map (portOf l))).putLoop l ((s.loop l).discardAll sts) := by
  induction sts generalizing s with
  | nil => simp [State.strike_none]
  | cons st sts ih =>
    obtain ⟨new, hs⟩ := List.nodup_cons.mp hs
    rw [List.foldl_cons, ih (h.removeStation _) hs, h.removeStation_eq, State.strike_putLoop, State.strike_append _ (portOf_apart new),
      loopOf_portOf, stationOf_portOf, State.putLoop_putLoop]
    simp [LoopRec.discard_eq_discardAll, LoopRec.discardAll_append]

/-- The ports of an emptied loop made ABSENT (R41). -/
theorem State.wired.foldl_ensureAbsent (h : s.wired) {poll : Table Bool 32} (hl : s.loop l = .off poll) (hs : sts.Nodup) :
    sts.foldl (fun s st => s.ensureAbsent (portOf l st)) s = s.strike (sts.map (portOf l)) [] := by
  induction sts generalizing s with
  | nil => simp [State.strike_none]
  | cons st sts ih =>
    obtain ⟨new, hs⟩ := List.nodup_cons.mp hs
    have first : s.ensureAbsent (portOf l st) = s.strike [portOf l st] [] := h.ensureAbsent_off (poll := poll) (by simpa)
    rw [List.foldl_cons, ih (h.ensureAbsent _) (by simpa [first] using hl) hs, first, State.strike_append _ (portOf_apart new)]
    rfl

/-- The Miss Counts of ports cleared (R41). -/
theorem State.foldl_clearMiss (s : State) (l : LoopNo) (sts : List Station) :
    sts.foldl (fun s st => s.clearMiss (portOf l st)) s = s.strike [] (sts.map (portOf l)) := by
  induction sts generalizing s with
  | nil => simp [State.strike_none]
  | cons st sts ih =>
    rw [List.foldl_cons, ih, State.clearMiss_eq, State.strike_append _ (by simp)]
    rfl

end Lists

/-- The stations that a list change removes (R40). -/
def LoopRec.removed (poll : Table Bool 32) (r : LoopRec) : List Station :=
  (List.finRange 32).filter (fun st => r.pollList.get st && !poll.get st)

/-- A loop's record after a list change (R40). -/
def LoopRec.changed (poll : Table Bool 32) (r : LoopRec) : LoopRec :=
  { r with pollList := poll, turn := r.keepTurn poll }.discardAll (r.removed poll)

/-- The stations on a loop's poll list. -/
def LoopRec.listed (r : LoopRec) : List Station := (List.finRange 32).filter r.pollList.get

theorem State.wired.changeList_eq {s : State} (h : s.wired) (l : LoopNo) (poll : Table Bool 32) : s.changeList l poll =
    (s.strike (((s.loop l).removed poll).map (portOf l)) (((s.loop l).removed poll).map (portOf l))).putLoop l
      ((s.loop l).changed poll) := by
  have nodup : ((s.loop l).removed poll).Nodup := (List.nodup_finRange 32).filter _
  refine (((State.kin.putLoop l _ s).wired h).foldl_removeStation nodup).trans ?_
  rw [State.strike_putLoop, State.putLoop_putLoop]
  simp [LoopRec.changed]

theorem State.wired.disableLoop_eq {s : State} (h : s.wired) (l : LoopNo) (poll : Table Bool 32) : s.disableLoop l poll =
    (s.strike ((s.loop l).listed.map (portOf l)) ((List.finRange 32).map (portOf l))).putLoop l (.off poll) := by
  have nodup : (s.loop l).listed.Nodup := (List.nodup_finRange 32).filter _
  have absent := ((State.kin.putLoop l (.off poll) s).wired h).foldl_ensureAbsent (l := l) (poll := poll) (by simp) nodup
  rw [State.disableLoop_eq, State.foldl_clearMiss]
  refine (congrArg _ absent).trans ?_
  rw [State.strike_append _ (by simp), State.strike_putLoop]
  simp

/-! ## SET LOOP on an enabled loop (R40, R41) -/

/-- The stations that SET LOOP takes off an enabled loop: the removed ones, or every listed one. -/
def LoopRec.struckOff (enable : Bool) (poll : Table Bool 32) (r : LoopRec) : List Station :=
  if enable then r.removed poll else r.listed

/-- The stations whose Miss Counts SET LOOP clears on an enabled loop. -/
def LoopRec.cleared (enable : Bool) (poll : Table Bool 32) (r : LoopRec) : List Station :=
  if enable then r.removed poll else List.finRange 32

/-- An enabled loop's record after SET LOOP. -/
def LoopRec.after (enable : Bool) (poll : Table Bool 32) (r : LoopRec) : LoopRec :=
  if enable then r.changed poll else .off poll

/-- What SET LOOP makes of an enabled loop and its ports (R40, R41). -/
def State.setEnabled (l : LoopNo) (enable : Bool) (poll : Table Bool 32) (s : State) : State :=
  (s.strike (((s.loop l).struckOff enable poll).map (portOf l)) (((s.loop l).cleared enable poll).map (portOf l))).putLoop l
    ((s.loop l).after enable poll)

theorem State.wired.setLoop_enabled {s : State} (h : s.wired) {l : LoopNo} (he : (s.loop l).enable = true) (enable : Bool)
    (poll : Table Bool 32) : s.setLoop l enable poll = s.setEnabled l enable poll := by
  cases enable with
  | true => simp only [State.setLoop, he, h.changeList_eq]; rfl
  | false => simp only [State.setLoop, he, h.disableLoop_eq]; rfl

theorem State.setEnabled_admitFrame (g : Frame) (l : LoopNo) (enable : Bool) (poll : Table Bool 32) (s : State) :
    (s.admitFrame g).setEnabled l enable poll = (s.setEnabled l enable poll).admitFrame g := by
  simp only [State.setEnabled, State.strike_admitFrame, State.loop_admitFrame, State.putLoop_admitFrame]

section Exec

variable {tag : Byte} {b : LoopBody} {l : LoopNo} {s t : State}

/-- A taken SET LOOP of good form (R40). -/
theorem execSetLoop_done (ht : s.takes ⟨16, tag, b.octets⟩ = true) (hl : l.val = b.loop.toNat) (he : b.enable.toNat < 2)
    (set : (s.admitFrame ⟨16, tag, b.octets⟩).setLoop l (decide (b.enable = 1)) (pollListOf b.poll) =
      t.admitFrame ⟨16, tag, b.octets⟩) :
    exec (.setLoop tag b) s = .next (t.replied ⟨16, tag, b.octets⟩ .done []) := by
  refine congrArg Host.Outcome.next (State.serve_replied rfl ht ?_)
  simp only [setLoopAct, below_eq hl, flagOf_eq he, set]
  rfl

/-- A taken SET LOOP on an enabled loop (R40, R41). -/
theorem execSetLoop_enabled (ht : s.takes ⟨16, tag, b.octets⟩ = true) (h : s.wired) (hl : l.val = b.loop.toNat)
    (enabled : (s.loop l).enable = true) (he : b.enable.toNat < 2) : exec (.setLoop tag b) s =
      .next ((s.setEnabled l (decide (b.enable = 1)) (pollListOf b.poll)).replied ⟨16, tag, b.octets⟩ .done []) := by
  refine execSetLoop_done ht hl he ?_
  have k : s.kin (s.admitFrame ⟨16, tag, b.octets⟩) := .of_eq rfl rfl rfl
  rw [(k.wired h).setLoop_enabled enabled, State.setEnabled_admitFrame]

/-- A taken SET LOOP on a loop that is not enabled, or of bad form (R40, R42). -/
theorem execSetLoop_notEnabled (ht : s.takes ⟨16, tag, b.octets⟩ = true) :
    (7 < b.loop.toNat ∨ 1 < b.enable.toNat →
      exec (.setLoop tag b) s = .next (s.replied ⟨16, tag, b.octets⟩ .badRequest [])) ∧
    (∀ (l : LoopNo) (poll : Table Bool 32), l.val = b.loop.toNat → (s.loop l).enable = false →
      (∀ st : Station, poll.get st = (b.poll.get ⟨st.val / 8, by omega⟩).toNat.testBit (st.val % 8)) →
      (b.enable = 1 → exec (.setLoop tag b) s = .next ((s.putLoop l { s.loop l with
        enable := true, pollList := poll, state := .idleCycle, position := none }).replied ⟨16, tag, b.octets⟩ .done [])) ∧
      (b.enable = 0 → exec (.setLoop tag b) s =
        .next ((s.putLoop l { s.loop l with pollList := poll }).replied ⟨16, tag, b.octets⟩ .done []))) := by
  refine ⟨fun bad => ?bad, fun l poll hl off hpoll => ?good⟩
  case bad =>
    refine congrArg Host.Outcome.next (State.serve_refused rfl ht ?_)
    unfold setLoopAct
    rcases bad with bad | bad
    · rw [below_none bad]
    · rw [flagOf_none bad]
      split <;> simp_all
  case good =>
    have hpoll : pollListOf b.poll = poll := Table.ext_get fun st => by
      rw [hpoll, pollListOf, Table.get_tabulate, octetBit_eq_testBit]
    subst hpoll
    refine ⟨fun enable => execSetLoop_done ht hl (by simp [enable]) ?_,
      fun enable => execSetLoop_done ht hl (by simp [enable]) ?_⟩
    · simp only [enable, decide_true, State.setLoop, State.loop_admitFrame, off]
      rfl
    · simp only [enable, State.setLoop, State.loop_admitFrame, off]
      rfl

end Exec

/-! ## Reading the state after SET LOOP -/

section Read

variable {s : State} {l : LoopNo} {enable : Bool} {poll : Table Bool 32} {r : LoopRec} {st : Station}

theorem LoopRec.mem_removed : st ∈ r.removed poll ↔ r.pollList.get st = true ∧ poll.get st = false := by
  simp [LoopRec.removed]

theorem LoopRec.mem_listed : st ∈ r.listed ↔ r.pollList.get st = true := by simp [LoopRec.listed]

theorem mem_map_portOf {sts : List Station} : portOf l st ∈ sts.map (portOf l) ↔ st ∈ sts :=
  List.mem_map_of_injective (portOf_injective l)

theorem not_mem_map_portOf {sts : List Station} {p : Port} (h : loopOf p ≠ l) : p ∉ sts.map (portOf l) := by
  intro hp
  obtain ⟨st, _, rfl⟩ := List.mem_map.mp hp
  exact h (loopOf_portOf l st)

@[simp] theorem State.loop_setEnabled : (s.setEnabled l enable poll).loop l = (s.loop l).after enable poll := by
  simp [State.setEnabled]

theorem State.port_setEnabled : (s.setEnabled l enable poll).port (portOf l st) =
    (s.port (portOf l st)).struck s.lapses (decide (st ∈ (s.loop l).struckOff enable poll))
      (decide (st ∈ (s.loop l).cleared enable poll)) := by
  simp [State.setEnabled, mem_map_portOf]

end Read

/-! ### The reply -/

@[simp] theorem State.loop_replied (s : State) (f : Frame) (code : Code) (data : List Byte) (l : LoopNo) :
    (s.replied f code data).loop l = s.loop l := by
  unfold State.replied
  split <;> rfl

@[simp] theorem State.port_replied (s : State) (f : Frame) (code : Code) (data : List Byte) (p : Port) :
    (s.replied f code data).port p = s.port p := by
  unfold State.replied
  split <;> rfl

/-- The reply waits in the arbiter, or goes on a line at rest (R193, R194). -/
theorem State.replied_sent (s : State) (f : Frame) (code : Code) (data : List Byte) :
    (s.replied f code data).reply = some ⟨f.kind, f.tag, code, data⟩ ∨
      (s.line = none ∧ (s.replied f code data).line = some (.reply ⟨f.kind, f.tag, code, data⟩)) := by
  unfold State.replied
  split
  case isTrue h => exact .inr ⟨h, rfl⟩
  case isFalse => exact .inl rfl

/-- SET LOOP leaves a line at rest only where it was at rest. -/
theorem State.line_setEnabled {s : State} {l : LoopNo} {enable : Bool} {poll : Table Bool 32}
    (h : (s.setEnabled l enable poll).line = none) : s.line = none :=
  State.line_of_strike s _ _ h

/-! ### The entries (R52, R81) -/

/-- The entry after the absence of some ports, by what it has at them: its challenge (`asked`), its own port (`seated`). -/
theorem Entry.fieldsWell.goneIn {e : Entry} (h : e.fieldsWell) {ps : List Port} {asked seated : Bool}
    (ha : asked = true ↔ ∃ c, e.challenge = some c ∧ c.port ∈ ps) (hs : seated = true ↔ ∃ q, e.bound = some q ∧ q ∈ ps) :
    (seated = false → asked = false → e.goneIn ps = e) ∧
    (seated = false → asked = true → e.goneIn ps = { e with
      challenge := none, state := if e.state = .challenged then .unbound else .admitted }) ∧
    (seated = true → e.liveCall ≠ none → e.goneIn ps = { e with overdue := some .absent }) ∧
    (seated = true → e.liveCall = none → e.goneIn ps = { e with
      challenge := if asked then none else e.challenge
      state := if e.state = .moving ∧ asked = false then .challenged else .unbound
      bound := none, refresh := none, refreshDue := false, overdue := none }) := by
  have standing : seated = false → ∀ q, e.bound = some q → q ∉ ps := fun hf q hq hm => by
    simp [hs.mpr ⟨q, hq, hm⟩] at hf
  have unasked : asked = false → ∀ c, e.challenge = some c → c.port ∉ ps := fun hf c hc hm => by
    simp [ha.mpr ⟨c, hc, hm⟩] at hf
  have keeps : asked = false → e.dropIn ps = e := fun hf => if_neg fun h => by
    obtain ⟨c, hc, hm⟩ := (Option.any_eq_true _ _).mp h
    exact unasked hf c hc (by simpa using hm)
  refine ⟨fun hf hn => Entry.goneIn_apart (unasked hn) (standing hf), fun hf hk => ?_, fun ht hl => ?_, fun ht hl => ?_⟩
  · obtain ⟨c, hc, hm⟩ := ha.mp hk
    rw [Entry.goneIn_challenged hc hm (standing hf), Entry.revert_eq (h.challenge.mp (by simp [hc]))]
  · obtain ⟨q, hq, hm⟩ := hs.mp ht
    obtain ⟨_, _, unchallenged, _⟩ := h.of_live (Option.isSome_iff_ne_none.mpr hl)
    have hn : asked = false := by
      by_contra hk
      obtain ⟨c, hc, _⟩ := ha.mp (by simpa using hk)
      simp [unchallenged] at hc
    rw [Entry.goneIn_bound hq hm, keeps hn, Entry.leave, if_pos (Option.isSome_iff_ne_none.mpr hl)]
  · obtain ⟨q, hq, hm⟩ := hs.mp ht
    have state := h.bound.mp (by simp [hq])
    rw [Entry.goneIn_bound hq hm]
    cases asked with
    | false =>
      rw [keeps rfl, Entry.leave, if_neg (by simp [hl]), Entry.released]
      rcases state with state | state <;> simp [state, AdmissionState.lapsed]
    | true =>
      obtain ⟨c, hc, hm'⟩ := ha.mp rfl
      have drop : e.dropIn ps = e.revert := if_pos (by simp [hc, hm'])
      have live : e.revert.liveCall = none := hl
      rw [drop, Entry.leave, if_neg (by simp [live]), Entry.released]
      rcases state with state | state <;> simp [state, Entry.revert, AdmissionState.lapsed]

/-! ### The ports and the items (R40, R41, R52) -/

theorem State.absenceItems_unbound {s : State} {p : Port} (hb : (s.port p).bound = none) :
    s.absenceItems p = [⟨.stationAbsent, p.val, []⟩] := by
  rw [State.absenceItems, hb]
  rfl

theorem State.absenceItems_bound {s : State} {p : Port} {ix : ExtIx} (hb : (s.port p).bound = some ix) :
    s.absenceItems p = ⟨.stationAbsent, p.val, []⟩ ::
      if (s.entry? ix).any (fun e : Entry => e.liveCall.isNone) then [⟨.lapsed, ix.val, numWord p.val ++ [1]⟩] else [] := by
  rw [State.absenceItems, hb]
  cases hl : s.lapses ix <;> simp_all [State.lapses, Item.stationAbsent, Item.lapsed, LapseCause.octet]

/-- The record of a port gone absent, field by field. -/
theorem PortRec.left_eq (lapses : ExtIx → Bool) (r : PortRec) : r.left lapses = { r with
    presence := .absent, hook := .on
    bound := r.bound.filter (fun ix => !lapses ix)
    dial := if r.dial = .dialling ∨ r.dial = .blocked then .idle else r.dial
    buffer := if r.dial = .dialling ∨ r.dial = .blocked then [] else r.buffer
    interdigit := if r.dial = .dialling ∨ r.dial = .blocked then none else r.interdigit } := by
  unfold PortRec.left PortRec.gone
  split <;> simp [*]

section Gone

variable {s : State} {l : LoopNo} {sts : List Station} {gone : Station → Bool}

/-- The PRESENT ones of the ports taken off, as stations. -/
theorem State.filter_isPresent (hg : ∀ st, gone st = true ↔ (s.port (portOf l st)).presence = .present ∧ st ∈ sts)
    (hs : sts = (List.finRange 32).filter (fun st => decide (st ∈ sts))) :
    (sts.map (portOf l)).filter s.isPresent = ((List.finRange 32).filter gone).map (portOf l) := by
  rw [List.filter_map]
  congr 1
  conv_lhs => rw [hs]
  rw [List.filter_filter]
  refine List.filter_congr fun st _ => ?_
  rw [Bool.eq_iff_iff, hg]
  simp [State.isPresent]

/-- A port is among those gone when it is one of the loop and its station is. -/
theorem mem_goneMap {p : Port} :
    p ∈ ((List.finRange 32).filter gone).map (portOf l) ↔ loopOf p = l ∧ gone (stationOf p) = true := by
  constructor
  · intro hp
    obtain ⟨st, hst, rfl⟩ := List.mem_map.mp hp
    simpa using (List.mem_filter.mp hst).2
  · rintro ⟨rfl, hp⟩
    exact List.mem_map.mpr ⟨stationOf p, by simpa using hp, portOf_loopOf p⟩

end Gone

theorem LoopRec.changed_eq (poll : Table Bool 32) (r : LoopRec) {removed : Station → Bool}
    (hr : ∀ st, removed st = true ↔ st ∈ r.removed poll) : r.changed poll = { r with
      pollList := poll
      turn := r.turn.filter (fun t => poll.get t.station)
      queue := r.queue.filter (fun q => !removed q.station)
      relayCount := r.relayCount - r.queue.countP (fun q => removed q.station && decide (q.block.origin = .relay)) } := by
  have member : ∀ st, decide (st ∈ r.removed poll) = removed st := fun st => by
    rw [Bool.eq_iff_iff, hr, decide_eq_true_iff]
  have turn : r.keepTurn poll = r.turn.filter (fun t => poll.get t.station) := by
    unfold LoopRec.keepTurn
    cases r.turn <;> simp [Option.filter_some]
  simp only [LoopRec.changed, LoopRec.discardAll, decide_not, member, turn]

/-! ## The obligation -/

/-- The reply to a SET LOOP on an enabled loop is sent, or waits for the line. -/
theorem State.replied_setEnabled_sent (s : State) (l : LoopNo) (enable : Bool) (poll : Table Bool 32) (f : Frame) :
    ((s.setEnabled l enable poll).replied f .done []).reply = some ⟨f.kind, f.tag, .done, []⟩ ∨
      (s.line = none ∧
        ((s.setEnabled l enable poll).replied f .done []).line = some (.reply ⟨f.kind, f.tag, .done, []⟩)) :=
  (State.replied_sent _ f .done []).imp_right fun ⟨line, sent⟩ => ⟨State.line_setEnabled line, sent⟩

/-- A loop disabled: its record, its ports' Miss Counts and its listed ports (R41). -/
theorem State.setEnabled_disabled (s : State) (l : LoopNo) (poll : Table Bool 32) :
    (s.setEnabled l false poll).loop l = .off poll ∧
    (∀ st : Station, ((s.setEnabled l false poll).port (portOf l st)).miss = 0) ∧
    (∀ st : Station, (s.loop l).pollList.get st = true →
      ((s.setEnabled l false poll).port (portOf l st)).presence = .absent) := by
  have cleared : ∀ st, decide (st ∈ (s.loop l).cleared false poll) = true := fun st => by simp [LoopRec.cleared]
  refine ⟨by simp [LoopRec.after], fun st => ?_, fun st listed => ?_⟩
  · rw [State.port_setEnabled, cleared]
    rfl
  · have off : decide (st ∈ (s.loop l).struckOff false poll) = true := by simpa [LoopRec.struckOff, LoopRec.mem_listed]
    rw [State.port_setEnabled, off]
    rcases (s.port (portOf l st)).presence_cases with hp | hp
    · rw [PortRec.struck_stays (.inr hp)]
      exact hp
    · rw [PortRec.struck_present hp]
      rfl

/-- A list change: what the loop keeps, and what becomes of the addresses removed and of those kept (R40). -/
theorem State.setEnabled_changed (s : State) (l : LoopNo) (poll : Table Bool 32) :
    (((s.setEnabled l true poll).loop l).enable = (s.loop l).enable ∧ ((s.setEnabled l true poll).loop l).pollList = poll ∧
      ((s.setEnabled l true poll).loop l).state = (s.loop l).state ∧
      ((s.setEnabled l true poll).loop l).position = (s.loop l).position) ∧
    (∀ st : Station, (s.loop l).pollList.get st = true → poll.get st = false →
      ((s.setEnabled l true poll).port (portOf l st)).presence = .absent ∧
      ((s.setEnabled l true poll).port (portOf l st)).miss = 0 ∧
      ∀ q ∈ ((s.setEnabled l true poll).loop l).queue, q.station ≠ st) ∧
    (∀ st : Station, poll.get st = true →
      (s.setEnabled l true poll).port (portOf l st) = s.port (portOf l st)) := by
  have loop : (s.setEnabled l true poll).loop l = (s.loop l).changed poll := by simp [LoopRec.after]
  have off : ∀ st, st ∈ (s.loop l).struckOff true poll ↔ (s.loop l).pollList.get st = true ∧ poll.get st = false :=
    fun st => LoopRec.mem_removed
  have port : ∀ st, (s.setEnabled l true poll).port (portOf l st) = (s.port (portOf l st)).struck s.lapses
      (decide (st ∈ (s.loop l).struckOff true poll)) (decide (st ∈ (s.loop l).struckOff true poll)) :=
    fun st => State.port_setEnabled
  refine ⟨?_, fun st listed out => ?_, fun st kept => ?_⟩
  · rw [loop]
    exact ⟨rfl, rfl, rfl, rfl⟩
  · have removed : st ∈ (s.loop l).removed poll := LoopRec.mem_removed.mpr ⟨listed, out⟩
    rw [port, decide_eq_true ((off st).mpr ⟨listed, out⟩), loop]
    refine ⟨?_, rfl, ?_⟩
    · rcases (s.port (portOf l st)).presence_cases with hp | hp
      · rw [PortRec.struck_stays (.inr hp)]
        exact hp
      · rw [PortRec.struck_present hp]
        rfl
    · rintro q hq rfl
      exact of_decide_eq_true (List.mem_filter.mp hq).2 removed
  · rw [port, decide_eq_false fun h => by simp [((off st).mp h).2] at kept]
    rfl

theorem LoopRec.mem_struckOff {enable : Bool} {poll : Table Bool 32} {r : LoopRec} {st : Station} :
    st ∈ r.struckOff enable poll ↔
      if enable then r.pollList.get st = true ∧ poll.get st = false else r.pollList.get st = true := by
  cases enable
  · exact LoopRec.mem_listed
  · exact LoopRec.mem_removed

theorem LoopRec.mem_cleared {enable : Bool} {poll : Table Bool 32} {r : LoopRec} {st : Station} :
    st ∈ r.cleared enable poll ↔ enable = false ∨ r.pollList.get st = true ∧ poll.get st = false := by
  cases enable
  · simp [LoopRec.cleared]
  · simpa [LoopRec.cleared] using LoopRec.mem_removed

/-- The stations taken off are taken off in ascending order (assumption 11). -/
theorem LoopRec.struckOff_ascending (enable : Bool) (poll : Table Bool 32) (r : LoopRec) :
    r.struckOff enable poll = (List.finRange 32).filter (fun st => decide (st ∈ r.struckOff enable poll)) := by
  cases enable
  · exact List.filter_congr fun st _ => by simp [LoopRec.struckOff, LoopRec.mem_listed]
  · exact List.filter_congr fun st _ => by
      rw [Bool.eq_iff_iff, decide_eq_true_iff]
      exact (by simp : _ ↔ _).trans LoopRec.mem_removed.symm

section Full

variable {s : State} {l : LoopNo} {enable : Bool} {poll : Table Bool 32} {gone : Station → Bool}

/-- The port table after SET LOOP on an enabled loop. -/
def State.struckPorts (s : State) (l : LoopNo) (enable : Bool) (poll : Table Bool 32) : Table PortRec 256 :=
  s.ports.imap (fun p r => r.struck s.lapses (decide (p ∈ ((s.loop l).struckOff enable poll).map (portOf l)))
    (decide (p ∈ ((s.loop l).cleared enable poll).map (portOf l))))

/-- SET LOOP on an enabled loop, by the stations whose ports go absent. -/
theorem State.setEnabled_eq (hg : ∀ st, gone st = true ↔
      (s.port (portOf l st)).presence = .present ∧ st ∈ (s.loop l).struckOff enable poll) :
    s.setEnabled l enable poll = ({ s with
        directory := s.directory.map (Option.map (Entry.goneIn (((List.finRange 32).filter gone).map (portOf l))))
        ports := s.struckPorts l enable poll }.putLoop l ((s.loop l).after enable poll)).raiseAll
      (((List.finRange 32).filter gone).flatMap (fun st => s.absenceItems (portOf l st))) := by
  rw [State.setEnabled, State.strike, State.filter_isPresent hg (LoopRec.struckOff_ascending _ _ _), List.flatMap_map]
  exact State.raiseAll_comm _ _ (f := State.putLoop l _) fun _ _ => rfl

theorem State.struckPorts_elsewhere {p : Port} (h : loopOf p ≠ l) : (s.struckPorts l enable poll).get p = s.port p := by
  rw [State.struckPorts, Table.get_imap, decide_eq_false (not_mem_map_portOf h), decide_eq_false (not_mem_map_portOf h)]
  rfl

theorem State.struckPorts_portOf (st : Station) : (s.struckPorts l enable poll).get (portOf l st) =
    (s.port (portOf l st)).struck s.lapses (decide (st ∈ (s.loop l).struckOff enable poll))
      (decide (st ∈ (s.loop l).cleared enable poll)) := by
  rw [State.struckPorts, Table.get_imap]
  simp only [mem_map_portOf]
  rfl

end Full

/-- Settles O28: an enabled loop by the ports struck off it, any other by its record alone. -/
theorem setLoopByTheLoopsEnable : Obligations.SetLoopByTheLoopsEnable := by
  refine ⟨fun tag b s ht => execSetLoop_notEnabled ht, fun tag b l s ht wired hl enabled => ⟨fun he => ?off, fun he => ?kept⟩,
    fun tag b l poll removed gone s ht wired hl enabled he hpoll hr hg => ?full⟩
  case off =>
    have done := execSetLoop_enabled ht wired hl enabled (by simp [he])
    rw [he, decide_eq_false (by decide)] at done
    obtain ⟨loop, miss, absent⟩ := s.setEnabled_disabled l (pollListOf b.poll)
    exact ⟨_, done, s.replied_setEnabled_sent _ _ _ _, (State.loop_replied _ _ _ _ _).trans loop, by simpa using miss, by simpa using absent⟩
  case kept =>
    have done := execSetLoop_enabled ht wired hl enabled (by simp [he])
    rw [he, decide_eq_true rfl] at done
    obtain ⟨loop, out, kept⟩ := s.setEnabled_changed l (pollListOf b.poll)
    refine ⟨_, done, s.replied_setEnabled_sent _ _ _ _, ?_, ?_, fun st _ hk => ?_⟩
    · simpa [enabled] using loop
    · simpa using out
    · simp [kept st hk]
  case full =>
    have flag : b.enable = 0 ∨ b.enable = 1 := by bv_omega
    have off : ∀ st, st ∈ (s.loop l).struckOff (decide (b.enable = 1)) poll ↔
        if b.enable = 1 then removed st = true else (s.loop l).pollList.get st = true := fun st => by
      rw [LoopRec.mem_struckOff]
      simp only [decide_eq_true_eq, hr]
    have cleared : ∀ st, st ∈ (s.loop l).cleared (decide (b.enable = 1)) poll ↔ b.enable = 0 ∨ removed st = true :=
      fun st => by
        rw [LoopRec.mem_cleared, hr]
        rcases flag with h | h <;> simp [h]
    have done := execSetLoop_enabled ht wired hl enabled (by omega)
    rw [← hpoll, State.setEnabled_eq fun st => (hg st).trans (and_congr_right fun _ => (off st).symm)] at done
    refine ⟨s.directory.map (Option.map (Entry.goneIn (((List.finRange 32).filter gone).map (portOf l)))),
      s.struckPorts l (decide (b.enable = 1)) poll, (s.loop l).after (decide (b.enable = 1)) poll, done.trans ?items,
      fun he => ?disabled, fun he => ?changed, fun p hp => State.struckPorts_elsewhere hp, ?stays, ?goes, ?added,
      fun ix he => ?free, fun ix e asked seated he ha hs => ?entry⟩
    case items =>
      congr 4
      funext st
      cases hb : (s.port (portOf l st)).bound with
      | none => exact State.absenceItems_unbound hb
      | some ix => exact State.absenceItems_bound hb
    case disabled =>
      rw [he]
      rfl
    case changed =>
      rw [he]
      exact LoopRec.changed_eq poll (s.loop l) fun st => (hr st).trans LoopRec.mem_removed.symm
    case stays =>
      rintro st p rfl hst
      have absent : decide (st ∈ (s.loop l).struckOff (decide (b.enable = 1)) poll) = false ∨
          (s.port (portOf l st)).presence = .absent := by
        rcases (s.port (portOf l st)).presence_cases with hp | hp
        · exact .inr hp
        · refine .inl (decide_eq_false fun h => ?_)
          simp [(hg st).mpr ⟨hp, (off st).mp h⟩] at hst
      rw [State.struckPorts_portOf, PortRec.struck_stays absent]
      simp only [cleared, decide_eq_true_eq]
    case goes =>
      rintro st p rfl hst
      obtain ⟨present, struck⟩ := (hg st).mp hst
      have clear : b.enable = 0 ∨ removed st = true := flag.imp_right fun h => by simpa [h] using struck
      rw [State.struckPorts_portOf, decide_eq_true ((off st).mpr struck), decide_eq_true ((cleared st).mpr clear),
        PortRec.struck_present present, PortRec.left_eq]
      rfl
    case added =>
      intro well he st unlisted _
      have kept : ¬ removed st = true := fun h => by simp [((hr st).mp h).1] at unlisted
      rw [State.struckPorts_portOf, decide_eq_false fun h => kept (by simpa [he] using (off st).mp h),
        decide_eq_false fun h => kept (((cleared st).mp h).resolve_left (by simp [he]))]
      exact well.unlisted l st (.inr unlisted)
    case free =>
      rw [Table.get_map]
      exact congrArg (Option.map _) he
    case entry =>
      have get : (s.directory.map (Option.map (Entry.goneIn (((List.finRange 32).filter gone).map (portOf l))))).get ix =
          some (e.goneIn (((List.finRange 32).filter gone).map (portOf l))) := by
        rw [Table.get_map]
        exact congrArg (Option.map _) he
      rw [get]
      simp only [Option.some.injEq]
      exact (wired.fields ix e he).goneIn (by simpa only [mem_goneMap] using ha) (by simpa only [mem_goneMap] using hs)

end Sys2Proof.Machine

/-!
PROOFS. The admission unit's own procedures: denials, releases, lapses and locks (O19; R63, R64, R66, R81).
-/

namespace Sys2Proof.Machine

/-! ## The class table beside the unit's operations -/

theorem AdmissionOnly.classes {s t : State} (h : AdmissionOnly s t) : t.classes = s.classes := by
  obtain ⟨_, _, _, _, _, rfl⟩ := h
  rfl

@[simp] theorem State.classes_offer (s : State) (p : Port) (b : OutBlock) : (s.offer p b).classes = s.classes :=
  (AdmissionOnly.offer p b s).classes

/-! ## Denials (R63, R85) -/

/-- A PRESENT port is denied (R63). -/
theorem State.deny_present {s : State} {p : Port} (h : (s.port p).presence = .present) (reason : DenyReason)
    (ix : Option ExtIx) : s.deny p reason ix = s.denied p reason (reason.octet :: idWord (ix.map Fin.val)) := by
  simp only [State.deny, h]
  rfl

/-- A denial by the presence of its port (R63). -/
theorem State.deny_eq (s : State) (p : Port) (reason : DenyReason) (ix : Option ExtIx) : s.deny p reason ix =
    if (s.port p).presence = .present then s.denied p reason (reason.octet :: idWord (ix.map Fin.val)) else s := by
  split
  case isTrue h => exact State.deny_present h reason ix
  case isFalse h => simp only [State.deny, (s.port p).presence_cases.resolve_right h]

@[simp] theorem State.port_denied (s : State) (p : Port) (reason : DenyReason) (detail : List Byte) (q : Port) :
    (s.denied p reason detail).port q = s.port q := by
  simp [State.denied]

@[simp] theorem State.classes_denied (s : State) (p : Port) (reason : DenyReason) (detail : List Byte) :
    (s.denied p reason detail).classes = s.classes := by
  simp [State.denied]

/-- An entry without a pending challenge is left as it is by a denial (R59). -/
theorem State.entry_denied_unchallenged {s : State} {ix : ExtIx} {e : Entry} (he : s.entry? ix = some e)
    (hc : e.challenge = none) (p : Port) (reason : DenyReason) (detail : List Byte) :
    (s.denied p reason detail).entry? ix = some e :=
  State.entry_offer_unchallenged he hc p _

/-! ## Releases and lapses (R64, R69, R81) -/

/-- A released binding, and the entry's record changed with it: one write of the entry and one of its port (R64). -/
theorem State.releaseBinding_modEntry {s : State} {ix : ExtIx} {e : Entry} {q : Port} (he : s.entry? ix = some e)
    (hb : e.bound = some q) (f : Entry → Entry) :
    (s.releaseBinding ix).modEntry ix f = (s.putEntry ix (some (f e.released))).putPort q (s.port q).unbind := by
  rw [State.releaseBinding_bound he hb, State.modEntry_eq, State.entry_putPort, State.entry_putEntry_self]
  show (((s.putEntry ix _).putEntry ix _).putPort q _) = _
  rw [State.putEntry_putEntry]
  rfl

/-- What a lapse makes of a bound entry's state (R69, R81). -/
theorem AdmissionState.lapsed_eq {a : AdmissionState} (h : a = .admitted ∨ a = .moving) :
    a.lapsed = if a = .admitted then .unbound else .challenged := by
  rcases h with rfl | rfl <;> rfl

/-- A lapse while a call is live is deferred (R81). -/
theorem State.lapse_live {s : State} {ix : ExtIx} {e : Entry} (he : s.entry? ix = some e) (hl : e.liveCall ≠ none)
    (cause : LapseCause) : s.lapse ix cause = s.putEntry ix (some { e with overdue := some cause }) := by
  simp [State.lapse, he, Option.isSome_iff_ne_none.mpr hl]

/-- A lapse without a live call (R81). -/
theorem State.lapse_idle {s : State} {ix : ExtIx} {e : Entry} {q : Port} (he : s.entry? ix = some e)
    (hl : e.liveCall = none) (hb : e.bound = some q) (cause : LapseCause) : s.lapse ix cause =
      (((s.putEntry ix (some { e.released with state := e.state.lapsed })).putPort q (s.port q).unbind).offer q
        (.notice .reregister)).raise (.lapsed ix q cause) := by
  have released := State.releaseBinding_modEntry he hb fun e => { e with state := e.state.lapsed }
  simp only [State.lapse, he, hl, hb, released]
  rfl

/-! ## The locking procedure (R66) -/

theorem State.lockChallenge_none {s : State} {ix : ExtIx} {e : Entry} (he : s.entry? ix = some e)
    (hc : e.challenge = none) : s.lockChallenge ix = s := by
  simp [State.lockChallenge, he, hc]

/-- Step 1 of the locking procedure: the challenge's port is denied when it is PRESENT (R63, R66). -/
theorem State.lockChallenge_some {s : State} {ix : ExtIx} {e : Entry} {c : Challenge} (he : s.entry? ix = some e)
    (hc : e.challenge = some c) : s.lockChallenge ix =
      ((s.withdraw c.port c.nonce).putEntry ix (some { e with challenge := none })).deny c.port .locked (some ix) := by
  simp [State.lockChallenge, he, hc]

/-- Steps 3 and 4 of the locking procedure (R66). -/
theorem State.lockEntry_some {s : State} {ix : ExtIx} {e : Entry} (he : s.entry? ix = some e) : s.lockEntry ix =
    (s.putEntry ix (some (e.lockedFor (s.classes.get e.cls).lockPeriod))).raise
      (.locked ix (s.classes.get e.cls).lockPeriod) := by
  simp only [State.lockEntry, he]
  rfl

/-- Steps 2 to 4 of the locking procedure on an entry bound nowhere (R66). -/
theorem State.lock_unbound {s : State} {ix : ExtIx} {e : Entry} (he : s.entry? ix = some e) (hb : e.bound = none) :
    (s.lockBinding ix).lockEntry ix = (s.putEntry ix (some (e.lockedFor (s.classes.get e.cls).lockPeriod))).raise
      (.locked ix (s.classes.get e.cls).lockPeriod) := by
  have unbound : s.lockBinding ix = s := by simp [State.lockBinding, he, hb]
  rw [unbound, State.lockEntry_some he]

/-- Steps 2 to 4 of the locking procedure on a bound entry: the NOTICE leaves the released entry as it is, since its
challenge is gone (R66). -/
theorem State.lock_bound {s : State} {ix : ExtIx} {e : Entry} {q : Port} (he : s.entry? ix = some e)
    (hb : e.bound = some q) (hc : e.challenge = none) : (s.lockBinding ix).lockEntry ix =
      ((((s.putEntry ix (some e.released)).putPort q (s.port q).unbind).offer q (.notice .reregister)).putEntry ix
        (some (e.released.lockedFor (s.classes.get e.cls).lockPeriod))).raise
          (.locked ix (s.classes.get e.cls).lockPeriod) := by
  have released : s.lockBinding ix =
      ((s.putEntry ix (some e.released)).putPort q (s.port q).unbind).offer q (.notice .reregister) := by
    simp [State.lockBinding, he, hb, State.releaseBinding_bound he hb]
  have own : (((s.putEntry ix (some e.released)).putPort q (s.port q).unbind).offer q (.notice .reregister)).entry? ix =
      some e.released := State.entry_offer_unchallenged
    ((State.entry_putPort _ _ _ _).trans (s.entry_putEntry_self ix (some e.released))) hc _ _
  rw [released, State.lockEntry_some own, State.classes_offer]
  rfl

/-- Settles O19: the lapse by the live call, the locking procedure by the challenge and then by the binding. -/
theorem lapsesAndLocksReleaseBindings : Obligations.LapsesAndLocksReleaseBindings := by
  refine ⟨⟨fun s ix e cause he hl => State.lapse_live he hl cause, ?lapse⟩, ?unchallenged, ?challenged⟩
  case lapse =>
    intro s ix e q cause he hl hb hs
    rw [State.lapse_idle he hl hb, AdmissionState.lapsed_eq hs]
    rfl
  case unchallenged =>
    rintro ix e _ _ s he hc rfl rfl
    have lockOut : s.lockOut ix = (s.lockBinding ix).lockEntry ix := by
      rw [State.lockOut, State.lockChallenge_none he hc]
    exact ⟨fun hb => lockOut.trans (State.lock_unbound he hb), fun q hb => lockOut.trans (State.lock_bound he hb hc)⟩
  case challenged =>
    rintro ix e _ c _ s cleared he hc rfl rfl hcleared
    have step : s.lockChallenge ix = cleared := by
      rw [State.lockChallenge_some he hc, State.deny_eq, hcleared]
      rfl
    have lockOut : s.lockOut ix = (cleared.lockBinding ix).lockEntry ix := by rw [State.lockOut, step]
    obtain ⟨own, port, classes⟩ : cleared.entry? ix = some { e with challenge := none } ∧
        (∀ q, cleared.port q = s.port q) ∧ cleared.classes = s.classes := by
      have own := (s.withdraw c.port c.nonce).entry_putEntry_self ix (some { e with challenge := none })
      subst hcleared
      split
      case isTrue => exact ⟨State.entry_denied_unchallenged own rfl _ _ _, fun q => by simp, by simp; rfl⟩
      case isFalse => exact ⟨own, fun q => rfl, rfl⟩
    rw [lockOut, ← classes]
    refine ⟨fun hb => State.lock_unbound own hb, fun q hb => ?_⟩
    rw [State.lock_bound own hb rfl, port]
    rfl

end Sys2Proof.Machine

/-!
PROOFS. CHECK-IN and the refresh (O39; R79, R80), answers and the answer time (O37, O38; R74 to R78).
-/

namespace Sys2Proof.Machine

/-! ## A block taken by its unit (R49) -/

@[simp] theorem State.entry_blockTaken (s : State) (ix : ExtIx) : s.blockTaken.entry? ix = s.entry? ix := rfl

@[simp] theorem State.port_blockTaken (s : State) (p : Port) : s.blockTaken.port p = s.port p := rfl

@[simp] theorem State.challengeAt_blockTaken (s : State) (p : Port) : s.blockTaken.challengeAt p = s.challengeAt p := rfl

/-- Taking a block touches neither the directory, nor the ports, nor the calls. -/
theorem State.wired.blockTaken {s : State} (h : s.wired) : s.blockTaken.wired :=
  (State.kin.of_eq (s := s) (t := s.blockTaken) rfl rfl rfl).wired h

/-- A denial of a block just taken: its port is PRESENT (R63). -/
theorem State.blockArrives.deny {s : State} {p : Port} {b : StationBlock} (h : s.blockArrives p b) (reason : DenyReason)
    (ix : Option ExtIx) :
    s.blockTaken.deny p reason ix = s.blockTaken.denied p reason (reason.octet :: idWord (ix.map Fin.val)) :=
  State.deny_present (s := s.blockTaken) h.2 reason ix

/-! ## CHECK-IN and the refresh (R79, R80) -/

/-- A home port away from a port, as the model tests it (R68, R79). -/
theorem home_away_iff {home : Option Port} {p : Port} :
    home.any (fun h => decide (h ≠ p)) = true ↔ ¬ (home = none ∨ home = some p) := by
  cases home <;> simp

/-- A CHECK-IN taken at a port (R79). -/
theorem State.blockArrives.checkIn {s : State} {p : Port} (h : s.blockArrives p .checkIn) :
    exec (.checkIn p) s = .next (s.blockTaken.checkInBlock p) :=
  congrArg Host.Outcome.next (h.takeBlock _)

/-- Settles O39: CHECK-IN by what is bound at its port, and the refresh that is due. -/
theorem checkInReloadsAndRefreshExpiryLapses : Obligations.CheckInReloadsAndRefreshExpiryLapses := by
  refine ⟨fun p s arrives => ⟨fun hb => ?unbound, fun x e hb he hs => ?moving, fun x e hb he hs => ?admitted⟩,
    fun x e s he due => ?expiry⟩
  case unbound =>
    rw [arrives.checkIn, State.checkInBlock, State.port_blockTaken, hb, arrives.deny]
    rfl
  case moving =>
    rw [arrives.checkIn, State.checkInBlock, State.port_blockTaken, hb]
    simp only [State.entry_blockTaken, he, hs, reduceCtorEq, if_false, arrives.deny]
    rfl
  case admitted =>
    rw [arrives.checkIn, State.checkInBlock, State.port_blockTaken, hb]
    simp only [State.entry_blockTaken, he, hs, if_true, Entry.checkIn, home_away_iff, ite_not]
    rfl
  case expiry =>
    show Host.Outcome.next (s.refreshEnd x) = _
    simp only [State.refreshEnd, he, due, if_true]

/-! ## Counted failures (R65) -/

/-- A counted failure that does not lock (R65). -/
theorem State.countFailure_below {s : State} {ix : ExtIx} {e : Entry} (he : s.entry? ix = some e)
    (h : e.liveCall ≠ none ∨ min 15 (e.failures + 1) < (s.classes.get e.cls).threshold) :
    s.countFailure ix = s.putEntry ix (some { e with failures := min 15 (e.failures + 1) }) := by
  have below : ¬ (e.liveCall = none ∧ (s.classes.get e.cls).threshold ≤ min 15 (e.failures + 1)) :=
    fun k => h.elim (fun hl => hl k.1) (Nat.not_lt.mpr k.2)
  simp only [State.countFailure, he, Bool.and_eq_true, Option.isNone_iff_eq_none, decide_eq_true_eq]
  exact if_neg below

/-- A counted failure at the threshold, with no call live, locks (R65). -/
theorem State.countFailure_locks {s : State} {ix : ExtIx} {e : Entry} (he : s.entry? ix = some e) (hl : e.liveCall = none)
    (h : (s.classes.get e.cls).threshold ≤ min 15 (e.failures + 1)) :
    s.countFailure ix = (s.putEntry ix (some { e with failures := min 15 (e.failures + 1) })).lockOut ix := by
  simp only [State.countFailure, he, Bool.and_eq_true, Option.isNone_iff_eq_none, decide_eq_true_eq]
  exact if_pos ⟨hl, h⟩

/-- A counted failure of an entry just written, with no call live: it locks at the threshold (R65). -/
theorem State.countFailure_putEntry (s : State) (x : ExtIx) {e : Entry} (live : e.liveCall = none) :
    (s.putEntry x (some e)).countFailure x =
      if min 15 (e.failures + 1) < (s.classes.get e.cls).threshold
        then s.putEntry x (some { e with failures := min 15 (e.failures + 1) })
        else (s.putEntry x (some { e with failures := min 15 (e.failures + 1) })).lockOut x := by
  have own := s.entry_putEntry_self x (some e)
  split
  case isTrue below => rw [State.countFailure_below own (.inr below), State.putEntry_putEntry]
  case isFalse reached =>
    rw [State.countFailure_locks own live (Nat.not_lt.mp reached), State.putEntry_putEntry]

/-! ## Answers (R74 to R78) -/

/-- An ANSWER taken at a port (R75). -/
theorem State.blockArrives.answer {s : State} {p : Port} {response : Long} (h : s.blockArrives p (.answer response)) :
    exec (.answer p response) s = .next (s.blockTaken.answerBlock p response) :=
  congrArg Host.Outcome.next (h.takeBlock _)

/-- The challenge of the entry found at a port is pending there. -/
theorem State.challengeAt_port {s : State} {p : Port} {x : ExtIx} {e : Entry} {c : Challenge}
    (hx : s.challengeAt p = some x) (he : s.entry? x = some e) (hc : e.challenge = some c) : c.port = p := by
  obtain ⟨d, k, hd, hk, hp⟩ := State.challengeAt_found hx
  cases hd.symm.trans he
  cases hk.symm.trans hc
  exact hp

section Answered

variable {s : State} {p : Port} {x : ExtIx} {e : Entry} {c : Challenge} {response : Long}

/-- An ANSWER to a challenge that was sent is compared with the expected response (R28, R75). -/
theorem State.answerBlock_sent (hx : s.challengeAt p = some x) (he : s.entry? x = some e) (hc : e.challenge = some c)
    (sent : c.remaining ≠ none) : s.answerBlock p response =
      if response = expectedResponse c.nonce e.secret then s.matchingAnswer p x e else s.mismatch p .badAnswer x e := by
  simp only [State.answerBlock, hx, he, hc, if_neg sent]

/-- A challenge that ends without its answer at a PRESENT port: the denial leaves the entry as it is, since its challenge is
gone (R74, R78). -/
theorem State.mismatch_present (s : State) (present : (s.port p).presence = .present) (reason : DenyReason) (x : ExtIx)
    (e : Entry) : s.mismatch p reason x e =
      (((s.putEntry x (some { e with challenge := none })).denied p reason (reason.octet :: numWord x.val)).putEntry x
        (some e.revert)).countFailure x := by
  unfold State.mismatch
  rw [State.deny_present (s := s.putEntry x _) present, State.modEntry_eq,
    State.entry_denied_unchallenged (s.entry_putEntry_self x (some { e with challenge := none })) rfl]
  rfl

/-- The failure that a challenge without its answer counts: with no call live, it locks at the threshold (R65, R78). -/
theorem State.wired.mismatch_eq (h : s.wired) (he : s.entry? x = some e) (hc : e.challenge = some c)
    (present : (s.port p).presence = .present) (reason : DenyReason) {t : State}
    (ht : t = ((s.putEntry x (some { e with challenge := none })).denied p reason (reason.octet :: numWord x.val)).putEntry x
      (some { e with
        challenge := none, failures := min 15 (e.failures + 1)
        state := if e.state = .challenged then .unbound else .admitted })) :
    s.mismatch p reason x e = if min 15 (e.failures + 1) < (s.classes.get e.cls).threshold then t else t.lockOut x := by
  have fields := h.fields x e he
  obtain ⟨-, live, -, -⟩ := fields.of_challenge hc
  rw [s.mismatch_present present, State.countFailure_putEntry (e := e.revert) _ x live, State.classes_denied,
    Entry.revert_eq (fields.challenge.mp (by simp [hc])), ht]
  rfl

end Answered

/-- Settles O38: no challenge to answer, a response that differs, and a time that has run out. -/
theorem failedAnswersCountFailures : Obligations.FailedAnswersCountFailures := by
  refine ⟨fun p response s arrives => ⟨fun hx => ?none, fun x e c hx he hc unsent => ?unsent⟩, ?failed⟩
  case none =>
    rw [arrives.answer, State.answerBlock, State.challengeAt_blockTaken, hx, arrives.deny]
    rfl
  case unsent =>
    simp only [arrives.answer, State.answerBlock, State.challengeAt_blockTaken, hx, State.entry_blockTaken, he, hc, unsent,
      if_true, arrives.deny]
    rfl
  case failed =>
    rintro p x e c _ s wired hx he hc present rfl
    refine ⟨fun response arrives sent differs => ⟨_, rfl, ?_⟩, fun expired => ⟨_, rfl, ?_⟩⟩
    · have answered : s.blockTaken.answerBlock p response = s.blockTaken.mismatch p .badAnswer x e :=
        (State.answerBlock_sent (s := s.blockTaken) hx he hc sent).trans (if_neg differs)
      rw [arrives.answer, answered, wired.blockTaken.mismatch_eq he hc present .badAnswer rfl]
      rfl
    · show Host.Outcome.next (s.answerExpiry x) = _
      simp only [State.answerExpiry, he, hc, expired, if_true, State.challengeAt_port hx he hc,
        wired.mismatch_eq he hc present .timeout rfl]
      rfl

/-! ## A matching ANSWER (R76, R77) -/

/-- A matching ANSWER for a CHALLENGED entry (R76). -/
theorem State.matchingAnswer_challenged {e : Entry} (hs : e.state = .challenged) (p : Port) (x : ExtIx) (s : State) :
    s.matchingAnswer p x e = ((s.putEntry x (some e.answered)).bind p x).raise (.admitted x p) := by
  simp only [State.matchingAnswer, hs]

/-- A matching ANSWER for a MOVING entry (R77). -/
theorem State.matchingAnswer_moving {e : Entry} {q : Port} (hs : e.state = .moving) (hb : e.bound = some q) (p : Port)
    (x : ExtIx) (s : State) : s.matchingAnswer p x e =
      ((((s.putEntry x (some e.answered)).leaveOldPort x q).bind p x).raise (.moved x q p)).raise (.admitted x p) := by
  simp only [State.matchingAnswer, hs, hb]

/-- Settles O37: the CHALLENGED entry is bound at once; the MOVING one leaves its old port first, and the NOTICE there does
not touch it, since its challenge is gone. -/
theorem matchingAnswerAdmits : Obligations.MatchingAnswerAdmits := by
  rintro p x e c response _ s arrives hx he hc sent hr rfl
  have answered : exec (.answer p response) s = .next (s.blockTaken.matchingAnswer p x e) := by
    rw [arrives.answer, State.answerBlock_sent (s := s.blockTaken) hx he hc sent]
    exact congrArg _ (if_pos hr)
  have own := s.blockTaken.entry_putEntry_self x (some e.answered)
  refine ⟨fun hs => ?challenged, fun q hs hb hq idle => ?moving⟩
  case challenged =>
    rw [answered, State.matchingAnswer_challenged hs, State.bind_eq own, State.putEntry_putEntry]
    rfl
  case moving =>
    have left : (s.blockTaken.putEntry x (some e.answered)).leaveOldPort x q =
        ((s.blockTaken.putEntry x (some e.answered.released)).putPort q { s.port q with bound := none }).offer q
          (.notice .moved) := by
      rw [State.leaveOldPort, State.releaseBinding_bound own hb, State.putEntry_putEntry]
      simp [PortRec.unbind, idle]
    have gone : (((s.blockTaken.putEntry x (some e.answered.released)).putPort q { s.port q with bound := none }).offer q
        (.notice .moved)).entry? x = some e.answered.released :=
      State.entry_offer_unchallenged
        ((State.entry_putPort _ _ _ _).trans (s.blockTaken.entry_putEntry_self x (some e.answered.released))) rfl _ _
    rw [answered, State.matchingAnswer_moving hs hb, left, State.bind_eq gone, State.offer_port, State.port_putPort,
      if_neg (Ne.symm hq), State.classOf, State.classes_offer]
    rfl

end Sys2Proof.Machine

/-!
PROOFS. REGISTER: its denials (O34), its challenges (O35), re-registration, moving and port takeover (O36); R67 to R73.
-/

namespace Sys2Proof.Table

variable {α : Type} {n : Nat} {p : α → Bool}

/-- The position found is the first that passes the test. -/
theorem find?_eq_some_iff {t : Table α n} {i : Fin n} :
    t.find? p = some i ↔ p (t.get i) = true ∧ ∀ j, j < i → p (t.get j) = false := by
  obtain ⟨tc, ts⟩ := t
  subst ts
  simp [find?, get, List.findFinIdx?_eq_some_iff]

/-- Tables whose records pass the test at the same positions have the same position found. -/
theorem find?_congr {t u : Table α n} (h : ∀ i, p (t.get i) = p (u.get i)) : t.find? p = u.find? p :=
  Option.ext fun i => by simp only [find?_eq_some_iff, h]

/-- A record replaced by one that fares alike in the test leaves the position found as it is. -/
theorem find?_set {t : Table α n} {i : Fin n} {a : α} (h : p a = p (t.get i)) : (t.set i a).find? p = t.find? p :=
  find?_congr fun j => by
    by_cases hj : j = i
    · rw [hj, get_set_self, h]
    · rw [get_set_ne _ _ hj]

end Sys2Proof.Table

namespace Sys2Proof.Machine

/-! ## The entry a REGISTER names, and the challenge at its port (R1, R67) -/

/-- The only holder of a number is found by it. -/
theorem State.onlyHolder.findNumber {s : State} {x : ExtIx} {e : Entry} {number : List Digit}
    (h : s.onlyHolder x e number) : s.findNumber number = some x := by
  obtain ⟨he, hn, only⟩ := h
  refine Table.find?_unique ?_ fun j hj => ?_
  · rw [show s.directory.get x = some e from he]
    simp [Entry.holds, hn]
  · cases hd : s.directory.get j with
    | none => simp [hd, Entry.holds] at hj
    | some d => exact only j d hd (by simpa [hd, Entry.holds] using hj)

/-- A number that no entry holds is not found. -/
theorem State.findNumber_none {s : State} {number : List Digit} (h : ∀ ix e, s.entry? ix = some e → e.number ≠ number) :
    s.findNumber number = none := by
  cases hx : s.findNumber number with
  | none => rfl
  | some x =>
    have holds := Table.find?_passes hx
    cases he : s.directory.get x with
    | none => simp [he, Entry.holds] at holds
    | some e => exact absurd (by simpa [he, Entry.holds] using holds) (h x e he)

/-- An entry that is found by a number holds it. -/
theorem State.findNumber_some {s : State} {x : ExtIx} {e : Entry} {number : List Digit}
    (h : s.findNumber number = some x) (he : s.entry? x = some e) : e.number = number := by
  have holds := Table.find?_passes h
  rw [show s.directory.get x = some e from he] at holds
  simpa [Entry.holds] using holds

/-- A record that keeps its number leaves the search by number as it is. -/
theorem State.findNumber_putEntry {s : State} {ix : ExtIx} {e d : Entry} (he : s.entry? ix = some e)
    (hn : d.number = e.number) (number : List Digit) :
    (s.putEntry ix (some d)).findNumber number = s.findNumber number :=
  Table.find?_set (by rw [show s.directory.get ix = some e from he]; simp [Entry.holds, hn])

/-- A record that keeps its challenge leaves the search by port as it is. -/
theorem State.challengeAt_putEntry {s : State} {ix : ExtIx} {e d : Entry} (he : s.entry? ix = some e)
    (hc : d.challenge = e.challenge) (p : Port) : (s.putEntry ix (some d)).challengeAt p = s.challengeAt p :=
  Table.find?_set (by rw [show s.directory.get ix = some e from he]; simp [hc])

/-- Another entry's record rewritten under its number leaves the holder of a number as it is. -/
theorem State.onlyHolder.putEntry {s : State} {x y : ExtIx} {e d f : Entry} {number : List Digit}
    (h : s.onlyHolder x e number) (hd : s.entry? y = some d) (hn : f.number = d.number) (hy : y ≠ x) :
    (s.putEntry y (some f)).onlyHolder x e number := by
  obtain ⟨he, own, only⟩ := h
  refine ⟨by rw [State.entry_putEntry, if_neg (Ne.symm hy), he], own, fun j k hk holds => ?_⟩
  rw [State.entry_putEntry] at hk
  split at hk
  case isTrue hj =>
    obtain rfl := Option.some.inj hk
    exact only j d (hj ▸ hd) (hn.symm.trans holds)
  case isFalse => exact only j k hk holds

/-- A record rewritten with its challenge leaves the way at a port as it is. -/
theorem State.wayClear.putEntry {s : State} {p : Port} {x y : ExtIx} {d f : Entry} (h : s.wayClear p x)
    (hd : s.entry? y = some d) (hc : f.challenge = d.challenge) : (s.putEntry y (some f)).wayClear p x :=
  fun z hz => h z ((State.challengeAt_putEntry hd hc p).symm.trans hz)

section ClearWay

variable {s : State} {p : Port}

theorem State.clearWay_unasked (h : s.challengeAt p = none) (x : Option ExtIx) : s.clearWay p x = s := by
  simp [State.clearWay, h]

/-- The named entry's own challenge at the port stays (R67). -/
theorem State.wayClear.clearWay {x : ExtIx} (h : s.wayClear p x) : s.clearWay p (some x) = s := by
  unfold State.clearWay
  split
  case h_1 y hy => rw [if_pos (congrArg some (h y hy))]
  case h_2 => rfl

/-- The challenge of an entry that is not the one named is abandoned (R67). -/
theorem State.clearWay_other {x : Option ExtIx} {y : ExtIx} {d : Entry} {c : Challenge} (hy : s.challengeAt p = some y)
    (hx : some y ≠ x) (hd : s.entry? y = some d) (hc : d.challenge = some c) :
    s.clearWay p x = (s.withdraw p c.nonce).putEntry y (some d.revert) := by
  have port := State.challengeAt_port hy hd hc
  simp only [State.clearWay, hy, if_neg hx, State.abandon, hd, hc, port]

/-- A REGISTER at a port where the challenge of an entry other than the one named is pending does what it does once that
challenge is abandoned (R67). -/
theorem State.wired.registerBlock_abandons {y : ExtIx} {d : Entry} {c : Challenge} {number : List Digit} (h : s.wired)
    (hd : s.entry? y = some d) (hc : d.challenge = some c) (hn : d.number ≠ number) :
    s.registerBlock c.port number =
      ((s.withdraw c.port c.nonce).putEntry y (some d.revert)).registerBlock c.port number := by
  have named : ((s.withdraw c.port c.nonce).putEntry y (some d.revert)).findNumber number = s.findNumber number :=
    State.findNumber_putEntry (s := s.withdraw c.port c.nonce) (d := d.revert) hd rfl number
  have unasked : ((s.withdraw c.port c.nonce).putEntry y (some d.revert)).challengeAt c.port = none :=
    (h.unchallenged_putEntry hd hc (d := d.revert) rfl).challengeAt
  have other : some y ≠ s.findNumber number := fun found => hn (State.findNumber_some found.symm hd)
  unfold State.registerBlock
  rw [named, State.clearWay_unasked unasked, State.clearWay_other (h.challengeAt_eq hd hc) other hd hc]

end ClearWay

/-! ## The cases of R68 to R73, one equation each -/

section Cases

variable {s : State} {p q : Port} {x y : ExtIx} {e d : Entry}

theorem State.registerCases_locked (he : s.entry? x = some e) (hs : e.state = .locked) :
    s.registerCases p (some x) = s.deny p .locked (some x) := by
  simp only [State.registerCases, he, hs, if_true]

theorem State.registerCases_away (he : s.entry? x = some e) (hs : e.state ≠ .locked)
    (away : ¬ (e.home = none ∨ e.home = some p)) :
    s.registerCases p (some x) = (s.deny p .wrongPort (some x)).countFailure x := by
  simp only [State.registerCases, he, if_neg hs, home_away_iff, if_pos away]

theorem State.registerCases_home (he : s.entry? x = some e) (hs : e.state ≠ .locked)
    (home : e.home = none ∨ e.home = some p) :
    s.registerCases p (some x) = s.registerAt p x := by
  simp only [State.registerCases, he, if_neg hs, home_away_iff, if_neg (not_not.mpr home)]

/-- At a port bound to no other extension no takeover comes first (R69). -/
theorem State.registerAt_free (hb : (s.port p).bound = none ∨ (s.port p).bound = some x) :
    s.registerAt p x = s.registerEntry p x := by
  rcases hb with hb | hb <;> simp [State.registerAt, hb]

theorem State.registerAt_inUse (hb : (s.port p).bound = some y) (hy : y ≠ x) (hd : (s.port p).dial ≠ .idle) :
    s.registerAt p x = s.deny p .busy (some x) := by
  simp only [State.registerAt, hb, if_neg hy, if_pos hd]

theorem State.registerAt_takeOver (hb : (s.port p).bound = some y) (hy : y ≠ x) (idle : (s.port p).dial = .idle) :
    s.registerAt p x = (s.takeOver p y).registerEntry p x := by
  simp only [State.registerAt, hb, if_neg hy, if_neg (not_not.mpr idle)]

theorem State.registerEntry_again (he : s.entry? x = some e) (hs : e.state = .admitted) (hb : e.bound = some p) :
    s.registerEntry p x = s.registerAgain p x := by
  simp only [State.registerEntry, he, hs, hb, if_true]

theorem State.registerEntry_move (he : s.entry? x = some e) (hs : e.state = .admitted) (hb : e.bound = some q) (hq : q ≠ p) :
    s.registerEntry p x = s.registerMove p q x e := by
  simp only [State.registerEntry, he, hs, hb, if_neg hq]

theorem State.registerEntry_challenge (he : s.entry? x = some e) (hs : e.state ≠ .admitted) :
    s.registerEntry p x = s.registerChallenge p x := by
  unfold State.registerEntry
  simp only [he]
  split
  case h_1 admitted _ => exact absurd admitted hs
  case h_2 => rfl

theorem State.registerChallenge_elsewhere {c : Challenge} (he : s.entry? x = some e) (hc : e.challenge = some c)
    (hp : c.port ≠ p) : s.registerChallenge p x = s.deny p .busy (some x) := by
  simp [State.registerChallenge, he, hc, hp]

theorem State.registerChallenge_issues (he : s.entry? x = some e) (hc : ∀ c, e.challenge = some c → c.port = p) :
    s.registerChallenge p x = s.issueChallenge p x := by
  cases h : e.challenge with
  | none => simp [State.registerChallenge, he, h]
  | some c => simp [State.registerChallenge, he, h, hc c h]

/-! ## A challenge issued (R26, R73) -/

/-- A first challenge (R73). -/
theorem State.issueChallenge_first (he : s.entry? x = some e) (hc : e.challenge = none) (p : Port) :
    s.issueChallenge p x = s.challenged p x e (if e.state = .moving then .moving else .challenged) := by
  simp only [State.issueChallenge, he, hc]
  rfl

/-- A challenge issued anew at its port: the older CHALLENGE is withdrawn (R60, R73). -/
theorem State.issueChallenge_anew {c : Challenge} (he : s.entry? x = some e) (hc : e.challenge = some c) (hp : c.port = p) :
    s.issueChallenge p x =
      (s.withdraw p c.nonce).challenged p x e (if e.state = .moving then .moving else .challenged) := by
  simp only [State.issueChallenge, he, hc, hp]
  rfl

/-- A challenge overwrites the record written before it. -/
theorem State.challenged_putEntry (s : State) (o : Option Entry) (p : Port) (x : ExtIx) (e : Entry) (k : AdmissionState) :
    (s.putEntry x o).challenged p x e k = s.challenged p x e k := by
  let nonce := longOf (mix s.challengeCounter s.nonceKey) (mix (s.challengeCounter + 1) s.nonceKey)
  show ((({ s with challengeCounter := s.challengeCounter + 2 } : State).putEntry x o).putEntry x
    (some { e with challenge := some ⟨p, nonce, none⟩, state := k })).offer p (.challenge nonce) = _
  rw [State.putEntry_putEntry]
  rfl

/-! ## A REGISTER of an ADMITTED entry (R70, R71) -/

/-- An idle port loses its extension alone (R64). -/
theorem PortRec.unbind_idle {r : PortRec} (h : r.dial = .idle) : r.unbind = { r with bound := none } := by
  simp [PortRec.unbind, h]

/-- At its own idle port the entry is released and challenged afresh (R70). -/
theorem State.registerAgain_idle (he : s.entry? x = some e) (hb : e.bound = some p) (hc : e.challenge = none)
    (idle : (s.port p).dial = .idle) : s.registerAgain p x =
      (s.putPort p { s.port p with bound := none }).challenged p x e.released .challenged := by
  have own : ((s.putEntry x (some { e.released with state := .unbound })).putPort p
      { s.port p with bound := none }).entry? x = some { e.released with state := .unbound } :=
    (State.entry_putPort _ _ _ _).trans (State.entry_putEntry_self _ _ _)
  rw [State.registerAgain, if_neg (not_not.mpr idle), State.releaseBinding_modEntry he hb, PortRec.unbind_idle idle,
    State.issueChallenge_first own hc, if_neg nofun]
  exact State.challenged_putEntry (s.putPort p _) _ p x _ .challenged

/-- At another port, with its own idle and no call live, the entry is MOVING and challenged there (R71). -/
theorem State.registerMove_free (hc : e.challenge = none) (live : e.liveCall = none) (idle : (s.port q).dial = .idle)
    (p : Port) (x : ExtIx) : s.registerMove p q x e = s.challenged p x e .moving := by
  have free : ¬ (e.liveCall.isSome ∨ (s.port q).dial ≠ .idle) := by simp [live, idle]
  rw [State.registerMove, if_neg free,
    State.issueChallenge_first (s.entry_putEntry_self x (some { e with state := .moving })) hc, if_pos rfl,
    State.challenged_putEntry]
  rfl

/-! ## Port takeover (R64, R69) -/

theorem State.takeOver_eq (hd : s.entry? y = some d) (hb : d.bound = some p) (hs : d.state = .admitted ∨ d.state = .moving)
    (idle : (s.port p).dial = .idle) : s.takeOver p y =
      ((s.putEntry y (some { d with
        bound := none, refresh := none, refreshDue := false, overdue := none
        state := if d.state = .admitted then .unbound else .challenged })).putPort p { s.port p with bound := none }).raise
          ⟨.lapsed, y.val, numWord p.val ++ [3]⟩ := by
  have released := State.releaseBinding_modEntry hd hb fun e => { e with state := e.state.lapsed }
  rw [State.takeOver, released, PortRec.unbind_idle idle, ← AdmissionState.lapsed_eq hs]
  rfl

end Cases

/-! ## REGISTER taken at a port -/

section Register

variable {s : State} {p : Port} {number : List Digit} {x y : ExtIx} {e d : Entry}

/-- A REGISTER taken at a port (R67). -/
theorem State.blockArrives.register (h : s.blockArrives p (.register number)) :
    exec (.register p number) s = .next (s.blockTaken.registerBlock p number) :=
  congrArg Host.Outcome.next (h.takeBlock _)

/-- A REGISTER that names an entry, with the way at its port clear (R67). -/
theorem State.blockArrives.register_named (h : s.blockArrives p (.register number)) (only : s.onlyHolder x e number)
    (clear : s.wayClear p x) : exec (.register p number) s = .next (s.blockTaken.registerCases p (some x)) := by
  have named : s.blockTaken.findNumber number = some x := only.findNumber
  have stays : s.blockTaken.clearWay p (some x) = s.blockTaken := State.wayClear.clearWay (s := s.blockTaken) clear
  rw [h.register, State.registerBlock, named, stays]

/-- A REGISTER that R68 does not deny (R69). -/
theorem State.blockArrives.register_home (h : s.blockArrives p (.register number)) (only : s.onlyHolder x e number)
    (clear : s.wayClear p x) (hs : e.state ≠ .locked) (home : e.home = none ∨ e.home = some p) :
    exec (.register p number) s = .next (s.blockTaken.registerAt p x) := by
  rw [h.register_named only clear, State.registerCases_home (s := s.blockTaken) only.1 hs home]

/-- A REGISTER at a port bound to no other extension (R70 to R73). -/
theorem State.blockArrives.register_free (h : s.blockArrives p (.register number)) (only : s.onlyHolder x e number)
    (clear : s.wayClear p x) (hs : e.state ≠ .locked) (home : e.home = none ∨ e.home = some p)
    (hb : (s.port p).bound = none ∨ (s.port p).bound = some x) :
    exec (.register p number) s = .next (s.blockTaken.registerEntry p x) := by
  rw [h.register_home only clear hs home, State.registerAt_free (s := s.blockTaken) hb]

/-- A REGISTER that issues a challenge at a port bound to no other extension (R72, R73). -/
theorem State.blockArrives.register_issues (h : s.blockArrives p (.register number)) (only : s.onlyHolder x e number)
    (clear : s.wayClear p x) (home : e.home = none ∨ e.home = some p) (hb : (s.port p).bound = none)
    (hs : e.state ≠ .locked ∧ e.state ≠ .admitted) (hc : ∀ c, e.challenge = some c → c.port = p) :
    exec (.register p number) s = .next (s.blockTaken.issueChallenge p x) := by
  obtain ⟨unlocked, unadmitted⟩ := hs
  rw [h.register_free only clear unlocked home (.inl hb),
    State.registerEntry_challenge (s := s.blockTaken) only.1 unadmitted,
    State.registerChallenge_issues (s := s.blockTaken) only.1 hc]

/-- A REGISTER that takes an idle port over (R69). -/
theorem State.blockArrives.register_takeOver (h : s.blockArrives p (.register number)) (only : s.onlyHolder x e number)
    (clear : s.wayClear p x) (hs : e.state ≠ .locked) (home : e.home = none ∨ e.home = some p) (hy : y ≠ x)
    (hb : (s.port p).bound = some y) (idle : (s.port p).dial = .idle) :
    exec (.register p number) s = .next ((s.blockTaken.takeOver p y).registerEntry p x) := by
  rw [h.register_home only clear hs home, State.registerAt_takeOver (s := s.blockTaken) hb hy idle]

/-- A REGISTER denied away from the home port: the denial leaves the entry as it is, since no challenge is pending there
(R65, R68). -/
theorem State.blockArrives.register_away {h : Port} (arrives : s.blockArrives p (.register number))
    (unasked : s.challengeAt p = none) (only : s.onlyHolder x e number) (hs : e.state ≠ .locked) (hh : e.home = some h)
    (hp : h ≠ p) : exec (.register p number) s =
      .next ((s.blockTaken.denied p .wrongPort (3 :: numWord x.val)).countFailure x) ∧
        (s.blockTaken.denied p .wrongPort (3 :: numWord x.val)).entry? x = some e := by
  refine ⟨?_, ((State.challengeAt_none unasked : s.blockTaken.unchallenged p).entry_offer _ x).trans only.1⟩
  rw [arrives.register_named only (by simp [State.wayClear, unasked]),
    State.registerCases_away (s := s.blockTaken) only.1 hs (by simp [hh, hp]), arrives.deny]
  rfl

end Register

/-- Settles O34: the denials of R67 and R68, then those of R69 to R72. -/
theorem registerIsDenied : Obligations.RegisterIsDenied := by
  refine ⟨fun p number s arrives unasked => ⟨fun unheld => ?unknown, fun x e only hs => ?locked,
      fun x e h only hs hh hp below => ?counted, fun x e h only hs hh hp live reached => ?locks⟩,
    fun p number x e s arrives only clear hs home => ⟨fun ha hb hx busy => ?again, fun y hy hyx busy => ?taken,
      fun c hb hs' hc hp => ?elsewhere, fun q hb ha hq hqp inUse => ?move⟩⟩
  case unknown =>
    have unfound : s.blockTaken.findNumber number = none := State.findNumber_none unheld
    rw [arrives.register, State.registerBlock, unfound, State.clearWay_unasked (s := s.blockTaken) unasked,
      State.registerCases, arrives.deny]
    rfl
  case locked =>
    rw [arrives.register_named only (by simp [State.wayClear, unasked]),
      State.registerCases_locked (s := s.blockTaken) only.1 hs, arrives.deny]
    rfl
  case counted =>
    obtain ⟨denied, own⟩ := arrives.register_away unasked only hs hh hp
    rw [denied, State.countFailure_below own]
    rwa [State.classes_denied]
  case locks =>
    obtain ⟨denied, own⟩ := arrives.register_away unasked only hs hh hp
    rw [denied, State.countFailure_locks own live]
    rwa [State.classes_denied]
  case again =>
    rw [arrives.register_free only clear hs home (.inr hx), State.registerEntry_again (s := s.blockTaken) only.1 ha hb,
      State.registerAgain, State.port_blockTaken, if_pos busy, arrives.deny]
    rfl
  case taken =>
    rw [arrives.register_home only clear hs home, State.registerAt_inUse (s := s.blockTaken) hy hyx busy, arrives.deny]
    rfl
  case elsewhere =>
    have unadmitted : e.state ≠ .admitted := by rcases hs' with h | h <;> simp [h]
    rw [arrives.register_free only clear hs home hb, State.registerEntry_challenge (s := s.blockTaken) only.1 unadmitted,
      State.registerChallenge_elsewhere (s := s.blockTaken) only.1 hc hp, arrives.deny]
    rfl
  case move =>
    have elsewhere : e.liveCall.isSome ∨ (s.port q).dial ≠ .idle := inUse.imp_left Option.isSome_iff_ne_none.mpr
    rw [arrives.register_free only clear hs home (.inl hb), State.registerEntry_move (s := s.blockTaken) only.1 ha hq hqp,
      State.registerMove, State.port_blockTaken, if_pos elsewhere, arrives.deny]
    rfl

/-- Settles O35: the way cleared first, then the challenge by the entry's state. -/
theorem registerIssuesAChallenge : Obligations.RegisterIssuesAChallenge := by
  refine ⟨fun p number y d c s arrives unheld hy hd hc hs => ?unknown,
    fun p number x e s arrives only clear home hb =>
      ⟨fun hs hc => ?first, fun c hs hc hp => ?anew, fun c hs hc hp => ?moving⟩,
    fun p number y d c s wired arrives hd hc hp hn => ?abandoned⟩
  case unknown =>
    have unfound : s.blockTaken.findNumber number = none := State.findNumber_none unheld
    have present : (((s.blockTaken.withdraw p c.nonce).putEntry y (some d.revert)).port p).presence = .present := arrives.2
    rw [arrives.register, State.registerBlock, unfound,
      State.clearWay_other (s := s.blockTaken) hy (Option.some_ne_none y) hd hc, State.registerCases,
      State.deny_present present, Entry.revert_eq hs]
    rfl
  case first =>
    rw [arrives.register_issues only clear home hb (by simp [hs]) (by simp [hc]),
      State.issueChallenge_first (s := s.blockTaken) only.1 hc, if_neg (by simp [hs])]
  case anew =>
    rw [arrives.register_issues only clear home hb (by simp [hs]) (by simp [hc, hp]),
      State.issueChallenge_anew (s := s.blockTaken) only.1 hc hp, if_neg (by simp [hs])]
  case moving =>
    rw [arrives.register_issues only clear home hb (by simp [hs]) (by simp [hc, hp]),
      State.issueChallenge_anew (s := s.blockTaken) only.1 hc hp, if_pos hs]
  case abandoned =>
    subst hp
    rw [← Entry.revert_eq ((wired.fields y d hd).challenge.mp (by simp [hc])), arrives.register,
      wired.blockTaken.registerBlock_abandons hd hc hn]
    exact (State.blockArrives.register (s := (s.withdraw c.port c.nonce).putEntry y (some d.revert)) arrives).symm

/-- Settles O36: R70 and R71 for an ADMITTED entry, and R69 for a port bound to another. -/
theorem registerAgainMovesOrTakesOver : Obligations.RegisterAgainMovesOrTakesOver := by
  refine ⟨fun p number x e s arrives only clear home ha hc =>
      ⟨fun hb hx idle => ?again, fun q hq hqp hb live idle => ?move⟩,
    fun p number x y e d s arrives only clear home hs hc hyx hy hd hb hds idle => ?unbound,
    fun p number x y e d s arrives only clear hs home hyx hy hd hb hds idle => ?takeOver⟩
  case again =>
    rw [arrives.register_free only clear (by simp [ha]) home (.inr hx),
      State.registerEntry_again (s := s.blockTaken) only.1 ha hb,
      State.registerAgain_idle (s := s.blockTaken) only.1 hb hc idle]
    rfl
  case move =>
    rw [arrives.register_free only clear (by simp [ha]) home (.inl hb),
      State.registerEntry_move (s := s.blockTaken) only.1 ha hq hqp,
      State.registerMove_free (s := s.blockTaken) hc live idle]
  case unbound =>
    have taken := State.takeOver_eq (s := s.blockTaken) hd hb hds idle
    have own : (s.blockTaken.takeOver p y).entry? x = some e := by
      rw [taken]
      exact (State.entry_putEntry _ _ _ _).trans ((if_neg (Ne.symm hyx)).trans only.1)
    rw [arrives.register_takeOver only clear (by simp [hs]) home hyx hy idle,
      State.registerEntry_challenge own (by simp [hs]), State.registerChallenge_issues own (by simp [hc]),
      State.issueChallenge_first own hc, if_neg (by simp [hs]), taken]
    rfl
  case takeOver =>
    have port : ∀ t : State, (t.putPort p { s.port p with bound := none }).port p = { s.port p with bound := none } :=
      fun t => (State.port_putPort _ _ _ _).trans (if_pos rfl)
    rw [arrives.register_takeOver only clear hs home hyx hy idle,
      State.takeOver_eq (s := s.blockTaken) hd hb hds idle]
    symm
    refine (State.blockArrives.register_free (x := x) ?arrives ?only ?clear hs home (.inl ?free)).trans rfl
    case arrives => exact ⟨arrives.1, (congrArg PortRec.presence (port _)).trans arrives.2⟩
    case only => exact only.putEntry hd rfl hyx
    case clear => exact clear.putEntry hd rfl
    case free => exact congrArg PortRec.bound (port _)

end Sys2Proof.Machine

/-!
PROOFS. Dialling: hooks by dial state (O40; R85 to R88, R123), digits and their timer (O41; R89, R90).
-/

namespace Sys2Proof.Machine

section Dial

variable {s : State} {p : Port}

theorem State.port_putPort_self (s : State) (p : Port) (r : PortRec) : (s.putPort p r).port p = r :=
  (State.port_putPort s p r p).trans (if_pos rfl)

/-- The port a block has come from stays PRESENT as its hook moves (R85). -/
theorem State.blockArrives.present_hook {b : StationBlock} (h : s.blockArrives p b) (hook : Hook) :
    ((s.blockTaken.putPort p { s.blockTaken.port p with hook := hook }).port p).presence = .present := by
  rw [State.port_putPort_self]
  exact h.2

/-! ## OFF-HOOK (R85 to R87) -/

/-- An OFF-HOOK taken at a port (R85). -/
theorem State.blockArrives.offHook (h : s.blockArrives p .offHook) :
    exec (.offHook p) s = .next (s.blockTaken.offHookBlock p) :=
  congrArg Host.Outcome.next (h.takeBlock _)

theorem State.offHookBlock_idle (h : (s.port p).dial = .idle) :
    s.offHookBlock p = (s.putPort p { s.port p with hook := .off }).startDialling p := by
  simp only [State.offHookBlock, h]

/-- An attempt begins at the port of an ADMITTED entry (R86). -/
theorem State.offHookBlock_admitted {x : ExtIx} {e : Entry} (hd : (s.port p).dial = .idle)
    (hb : (s.port p).bound = some x) (he : s.entry? x = some e) (ha : e.state = .admitted) : s.offHookBlock p =
      s.putPort p { s.port p with
        hook := .off, dial := .dialling, buffer := [], interdigit := some s.interdigitLimit } := by
  rw [State.offHookBlock_idle hd]
  simp only [State.startDialling, State.port_putPort_self, hb, State.entry_putPort, he, Option.map_some, ha,
    State.putPort_putPort]
  rfl

theorem State.offHookBlock_moving {x : ExtIx} {e : Entry} (hd : (s.port p).dial = .idle)
    (hb : (s.port p).bound = some x) (he : s.entry? x = some e) (hm : e.state = .moving) :
    s.offHookBlock p = (s.putPort p { s.port p with hook := .off }).deny p .moving (some x) := by
  rw [State.offHookBlock_idle hd]
  simp only [State.startDialling, State.port_putPort_self, hb, State.entry_putPort, he, Option.map_some, hm]

theorem State.offHookBlock_unbound (hd : (s.port p).dial = .idle) (hb : (s.port p).bound = none) :
    s.offHookBlock p = (s.putPort p { s.port p with hook := .off }).deny p .notAdmitted none := by
  rw [State.offHookBlock_idle hd]
  simp only [State.startDialling, State.port_putPort_self, hb]

/-- The call alerting at the port is answered (R87, R123). -/
theorem State.offHookBlock_alerted {id : CallId} (hd : (s.port p).dial = .alerted) (hc : (s.port p).call = some id) :
    s.offHookBlock p = (s.putPort p { s.port p with hook := .off, dial := .inCall }).raise
      ⟨.answered, id.toNat, numWord p.val⟩ := by
  simp only [State.offHookBlock, hd, State.answerCall, State.port_putPort_self, hc, State.putPort_putPort]
  rfl

/-- Away from IDLE and ALERTED an OFF-HOOK moves the hook alone (R87). -/
theorem State.offHookBlock_other (idle : (s.port p).dial ≠ .idle) (alerted : (s.port p).dial ≠ .alerted) :
    s.offHookBlock p = s.putPort p { s.port p with hook := .off } := by
  unfold State.offHookBlock
  dsimp only
  split
  case h_1 hd => exact absurd hd idle
  case h_2 hd => exact absurd hd alerted
  all_goals rfl

/-! ## ON-HOOK (R85, R88) -/

/-- An ON-HOOK taken at a port (R85). -/
theorem State.blockArrives.onHook (h : s.blockArrives p .onHook) :
    exec (.onHook p) s = .next (s.blockTaken.onHookBlock p) :=
  congrArg Host.Outcome.next (h.takeBlock _)

/-- In IDLE and ALERTED an ON-HOOK moves the hook alone (R88). -/
theorem State.onHookBlock_kept (h : (s.port p).dial = .idle ∨ (s.port p).dial = .alerted) :
    s.onHookBlock p = s.putPort p { s.port p with hook := .on } := by
  rcases h with hd | hd <;> simp only [State.onHookBlock, hd]

theorem State.onHookBlock_dialling (h : (s.port p).dial = .dialling) : s.onHookBlock p =
    s.putPort p { s.port p with hook := .on, dial := .idle, buffer := [], interdigit := none } := by
  simp only [State.onHookBlock, h]
  rfl

theorem State.onHookBlock_blocked (h : (s.port p).dial = .blocked) :
    s.onHookBlock p = s.putPort p { s.port p with hook := .on, dial := .idle } := by
  simp only [State.onHookBlock, h]

/-- In WAITING and IN_CALL the call is reported HUNG UP and kept (R88). -/
theorem State.onHookBlock_hangsUp {id : CallId} (h : (s.port p).dial = .waiting ∨ (s.port p).dial = .inCall)
    (hc : (s.port p).call = some id) : s.onHookBlock p =
      (s.putPort p { s.port p with hook := .on }).raise ⟨.hungUp, id.toNat, numWord p.val⟩ := by
  have hangs : (s.putPort p { s.port p with hook := .on }).hangUp p =
      (s.putPort p { s.port p with hook := .on }).raise ⟨.hungUp, id.toNat, numWord p.val⟩ := by
    simp only [State.hangUp, State.port_putPort_self, hc]
    rfl
  rcases h with hd | hd <;> simpa only [State.onHookBlock, hd] using hangs

/-! ## DIGITS (R89) -/

/-- A DIGITS block taken at a port (R85). -/
theorem State.blockArrives.digits {endFlag : Bool} {codes : List Digit} (h : s.blockArrives p (.digits endFlag codes)) :
    exec (.digits p endFlag codes) s = .next (s.blockTaken.digitsBlock p endFlag codes) :=
  congrArg Host.Outcome.next (h.takeBlock _)

/-- The buffer is full once the codes it held and those appended reach 24 (R89, step 3). -/
theorem collect_full_iff {buffer codes : List Digit} :
    (collect buffer codes).length = 24 ↔ 24 ≤ buffer.length + codes.length := by
  simp only [collect, List.length_take, List.length_append]
  omega

/-- A DIGITS block at a DIALLING port: collected, then evaluated when the buffer is full or the END flag set (R89). -/
theorem State.digitsBlock_dialling (h : (s.port p).dial = .dialling) (endFlag : Bool) (codes : List Digit) {t : State}
    (ht : t = s.putPort p { s.port p with
      buffer := collect (s.port p).buffer codes, interdigit := some s.interdigitLimit }) :
    s.digitsBlock p endFlag codes =
      if 24 ≤ (s.port p).buffer.length + codes.length ∨ endFlag = true
        then t.evaluate p (collect (s.port p).buffer codes) else t := by
  simp only [State.digitsBlock, if_pos h, collect_full_iff, ht]

theorem State.digitsBlock_discarded (h : (s.port p).dial ≠ .dialling) (endFlag : Bool) (codes : List Digit) :
    s.digitsBlock p endFlag codes = s := if_neg h

/-! ## The interdigit timer (R90) -/

/-- The interdigit time of a DIALLING port has run out (R90). -/
theorem State.interdigitEnd_due (hd : (s.port p).dial = .dialling) (due : (s.port p).interdigit = some 0) :
    s.interdigitEnd p = if (s.port p).buffer = [] then s.dialTimeout p
      else (s.putPort p { s.port p with interdigit := none }).evaluate p (s.port p).buffer := by
  simp only [State.interdigitEnd, if_pos (And.intro hd due), List.isEmpty_iff]

end Dial

/-! ## The obligations -/

/-- Settles O40: each block by the dial state it finds. -/
theorem offHookAndOnHookByDialState : Obligations.OffHookAndOnHookByDialState := by
  refine ⟨fun p s arrives => ⟨fun x e hd hb he ha => ?dials, fun x e hd hb he hm => ?moving, fun hd hb => ?unbound,
      fun id hd hc => ?answers, fun idle alerted => ?kept⟩,
    fun p s arrives => ⟨fun hd => ?still, fun hd => ?abandons, fun hd => ?unblocks, fun id hd hc => ?hangsUp⟩⟩
  case dials =>
    rw [arrives.offHook, State.offHookBlock_admitted (s := s.blockTaken) hd hb he ha]
    rfl
  case moving =>
    rw [arrives.offHook, State.offHookBlock_moving (s := s.blockTaken) hd hb he hm,
      State.deny_present (arrives.present_hook .off)]
    rfl
  case unbound =>
    rw [arrives.offHook, State.offHookBlock_unbound (s := s.blockTaken) hd hb,
      State.deny_present (arrives.present_hook .off)]
    rfl
  case answers =>
    rw [arrives.offHook, State.offHookBlock_alerted (s := s.blockTaken) hd hc]
    rfl
  case kept => rw [arrives.offHook, State.offHookBlock_other (s := s.blockTaken) idle alerted, State.port_blockTaken]
  case still => rw [arrives.onHook, State.onHookBlock_kept (s := s.blockTaken) hd, State.port_blockTaken]
  case abandons => rw [arrives.onHook, State.onHookBlock_dialling (s := s.blockTaken) hd, State.port_blockTaken]
  case unblocks => rw [arrives.onHook, State.onHookBlock_blocked (s := s.blockTaken) hd, State.port_blockTaken]
  case hangsUp => rw [arrives.onHook, State.onHookBlock_hangsUp (s := s.blockTaken) hd hc, State.port_blockTaken]

/-- Settles O41: DIGITS by the dial state, the room in the buffer and the END flag; the expiry by the buffer. -/
theorem digitsAreCollectedAndEvaluated : Obligations.DigitsAreCollectedAndEvaluated := by
  refine ⟨fun p endFlag codes s dialled arrives ht =>
      ⟨fun hd flag room => ?collects, fun hd done => ?evaluates, fun hd => ?discards⟩,
    fun p s hd due => ⟨fun empty => ?timeout, fun digits => ?expires⟩⟩
  case collects =>
    have goesOn : ¬ (24 ≤ (s.port p).buffer.length + codes.length ∨ endFlag = true) := by simp [flag, room]
    rw [arrives.digits, State.digitsBlock_dialling (s := s.blockTaken) hd endFlag codes ht]
    exact congrArg _ (if_neg goesOn)
  case evaluates =>
    rw [arrives.digits, State.digitsBlock_dialling (s := s.blockTaken) hd endFlag codes ht]
    exact congrArg _ (if_pos done.symm)
  case discards => rw [arrives.digits, State.digitsBlock_discarded (s := s.blockTaken) hd]
  case timeout =>
    show Host.Outcome.next (s.interdigitEnd p) = _
    rw [State.interdigitEnd_due hd due, if_pos empty]
    rfl
  case expires =>
    show Host.Outcome.next (s.interdigitEnd p) = _
    rw [State.interdigitEnd_due hd due, if_neg digits]

end Sys2Proof.Machine

/-!
PROOFS. What an evaluation leads to, and the id of the call it creates (O42; R98 to R101, R118, R119).
-/

namespace Sys2Proof.Machine

/-! ## The id of the next call (R118) -/

section FreshId

variable {s : State}

/-- The search answers the first id that no call holds, or the one its fuel reaches, past ids in use alone. -/
theorem State.searchId_first (s : State) (fuel : Nat) (id : CallId) : ∃ k ≤ fuel,
    s.searchId fuel id = nextCallId^[k] id ∧ ∀ j, j < k → s.findCall (nextCallId^[j] id) ≠ none := by
  induction fuel generalizing id with
  | zero => exact ⟨0, le_rfl, rfl, nofun⟩
  | succ fuel ih =>
    unfold State.searchId
    split
    case isTrue => exact ⟨0, Nat.zero_le _, rfl, nofun⟩
    case isFalse used =>
      obtain ⟨k, le, eq, passed⟩ := ih (nextCallId id)
      refine ⟨k + 1, Nat.succ_le_succ le, eq, fun j hj => ?_⟩
      cases j with
      | zero => exact fun free => used (Option.isNone_iff_eq_none.mpr free)
      | succ j => exact passed j (Nat.lt_of_succ_lt_succ hj)

/-- With an entry free, a run of ids in use is shorter than the table (R118). -/
theorem State.usedRun_lt {i : Fin 128} (free : s.calls.get i = none) {id : CallId} (h0 : id ≠ 0) {k : Nat} (hk : k ≤ 128)
    (used : ∀ j, j < k → s.findCall (nextCallId^[j] id) ≠ none) : k < 128 := by
  have held : ∀ j : Fin k, ∃ slot, s.findCall (nextCallId^[j.val] id) = some slot := fun j =>
    Option.ne_none_iff_exists'.mp (used j.val j.isLt)
  choose slot hslot using held
  have distinct : Function.Injective slot := by
    intro a b hab
    obtain ⟨c, hc, hca⟩ := State.findCall_some (hslot a)
    obtain ⟨d, hd, hdb⟩ := State.findCall_some (hslot b)
    obtain rfl := Option.some.inj (hc.symm.trans (hab ▸ hd))
    have same := congrArg BitVec.toNat (hca.symm.trans hdb)
    simp only [nextCallId_iterate h0] at same
    exact Fin.ext (by omega)
  have spared : i ∉ Set.range slot := by
    rintro ⟨j, hj⟩
    obtain ⟨c, hc, -⟩ := State.findCall_some (hslot j)
    rw [hj, free] at hc
    cases hc
  simpa using Fintype.card_lt_of_injective_of_notMem slot distinct spared

theorem State.call?_eq_none_iff {id : CallId} : s.call? id = none ↔ s.findCall id = none := by
  unfold State.call?
  split
  case h_1 i hi =>
    obtain ⟨c, hc, -⟩ := State.findCall_some hi
    simp [hc, hi]
  case h_2 hn => simp [hn]

end FreshId

/-! ## A new call's entry (R119, assumption 12) -/

theorem State.freeSlot_full {s : State} (full : ∀ i, s.calls.get i ≠ none) : s.freeSlot = none := by
  cases h : s.freeSlot with
  | none => rfl
  | some i => exact absurd (Option.isNone_iff_eq_none.mp (Table.find?_passes h)) (full i)

theorem State.freeSlot_lowest {s : State} {i : Fin 128} (free : s.calls.get i = none)
    (below : ∀ j, j < i → s.calls.get j ≠ none) : s.freeSlot = some i :=
  Table.find?_eq_some_iff.mpr ⟨by simp [free], fun j hj => by simpa [Option.isSome_iff_ne_none] using below j hj⟩

/-! ## Outcomes (R99 to R101) -/

theorem decidingOctet_eq (deciding : Option ScreenNo) :
    decidingOctet deciding = deciding.elim 255 (fun n => BitVec.ofNat 8 n.val) := by
  cases deciding <;> rfl

section Outcome

variable {s : State} {p : Port} {x : ExtIx} {e : Entry}

/-- An evaluation at the port of an extension, by its verdict (R99, R100). -/
theorem State.evaluate_eq (hb : (s.port p).bound = some x) (he : s.entry? x = some e) (ds : List Digit) :
    s.evaluate p ds =
      if s.verdict e.cls ds = .bar then s.barCall p x (decidingScreen s.screens e.cls ds) ds
      else s.requestCall p x (s.verdict e.cls ds) (decidingScreen s.screens e.cls ds) ds := by
  simp only [State.evaluate, hb, he]
  cases s.verdict e.cls ds <;> rfl

/-- The port BLOCKED with NOTICE BARRED and its report (R99). -/
theorem State.barCall_eq (s : State) (p : Port) (x : ExtIx) (deciding : Option ScreenNo) (ds : List Digit) :
    s.barCall p x deciding ds = ((s.offer p (.notice .barred)).putPort p { s.port p with
      dial := .blocked, buffer := [], interdigit := none }).raise ⟨.callBarred, p.val,
        numWord x.val ++ (deciding.elim 255 (fun n => BitVec.ofNat 8 n.val)) :: digitOctets ds⟩ := by
  rw [← decidingOctet_eq]
  rfl

/-- With no entry free the port is BLOCKED with NOTICE CONGESTION and its report (R101). -/
theorem State.requestCall_full (full : ∀ i, s.calls.get i ≠ none) (p : Port) (x : ExtIx) (v : Verdict)
    (deciding : Option ScreenNo) (ds : List Digit) : s.requestCall p x v deciding ds =
      ((s.offer p (.notice .congestion)).putPort p { s.port p with
        dial := .blocked, buffer := [], interdigit := none }).raise ⟨.congested, p.val,
          numWord x.val ++ v.octet :: digitOctets ds⟩ := by
  simp only [State.requestCall, State.freeSlot_full full]
  rfl

/-- With an entry free the call is created, and the port waits (R100, R119). -/
theorem State.requestCall_creates {slot : Fin 128} (hs : s.freeSlot = some slot) (he : s.entry? x = some e) (v : Verdict)
    (deciding : Option ScreenNo) (ds : List Digit) : s.requestCall p x v deciding ds =
      ((({ s with
        calls := s.calls.set slot (some ⟨s.freshId, .requested, .station, p, x, ds, v, [], [], 0, none⟩)
        nextId := s.freshId }.putEntry x (some { e with liveCall := some s.freshId })).putPort p { s.port p with
          call := some s.freshId, dial := .waiting, buffer := [], interdigit := none }).raise
        ⟨.callRequest, s.freshId.toNat, numWord p.val ++ numWord x.val ++ v.octet ::
          (deciding.elim 255 (fun n => BitVec.ofNat 8 n.val)) :: digitOctets ds⟩) := by
  have created : s.createCall slot (.fresh s.freshId .requested .station p x ds v) =
      ({ s with
        calls := s.calls.set slot (some ⟨s.freshId, .requested, .station, p, x, ds, v, [], [], 0, none⟩)
        nextId := s.freshId }.putEntry x (some { e with liveCall := some s.freshId })).putPort p
          { s.port p with call := some s.freshId } := by
    have live : (s.entry? x).map (fun e => { e with liveCall := some s.freshId }) =
        some { e with liveCall := some s.freshId } := congrArg _ he
    rw [← live]
    rfl
  simp only [State.requestCall, hs, created, State.port_putPort_self, State.putPort_putPort, ← decidingOctet_eq]
  rfl

end Outcome

/-! ## The obligation -/

/-- Settles O42: the evaluation by its verdict and the room in the call table; the search for an id passes ids in use alone,
and with an entry free fewer than 128. -/
theorem evaluationBarsOrRequestsAFreshCall : Obligations.EvaluationBarsOrRequestsAFreshCall := by
  refine ⟨fun p ds x e v deciding s hb he hd hv => ?outcomes, fun s i free => ?fresh⟩
  case outcomes =>
    subst hd
    replace hv : v = s.verdict e.cls ds := hv
    subst hv
    rw [State.evaluate_eq hb he]
    refine ⟨fun bar => ?bars, fun notBar full => ?congested, fun i id notBar free below hid => ?requests⟩
    case bars => rw [if_pos bar, State.barCall_eq]
    case congested => rw [if_neg notBar, State.requestCall_full full]
    case requests =>
      subst hid
      rw [if_neg notBar, State.requestCall_creates (State.freeSlot_lowest free below) he]
  case fresh =>
    obtain ⟨k, le, eq, used⟩ := s.searchId_first 128 (nextCallId s.nextId)
    exact ⟨s.freshId_ne_zero, State.call?_eq_none_iff.mpr s.freshId_free, k, eq,
      State.usedRun_lt free (nextCallId_ne_zero _) le used,
      fun j hj held => used j hj (State.call?_eq_none_iff.mp held)⟩

end Sys2Proof.Machine

/-!
PROOFS. Screening: plain results, groups and the deciding screen (O43; R95 to R98).
-/

namespace Sys2Proof.Machine

/-! ## One screen (R96, R97) -/

theorem matchesPosition_iff {d : Digit} {position : Option Digit} :
    matchesPosition d position = true ↔ position = none ∨ position = some d := by
  cases position with
  | none => simp [matchesPosition]
  | some e => simp [matchesPosition, eq_comm]

/-- A pattern lies on digits when each of its positions has a digit there that matches it (R96). -/
theorem patternHits_iff {ds : List Digit} {pattern : List (Option Digit)} : patternHits ds pattern = true ↔
    ∀ (i : Nat) (d : Option Digit), pattern[i]? = some d → ∃ k, ds[i]? = some k ∧ (d = none ∨ d = some k) := by
  induction pattern generalizing ds with
  | nil => simp [patternHits]
  | cons position rest ih =>
    cases ds with
    | nil =>
      have uncovered : ¬ ∃ k, ([] : List Digit)[0]? = some k ∧ (position = none ∨ position = some k) := by simp
      exact iff_of_false nofun fun all => uncovered (all 0 position rfl)
    | cons d more =>
      simp only [patternHits, Bool.and_eq_true, matchesPosition_iff, ih]
      constructor
      case mp =>
        rintro ⟨first, later⟩ i e hi
        cases i with
        | zero =>
          obtain rfl := Option.some.inj hi
          exact ⟨d, rfl, first⟩
        | succ i => exact later i e hi
      case mpr =>
        intro all
        refine ⟨?_, fun i e hi => all (i + 1) e hi⟩
        obtain ⟨k, hk, fits⟩ := all 0 position rfl
        obtain rfl := Option.some.inj hk
        exact fits

/-- The plain result: the length window, and the pattern from the offset on (R96). -/
theorem ScreenRec.plainHit_iff {r : ScreenRec} {ds : List Digit} : r.plainHit ds = true ↔
    r.minLength ≤ ds.length ∧ ds.length ≤ r.maxLength ∧
      ∀ i d, r.pattern[i]? = some d → ∃ k, ds[r.offset + i]? = some k ∧ (d = none ∨ d = some k) := by
  simp only [ScreenRec.plainHit, Bool.and_eq_true, decide_eq_true_eq, patternHits_iff, List.getElem?_drop, and_assoc]

theorem ScreenRec.inert_iff {r : ScreenRec} {cls : ClassNo} :
    r.inert cls = true ↔ r.enabled = false ∨ r.classSet.get cls = false := by
  simp [ScreenRec.inert]

/-- Inverse turns the plain result (R97). -/
theorem ScreenRec.hit_iff {r : ScreenRec} {ds : List Digit} :
    r.hit ds = true ↔ (r.plainHit ds = true ↔ r.inverse = false) := by
  cases h : r.inverse <;> simp [ScreenRec.hit, h]

/-! ## Groups (R98) -/

section Groups

variable (t : Table ScreenRec 24) (cls : ClassNo) (ds : List Digit)

/-- The Join of a screen. -/
def joined (n : ScreenNo) : Bool := (t.get n).join

/-- A screen put before the groups of the screens that follow it: into the first group when the next screen joins it, and
as a group of its own otherwise (R98). -/
def addScreen (n : ScreenNo) (groups : List (List ScreenNo)) : List (List ScreenNo) :=
  match groups with
  | [] => [[n]]
  | g :: rest =>
    match g.head? with
    | some m => if joined t m then (n :: g) :: rest else [n] :: g :: rest
    | none => [n] :: rest

/-- The groups of a run of screens (R98). -/
def groupsOf (l : List ScreenNo) : List (List ScreenNo) := l.foldr (addScreen t) []

theorem screenGroups_eq : screenGroups t = groupsOf t (List.finRange 24) := rfl

/-- The first group of a run takes in the screens after its first while they join; the others are those of the rest. -/
theorem groupsOf_cons (n : ScreenNo) (l : List ScreenNo) :
    groupsOf t (n :: l) = (n :: l.takeWhile (joined t)) :: groupsOf t (l.dropWhile (joined t)) := by
  induction l generalizing n with
  | nil => rfl
  | cons m l ih =>
    have first : groupsOf t (n :: m :: l) = addScreen t n (groupsOf t (m :: l)) := rfl
    rw [first]
    cases hm : joined t m with
    | true => simp only [ih, addScreen, List.head?_cons, hm, if_true, List.takeWhile_cons, List.dropWhile_cons]
    | false => simp [ih, addScreen, hm]

/-- The first screen of the first group of a run that matches (R98). -/
def decidingOf (l : List ScreenNo) : Option ScreenNo :=
  match (groupsOf t l).find? (groupMatches t cls ds) with
  | some g => g.head?
  | none => none

/-- The group that begins at a screen: the screens after it are taken in while they join (R98). -/
def members (n : ScreenNo) : List ScreenNo := n :: ((List.finRange 24).filter (n < ·)).takeWhile (joined t)

variable {t cls ds}

/-- The screens at the front of an ascending run that all pass a test. -/
theorem mem_takeWhile_of_sorted {q : ScreenNo → Bool} {l : List ScreenNo} (h : l.Pairwise (· < ·)) {x : ScreenNo} :
    x ∈ l.takeWhile q ↔ x ∈ l ∧ ∀ y ∈ l, y ≤ x → q y = true := by
  induction l with
  | nil => simp
  | cons a l ih =>
    obtain ⟨above, rest⟩ := List.pairwise_cons.mp h
    rw [List.takeWhile_cons]
    split
    case isTrue ha =>
      simp only [List.mem_cons, ih rest, forall_eq_or_imp, ha, implies_true, true_and]
      constructor
      · rintro (rfl | ⟨hx, all⟩)
        · exact ⟨.inl rfl, fun y hy le => absurd (above y hy) (not_lt.mpr le)⟩
        · exact ⟨.inr hx, all⟩
      · rintro ⟨hx, all⟩
        exact hx.imp_right fun hx => ⟨hx, all⟩
    case isFalse ha =>
      refine iff_of_false List.not_mem_nil ?_
      rintro ⟨hx, all⟩
      refine ha (all a List.mem_cons_self ?_)
      rcases List.mem_cons.mp hx with rfl | hx
      · exact le_rfl
      · exact (above x hx).le

theorem mem_members {n x : ScreenNo} :
    x ∈ members t n ↔ n ≤ x ∧ ∀ k : ScreenNo, n < k → k ≤ x → (t.get k).join = true := by
  have sorted : ((List.finRange 24).filter (n < ·)).Pairwise (· < ·) := (List.sortedLT_finRange 24).pairwise.filter _
  rw [members, List.mem_cons, mem_takeWhile_of_sorted sorted]
  simp only [List.mem_filter, List.mem_finRange, true_and, decide_eq_true_eq]
  constructor
  · rintro (rfl | ⟨lt, all⟩)
    · exact ⟨le_rfl, fun k lt le => absurd lt (not_lt.mpr le)⟩
    · exact ⟨lt.le, all⟩
  · rintro ⟨le, all⟩
    exact le.eq_or_lt.imp Eq.symm fun lt => ⟨lt, all⟩

/-- A group matches when its members are not inert and hit (R98). -/
theorem groupMatches_members {n : ScreenNo} : groupMatches t cls ds (members t n) = true ↔ groupHits t cls ds n := by
  simp only [groupMatches, List.all_eq_true, mem_members, Bool.and_eq_true, Bool.not_eq_true', groupHits, and_imp]

/-- In the table's order, the screens after one are those above it. -/
theorem members_of_suffix {n : ScreenNo} {l : List ScreenNo} (h : n :: l <:+ List.finRange 24) :
    members t n = n :: l.takeWhile (joined t) := by
  obtain ⟨before, split⟩ := h
  have sorted := (List.sortedLT_finRange 24).pairwise
  rw [← split] at sorted
  obtain ⟨-, tail, below⟩ := List.pairwise_append.mp sorted
  obtain ⟨above, -⟩ := List.pairwise_cons.mp tail
  have noneBefore : before.filter (n < ·) = [] := by
    simpa using fun a ha => (below a ha n List.mem_cons_self).le
  have allAfter : l.filter (n < ·) = l := by simpa using above
  simp [members, ← split, noneBefore, allAfter]

theorem decidingOf_cons {n : ScreenNo} {l : List ScreenNo} (h : n :: l <:+ List.finRange 24) :
    decidingOf t cls ds (n :: l) =
      if groupMatches t cls ds (members t n) then some n else decidingOf t cls ds (l.dropWhile (joined t)) := by
  unfold decidingOf
  rw [groupsOf_cons, ← members_of_suffix h, List.find?_cons]
  cases groupMatches t cls ds (members t n) <;> rfl

/-- Past the screens that join the group before, the first screen that begins a matching group decides. -/
theorem decidingOf_dropWhile {l : List ScreenNo} (h : l <:+ List.finRange 24) :
    decidingOf t cls ds (l.dropWhile (joined t)) =
      l.find? fun n => !joined t n && groupMatches t cls ds (members t n) := by
  induction l with
  | nil => rfl
  | cons n l ih =>
    have after := ih ((List.suffix_cons n l).trans h)
    rw [List.dropWhile_cons, List.find?_cons]
    cases hn : joined t n with
    | true => simpa using after
    | false =>
      rw [if_neg Bool.false_ne_true, decidingOf_cons h, after]
      cases groupMatches t cls ds (members t n) <;> rfl

/-- The deciding screen is the first that begins a matching group, screen 0 beginning one whatever its Join (R92, R98). -/
theorem decidingScreen_eq : decidingScreen t cls ds =
    Fin.find? fun n => (decide (n = 0) || !joined t n) && groupMatches t cls ds (members t n) := by
  obtain ⟨l, hl⟩ : ∃ l, List.finRange 24 = 0 :: l := ⟨_, List.finRange_succ⟩
  have whole : (0 : ScreenNo) :: l <:+ List.finRange 24 := hl ▸ List.suffix_rfl
  have later : ∀ n ∈ l, n ≠ 0 := by
    have sorted := (List.sortedLT_finRange 24).pairwise
    rw [hl] at sorted
    exact fun n hn => (List.rel_of_pairwise_cons sorted hn).ne'
  have run : decidingScreen t cls ds = decidingOf t cls ds (0 :: l) := by rw [← hl]; rfl
  rw [run, decidingOf_cons whole, decidingOf_dropWhile ((List.suffix_cons 0 l).trans whole),
    Fin.find?_eq_find?_finRange, hl, List.find?_cons]
  have same : l.find? (fun n => (decide (n = 0) || !joined t n) && groupMatches t cls ds (members t n)) =
      l.find? fun n => !joined t n && groupMatches t cls ds (members t n) :=
    List.find?_congr fun n hn => by simp [later n hn]
  rw [same]
  cases groupMatches t cls ds (members t 0) <;> rfl

end Groups

/-- The verdict is the deciding screen's, and the class's default without one (R98). -/
theorem State.verdict_eq (s : State) (cls : ClassNo) (ds : List Digit) : s.verdict cls ds =
    (decidingScreen s.screens cls ds).elim (s.classes.get cls).defaultVerdict fun n => (s.screens.get n).verdict := by
  unfold State.verdict
  cases decidingScreen s.screens cls ds <;> rfl

/-! ## The obligation -/

/-- Settles O43: the first group that matches, the plain result, Inverse and inert screens, and the verdict. -/
theorem decidingScreenIsTheFirstGroupThatHits : Obligations.DecidingScreenIsTheFirstGroupThatHits := by
  refine ⟨fun t cls ds n => ?deciding, fun r ds => ScreenRec.plainHit_iff,
    fun r cls ds => ⟨ScreenRec.inert_iff, ScreenRec.hit_iff⟩, fun s cls ds => ⟨fun n hn => ?screen, fun hn => ?default⟩⟩
  case deciding =>
    have starts : ∀ m, ((decide (m = 0) || !joined t m) && groupMatches t cls ds (members t m)) = true ↔
        groupStart t m ∧ groupHits t cls ds m := fun m => by
      simp only [Bool.and_eq_true, Bool.or_eq_true, decide_eq_true_eq, Bool.not_eq_true', groupMatches_members]
      rfl
    simp only [decidingScreen_eq, Fin.find?_eq_some_iff, ← Bool.not_eq_true, starts, not_and, and_assoc]
  case screen => rw [s.verdict_eq, hn]; rfl
  case default => rw [s.verdict_eq, hn]; rfl

end Sys2Proof.Machine

/-!
PROOFS. A served frame: its slots, its contexts and its reports (O52; R111, R112, R162, R176, R186).
-/

namespace Sys2Proof.Table

variable {α : Type} {n : Nat}

@[simp] theorem tabulate_get (t : Table α n) : tabulate t.get = t := ext_get fun i => by simp

/-- The records of a table, in the order of their positions. -/
theorem cells_eq_map_get (t : Table α n) : t.cells = (List.finRange n).map t.get :=
  congrArg cells (tabulate_get t).symm

end Sys2Proof.Table

namespace Sys2Proof.Machine

/-! ## What a served frame writes (R111, R112) -/

section Served

variable (s : State) (inputs : Table Byte 192)

theorem State.get_frameSteps (x : CtxId) :
    (s.frameSteps inputs).get x = s.stepContext inputs x (s.context x) := Table.get_imap _ _ _

/-- A served frame writes the contexts and the outputs, and raises the contexts' reports in ascending order. -/
theorem State.serveFrame_eq : s.serveFrame inputs =
    { s.raiseAll ((List.finRange 96).filterMap fun x => (s.stepContext inputs x (s.context x)).item) with
      contexts := (s.frameSteps inputs).map CtxFrame.context
      outputs := Table.tabulate fun d => some (s.slotOctet inputs (s.frameSteps inputs) d) } := by
  have reports : (s.frameSteps inputs).cells.filterMap CtxFrame.item =
      (List.finRange 96).filterMap fun x => (s.stepContext inputs x (s.context x)).item := by
    rw [Table.cells_eq_map_get, List.filterMap_map]
    exact List.filterMap_congr fun x _ => congrArg _ (s.get_frameSteps inputs x)
  rw [← reports]
  exact (State.raiseAll_comm s _ (f := fun t => { t with
    contexts := (s.frameSteps inputs).map CtxFrame.context
    outputs := Table.tabulate fun d => some (s.slotOctet inputs (s.frameSteps inputs) d) }) fun _ _ => rfl).symm

theorem State.context_serveFrame (x : CtxId) :
    (s.serveFrame inputs).context x = (s.stepContext inputs x (s.context x)).context := by
  rw [s.serveFrame_eq, State.context, Table.get_map, s.get_frameSteps]

theorem State.output_serveFrame (d : SlotNo) :
    (s.serveFrame inputs).outputs.get d = some (s.slotOctet inputs (s.frameSteps inputs) d) := by
  rw [s.serveFrame_eq, Table.get_tabulate]

end Served

/-! ## The rows of R111 -/

section Rows

variable {s : State} {inputs : Table Byte 192} {d : SlotNo} {p : Path} {x : CtxId} (steps : Table CtxFrame 96)

theorem State.slotOctet_unconnected (h : s.intercept.get d = true ∨ s.connections.get d = none) :
    s.slotOctet inputs steps d = s.idleOctet := by
  unfold State.slotOctet
  rcases h with h | h
  · exact if_pos h
  · simp [h]

variable (hi : s.intercept.get d = false) (hp : s.connections.get d = some p)
include hi hp

theorem State.slotOctet_mute (ht : p.transform = .mute) : s.slotOctet inputs steps d = s.idleOctet := by
  simp [State.slotOctet, hi, hp, ht]

theorem State.slotOctet_pass (ht : p.transform = .pass) :
    s.slotOctet inputs steps d = if s.ownerHeld p then s.idleOctet else inputs.get p.source := by
  simp [State.slotOctet, hi, hp, ht]

theorem State.slotOctet_scramble (ht : p.transform = .scramble x) : s.slotOctet inputs steps d =
    if (s.context x).state = .active ∨ (s.context x).state = .held then (steps.get x).txOut else s.idleOctet := by
  simp only [State.slotOctet, hi, hp, ht]
  cases (s.context x).state <;> rfl

theorem State.slotOctet_descramble (ht : p.transform = .descramble x) : s.slotOctet inputs steps d =
    if (s.context x).state = .active then (steps.get x).rxOut else s.idleOctet := by
  simp only [State.slotOctet, hi, hp, ht]
  cases (s.context x).state <;> rfl

end Rows

theorem State.ownerHeld_iff {s : State} {p : Path} :
    s.ownerHeld p = true ↔ ∃ c, s.call? p.owner = some c ∧ c.state = .held := by
  unfold State.ownerHeld
  cases s.call? p.owner <;> simp

/-! ## The two paths of a context (R110, R162) -/

/-- The source of the only path that passes a test. -/
theorem State.sourceOf_unique {s : State} {test : Option Path → Bool} {a : SlotNo} {p : Path}
    (hp : s.connections.get a = some p) (passes : test (some p) = true)
    (only : ∀ d, test (s.connections.get d) = true → d = a) : s.sourceOf test = some p.source := by
  have found : s.connections.find? test = some a := Table.find?_unique (hp ▸ passes) only
  simp [State.sourceOf, found, hp]

theorem Path.scrambles_iff {x : CtxId} {o : Option Path} :
    Path.scrambles x o = true ↔ ∃ p, o = some p ∧ p.transform = .scramble x := by
  cases o <;> simp [Path.scrambles]

theorem Path.descrambles_iff {x : CtxId} {o : Option Path} :
    Path.descrambles x o = true ↔ ∃ p, o = some p ∧ p.transform = .descramble x := by
  cases o <;> simp [Path.descrambles]

/-! ## A context's step (R112, R162, R176) -/

theorem State.stepContext_still {c : Context} (h : ¬ (c.state = .active ∨ c.state = .held)) (s : State)
    (inputs : Table Byte 192) (x : CtxId) : s.stepContext inputs x c = CtxFrame.still s.idleOctet c := if_neg h

theorem CtxState.still_of {k : CtxState} (h : k = .free ∨ k = .keyWait) : ¬ (k = .active ∨ k = .held) := by
  rcases h with rfl | rfl <;> simp

/-- A context with its two paths runs in served frames: `cfg`, `tx` and `rx` are its own, and it is fed by the slots `a`
and `b`. -/
structure State.feeds (s : State) (x : CtxId) (cfg : CtxConfig) (tx : TxPart) (rx : RxPart) (a b : SlotNo) : Prop where
  runs : (s.context x).state = .active ∨ (s.context x).state = .held
  config : (s.context x).config = some cfg
  tx : (s.context x).tx = some tx
  rx : (s.context x).rx = some rx
  scramble : s.sourceOf (Path.scrambles x) = some a
  descramble : s.sourceOf (Path.descrambles x) = some b

theorem State.feeds.stepContext {s : State} {x : CtxId} {cfg : CtxConfig} {tx : TxPart} {rx : RxPart} {a b : SlotNo}
    (h : s.feeds x cfg tx rx a b) (inputs : Table Byte 192) : s.stepContext inputs x (s.context x) =
      (s.context x).stepSides x cfg tx rx s.idleOctet (inputs.get a) (inputs.get b) := by
  obtain ⟨runs, config, htx, hrx, scramble, descramble⟩ := h
  rw [State.stepContext, if_pos runs]
  simp only [config, htx, hrx, scramble, descramble]

section Paths

variable {s : State} {x : CtxId} {a b : SlotNo} {p q : Path}

theorem State.sourceOf_scrambles (hp : s.connections.get a = some p) (ht : p.transform = .scramble x)
    (only : ∀ d r, s.connections.get d = some r → r.transform = .scramble x → d = a) :
    s.sourceOf (Path.scrambles x) = some p.source :=
  State.sourceOf_unique hp (Path.scrambles_iff.mpr ⟨p, rfl, ht⟩) fun d hd =>
    let ⟨r, hr, hx⟩ := Path.scrambles_iff.mp hd
    only d r hr hx

theorem State.sourceOf_descrambles (hq : s.connections.get b = some q) (ht : q.transform = .descramble x)
    (only : ∀ d r, s.connections.get d = some r → r.transform = .descramble x → d = b) :
    s.sourceOf (Path.descrambles x) = some q.source :=
  State.sourceOf_unique hq (Path.descrambles_iff.mpr ⟨q, rfl, ht⟩) fun d hd =>
    let ⟨r, hr, hx⟩ := Path.descrambles_iff.mp hd
    only d r hr hx

end Paths

/-- In a wired state every ACTIVE or HELD context is fed by its two paths (R110, R158). -/
theorem State.callsWired.feeds {s : State} (w : s.callsWired) {x : CtxId}
    (runs : (s.context x).state = .active ∨ (s.context x).state = .held) : ∃ cfg tx rx a d q,
      s.feeds x cfg tx rx a q.source ∧ s.connections.get d = some q ∧ q.transform = .descramble x := by
  have notFree : (s.context x).state ≠ .free := by rcases runs with h | h <;> simp [h]
  obtain ⟨cfg, config⟩ := Option.isSome_iff_exists.mp ((w.contextFields x).config notFree)
  obtain ⟨-, someTx, someRx⟩ := (w.contextFields x).keyed runs
  obtain ⟨tx, htx⟩ := Option.isSome_iff_exists.mp someTx
  obtain ⟨rx, hrx⟩ := Option.isSome_iff_exists.mp someRx
  obtain ⟨⟨c, p, hp, tp, onlyP⟩, d, q, hq, tq, onlyQ⟩ := w.twoPaths x notFree
  exact ⟨cfg, tx, rx, p.source, d, q,
    ⟨runs, config, htx, hrx, State.sourceOf_scrambles hp tp onlyP, State.sourceOf_descrambles hq tq onlyQ⟩, hq, tq⟩

/-! ## The reports of the receive sides (R186) -/

theorem RxEvent.item_locked (x : CtxId) (call : Option CallId) (m : Manner) (slip : Bool) (epoch : Word) (q : Byte) :
    (RxEvent.locked m slip epoch q).item x call = ⟨.syncLocked, x.val, idWord (call.map BitVec.toNat) ++
      m.octet :: (if slip then 1 else 0) :: wordOctets epoch ++ [q]⟩ := by
  simp [RxEvent.item, Item.syncLocked, callWord, flagOctet]

theorem RxEvent.item_lost (x : CtxId) (call : Option CallId) (epoch : Word) (q : Nat) :
    (RxEvent.lost epoch q).item x call =
      ⟨.syncLost, x.val, idWord (call.map BitVec.toNat) ++ wordOctets epoch ++ [BitVec.ofNat 8 q]⟩ := rfl

theorem RxEvent.item_failed (x : CtxId) (call : Option CallId) (cause : SyncCause) (epoch : Word) (ownQ ownParity : Nat)
    (q : Byte) (par : Nat) : (RxEvent.failed cause epoch ownQ ownParity q par).item x call = ⟨.syncFailed, x.val,
      idWord (call.map BitVec.toNat) ++ cause.octet :: wordOctets epoch ++
        [BitVec.ofNat 8 ownQ, BitVec.ofNat 8 ownParity, q, BitVec.ofNat 8 par]⟩ := by
  simp [RxEvent.item, Item.syncFailed, callWord, numOctet]

/-! ## The obligation -/

/-- Settles O52: the rows of R111, the step of a context fed by its two paths, and the reports by what the steps leave. -/
theorem servedFrameDrivesSlotsAndContexts : Obligations.ServedFrameDrivesSlotsAndContexts := by
  refine ⟨?slots, ⟨?steps, ?still⟩, ?reports, RxEvent.item_locked, RxEvent.item_lost, RxEvent.item_failed⟩
  case slots =>
    rintro inputs d s _ rfl
    simp only [State.output_serveFrame, Option.some.injEq]
    refine ⟨State.slotOctet_unconnected _, fun p hi hp => ⟨State.slotOctet_mute _ hi hp, fun c ht hc held => ?passHeld,
      fun ht free => ?pass, fun x ht waits => ?waits, fun x ht held => ?held⟩⟩
    case passHeld => rw [State.slotOctet_pass _ hi hp ht, if_pos (State.ownerHeld_iff.mpr ⟨c, hc, held⟩)]
    case pass =>
      have notHeld : ¬ s.ownerHeld p = true := fun h =>
        let ⟨c, hc, held⟩ := State.ownerHeld_iff.mp h
        free c hc held
      rw [State.slotOctet_pass _ hi hp ht, if_neg notHeld]
    case waits =>
      rcases ht with ht | ht
      · rw [State.slotOctet_scramble _ hi hp ht, if_neg (by simp [waits])]
      · rw [State.slotOctet_descramble _ hi hp ht, if_neg (by simp [waits])]
    case held => rw [State.slotOctet_descramble _ hi hp ht, if_neg (by simp [held])]
  case steps =>
    rintro inputs x a b p q cfg tx rx held s _ rfl hp hq tp tq onlyP onlyQ config htx hrx state
    have runs : (s.context x).state = .active ∨ (s.context x).state = .held := by cases held <;> simp [state]
    have isHeld : decide ((s.context x).state = .held) = held := by cases held <;> simp [state]
    have fed : s.feeds x cfg tx rx p.source q.source :=
      ⟨runs, config, htx, hrx, State.sourceOf_scrambles hp tp onlyP, State.sourceOf_descrambles hq tq onlyQ⟩
    simp only [State.output_serveFrame, Option.some.injEq]
    refine ⟨?context, fun hi => ?transmits, fun hi active => ?receives⟩
    case context =>
      rw [State.context_serveFrame, fed.stepContext, Context.stepSides, isHeld]
    case transmits =>
      rw [State.slotOctet_scramble _ hi hp tp, if_pos runs, State.get_frameSteps, fed.stepContext, Context.stepSides, isHeld]
    case receives =>
      rw [State.slotOctet_descramble _ hi hq tq, if_pos (by simp [state, active]), State.get_frameSteps, fed.stepContext]
      rfl
  case still =>
    intro inputs x s h
    rw [State.context_serveFrame, State.stepContext_still (CtxState.still_of h)]
    rfl
  case reports =>
    rintro inputs item s _ w rfl quiet reports
    have left : ∀ x, (s.stepContext inputs x (s.context x)).item = item x := by
      intro x
      by_cases runs : (s.context x).state = .active ∨ (s.context x).state = .held
      case pos =>
        obtain ⟨cfg, tx, rx, a, d, q, fed, hq, tq⟩ := w.feeds runs
        rw [fed.stepContext, reports x cfg rx d q runs fed.config fed.rx hq tq]
        rfl
      case neg =>
        have rests : (s.context x).state = .free ∨ (s.context x).state = .keyWait := by
          cases h : (s.context x).state <;> simp [h] at runs ⊢
        rw [State.stepContext_still runs, quiet x rests]
        rfl
    rw [State.serveFrame_eq]
    simp only [left]

end Sys2Proof.Machine

/-!
PROOFS. The time base: pulses, holdover and restore (O53; R104 to R106, R170, R171, R177), ticks and second ticks (O54; R5,
R90, R107, R151).
-/

namespace Sys2Proof.Machine

/-! ## Pulses in HIGHWAY (R104) -/

section Highway

variable {s : State} (inputs : Table Byte 192)

theorem inPulseWindow_iff {ns : Nat} : inPulseWindow ns = true ↔ 120000 ≤ ns ∧ ns ≤ 130000 := by
  simp [inPulseWindow]

theorem exec_framePulse_highway (hs : s.timeBase.source = .highway) (ns : Nat) (since : Option Nat) :
    exec (.framePulse ns since inputs) s = .next (s.acceptPulse ns inputs) := by
  show execFramePulse ns since inputs s = _
  rw [execFramePulse, hs]

theorem exec_pulseMissing_highway (hs : s.timeBase.source = .highway) :
    exec (.pulseMissing inputs) s = .next (s.missPulse inputs) := by
  show execPulseMissing inputs s = _
  rw [execPulseMissing, hs]

theorem State.acceptPulse_inWindow {ns : Nat} (h : 120000 ≤ ns ∧ ns ≤ 130000) : s.acceptPulse ns inputs =
    ({ s with timeBase := { s.timeBase with missCount := 0 } }.beginFrame.serveFrame inputs) :=
  if_pos (inPulseWindow_iff.mpr h)

theorem State.acceptPulse_early {ns : Nat} (h : ns < 120000) : s.acceptPulse ns inputs = s :=
  if_neg fun inWindow => by have := inPulseWindow_iff.mp inWindow; omega

theorem State.missPulse_below (h : s.timeBase.missCount < 2) : s.missPulse inputs = ({ s with
    timeBase := { s.timeBase with missCount := s.timeBase.missCount + 1 } }.beginFrame.serveFrame inputs) :=
  if_pos (by omega)

/-- The third missing pulse: HOLDOVER, CLOCK LOST, and a frame that drives nothing (R104, R105). -/
theorem State.missPulse_third (h : s.timeBase.missCount = 2) : s.missPulse inputs = (({ s with
    outputs := Table.replicate 192 none
    timeBase := { s.timeBase with source := .holdover, missCount := 0, restoreCount := 0, holdoverLength := 0 } }.raise
      ⟨.clockLost, 0, []⟩).beginFrame) :=
  if_neg (by omega)

end Highway

/-! ## HOLDOVER and the return of the clock (R105, R106) -/

section Holdover

variable {s : State} (hs : s.timeBase.source = .holdover)
include hs

theorem exec_holdoverFrame_holdover :
    exec .holdoverFrame s = .next { s with outputs := Table.replicate 192 none }.beginFrame := by
  show execHoldoverFrame s = _
  rw [execHoldoverFrame, hs]
  rfl

theorem exec_restoreRunTimeout_holdover :
    exec .restoreRunTimeout s = .next { s with timeBase := { s.timeBase with restoreCount := 0 } } := by
  show execRestoreRunTimeout s = _
  rw [execRestoreRunTimeout, hs]

theorem exec_framePulse_holdover (ns : Nat) (since : Option Nat) (inputs : Table Byte 192) :
    exec (.framePulse ns since inputs) s = .next (s.restorePulse since inputs) := by
  show execFramePulse ns since inputs s = _
  rw [execFramePulse, hs]

end Holdover

theorem any_inPulseWindow_iff {since : Option Nat} :
    since.any inPulseWindow = true ↔ ∃ n, since = some n ∧ 120000 ≤ n ∧ n ≤ 130000 := by
  cases since <;> simp [inPulseWindow_iff]

section Restore

variable {s : State} {since : Option Nat} (inputs : Table Byte 192)

theorem State.restorePulse_builds (h : restoreAfter s.timeBase.restoreCount since < 16) :
    s.restorePulse since inputs =
      { s with timeBase := { s.timeBase with restoreCount := restoreAfter s.timeBase.restoreCount since } } :=
  if_neg (Nat.not_le.mpr h)

/-- The sixteenth pulse of a run (R106, R171). -/
theorem State.restorePulse_returns (h : 16 ≤ restoreAfter s.timeBase.restoreCount since) :
    s.restorePulse since inputs = (({ s with
      contexts := s.contexts.map Context.resume
      timeBase := { s.timeBase with source := .highway, missCount := 0, restoreCount := 0 } }.raise
        ⟨.clockRestored, 0, numLong s.timeBase.holdoverLength⟩).beginFrame.serveFrame inputs) :=
  if_pos h

end Restore

theorem Context.resume_still {c : Context} (h : c.state = .free ∨ c.state = .keyWait) : c.resume = c :=
  if_neg (CtxState.still_of h)

/-- A running context on the return to HIGHWAY: its shuffle blocks emptied, its receive side in HUNT (R171, R177). -/
theorem Context.resume_running {c : Context} (h : c.state = .active ∨ c.state = .held) : c.resume = { c with
    tx := c.tx.map (fun t => { t with collected := [], emitting := none })
    rx := c.rx.map (fun r => { r with
      state := .hunt, virgin := r.virgin && !r.stepped, window := []
      parse := if r.state = .hunt then r.parse else .none
      rebuild := Table.replicate 8 none, ready := none }) } :=
  if_pos h

/-- Settles O53: the two sources, the window, the third missing pulse and the sixteenth of a run. -/
theorem pulsesHoldoverAndRestore : Obligations.PulsesHoldoverAndRestore := by
  refine ⟨⟨fun ns since inputs s hs => ⟨fun lo hi => ?accepted, fun early => ?ignored⟩,
      fun inputs s hs => ⟨fun below => ?missed, fun third => ?lost⟩⟩,
    fun s hs => ⟨exec_holdoverFrame_holdover hs, exec_restoreRunTimeout_holdover hs⟩,
    fun ns run since inputs s hs hrun => ?restore⟩
  case accepted => rw [exec_framePulse_highway inputs hs, State.acceptPulse_inWindow inputs ⟨lo, hi⟩]
  case ignored => rw [exec_framePulse_highway inputs hs, State.acceptPulse_early inputs early]
  case missed => rw [exec_pulseMissing_highway inputs hs, State.missPulse_below inputs below]
  case lost => rw [exec_pulseMissing_highway inputs hs, State.missPulse_third inputs third]
  case restore =>
    obtain rfl : run = restoreAfter s.timeBase.restoreCount since := by
      rw [hrun, restoreAfter]
      simp only [any_inPulseWindow_iff]
    rw [exec_framePulse_holdover hs]
    refine ⟨fun builds => ?builds, fun full =>
      ⟨s.contexts.map Context.resume, fun x h => ?still, fun x h => ?running, ?returns⟩⟩
    case builds => rw [State.restorePulse_builds inputs builds]
    case still => exact (Table.get_map _ _ x).trans (Context.resume_still h)
    case running => exact (Table.get_map _ _ x).trans (Context.resume_running h)
    case returns => rw [State.restorePulse_returns inputs full]

/-! ## Entries at a second tick (R5) -/

section Second

variable {e : Entry}

theorem Entry.second_bound (h : e.state = .admitted ∨ e.state = .moving) : e.second =
    { e with refresh := e.refresh.map (· - 1), refreshDue := e.refreshDue || decide (e.refresh = some 1) } := by
  have notLocked : ¬ e.state = .locked := by rcases h with h | h <;> simp [h]
  simp only [Entry.second, Entry.refreshFall, if_pos h, Entry.lockFall, if_neg notLocked]

theorem Entry.second_locked (h : e.state = .locked) {k : LockRemaining} (hk : e.lock = some k) :
    e.second = { e with lock := some k.fall } := by
  have unbound : ¬ (e.state = .admitted ∨ e.state = .moving) := by simp [h]
  simp only [Entry.second, Entry.refreshFall, if_neg unbound, Entry.lockFall, if_pos h, hk, Option.map_some]

/-- A lock "until unlocked" does not fall (R5). -/
theorem Entry.second_untilUnlocked (h : e.state = .locked) (hk : e.lock = some .untilUnlocked) : e.second = e := by
  rw [Entry.second_locked h hk]
  cases e
  cases hk
  rfl

theorem Entry.second_still (h : e.state = .unbound ∨ e.state = .challenged) : e.second = e := by
  have unbound : ¬ (e.state = .admitted ∨ e.state = .moving) := by rcases h with h | h <;> simp [h]
  have notLocked : ¬ e.state = .locked := by rcases h with h | h <;> simp [h]
  simp only [Entry.second, Entry.refreshFall, if_neg unbound, Entry.lockFall, if_neg notLocked]

end Second

/-! ## Ticks (R105, R107) -/

theorem Call.tick_eq (c : Call) : c.tick = { c with
    connectedTime := if c.state = .connected ∨ c.state = .held
      then c.connectedTime.map (fun n => min 4294967295 (n + 1)) else c.connectedTime } := by
  unfold Call.tick
  split <;> rfl

theorem TimeBase.lengthTick_eq (t : TimeBase) : t.lengthTick = { t with
    holdoverLength := if t.source = .holdover then min 4294967295 (t.holdoverLength + 1) else t.holdoverLength } := by
  unfold TimeBase.lengthTick
  split
  case h_1 lost => rw [if_pos lost]; rfl
  case h_2 present => rw [if_neg (by simp [present])]

/-- What an entry counts at a tick, which is a second tick or not (R107). -/
def Entry.ticked (second : Bool) (e : Entry) : Entry := if second then e.tick.second else e.tick

/-- All that a tick changes (R105, R107). -/
theorem State.tick_eq (s : State) : s.tick = { s with
    directory := s.directory.map (Option.map (Entry.ticked (decide (s.timeBase.secondDivider = 999))))
    ports := s.ports.map PortRec.tick
    waitQueue := s.waitQueue.map WaitItem.tick
    calls := s.calls.map (Option.map Call.tick)
    timeBase := { s.timeBase with
      secondDivider := if s.timeBase.secondDivider = 999 then 0 else s.timeBase.secondDivider + 1
      holdoverLength := if s.timeBase.source = .holdover then min 4294967295 (s.timeBase.holdoverLength + 1)
        else s.timeBase.holdoverLength } } := by
  have seconds : ∀ d : Table (Option Entry) 320, (d.map (Option.map Entry.tick)).map (Option.map Entry.second) =
      d.map (Option.map (Entry.ticked true)) := fun d => Table.ext_get fun ix => by
    simp only [Table.get_map, Option.map_map]
    rfl
  have divides : s.timeBase.secondDivider + 1 = 1000 ↔ s.timeBase.secondDivider = 999 := by omega
  simp only [State.tick, TimeBase.lengthTick_eq]
  by_cases h : s.timeBase.secondDivider = 999
  case pos =>
    simp only [State.millisecond, State.secondTick, h, if_true, decide_true, seconds]
    rfl
  case neg =>
    simp only [State.millisecond, divides, h, if_false, decide_false]
    rfl

section Frame

variable {s : State}

theorem State.beginFrame_between (h : s.timeBase.tickDivider < 7) : s.beginFrame = { s with
    handling := s.handling.map (fun h => ⟨h.reply, true⟩)
    timeBase := { s.timeBase with tickDivider := s.timeBase.tickDivider + 1 } } :=
  if_neg (by dsimp only; omega)

/-- Every eighth frame is a tick (R107). -/
theorem State.beginFrame_eighth (h : s.timeBase.tickDivider = 7) : s.beginFrame =
    ({ s with handling := s.handling.map HeldReply.seen, timeBase := { s.timeBase with tickDivider := 0 } } : State).tick :=
  if_pos (by dsimp only; omega)

theorem State.entry_beginFrame_eighth (h : s.timeBase.tickDivider = 7) (ix : ExtIx) : s.beginFrame.entry? ix =
    (s.entry? ix).map (Entry.ticked (decide (s.timeBase.secondDivider = 999))) := by
  rw [State.beginFrame_eighth h, State.tick_eq]
  exact Table.get_map _ _ ix

end Frame

/-- Settles O54: a frame between ticks, and all that the eighth frame's tick changes, with the entries by their state. -/
theorem framesTicksAndSeconds : Obligations.FramesTicksAndSeconds := by
  refine ⟨fun s h => State.beginFrame_between h,
    fun s h => ⟨fun p => ?port, ?waits, fun i c hc => ?call, ?time, ?entries, fun ix he => ?free⟩⟩
  case port =>
    rw [State.beginFrame_eighth h, State.tick_eq]
    exact Table.get_map _ _ p
  case waits =>
    rw [State.beginFrame_eighth h, State.tick_eq]
    rfl
  case call =>
    rw [State.beginFrame_eighth h, State.tick_eq, ← Call.tick_eq]
    exact (Table.get_map _ _ i).trans (congrArg (Option.map Call.tick) hc)
  case time => rw [State.beginFrame_eighth h, State.tick_eq]
  case entries =>
    rintro ix e _ he rfl
    have after := State.entry_beginFrame_eighth h ix
    rw [he, Option.map_some] at after
    refine ⟨fun between => ?tick, fun second bound => ?bound, fun n second locked hl => ?seconds,
      fun second locked hl => ?untilUnlocked, fun second rests => ?rests⟩ <;> rw [after, Entry.ticked]
    case tick => rw [if_neg (by simp [between])]; rfl
    case bound => rw [if_pos (by simp [second]), Entry.second_bound (e := e.tick) bound]; rfl
    case seconds => rw [if_pos (by simp [second]), Entry.second_locked (e := e.tick) locked hl]; rfl
    case untilUnlocked => rw [if_pos (by simp [second]), Entry.second_untilUnlocked (e := e.tick) locked hl]; rfl
    case rests => rw [if_pos (by simp [second]), Entry.second_still (e := e.tick) rests]; rfl
  case free => rw [State.entry_beginFrame_eighth h, he]; rfl

end Sys2Proof.Machine

/-!
PROOFS. Calls opened, held, retrieved, refused and cleared, and the end of a call (O44, O47, O48; R121 to R123, R133 to
R137): one equation per operation of the call table.
-/

namespace Sys2Proof.Machine

/-! ## The entry of a call (R117, R118) -/

section Found

variable {s : State} {id : CallId} {i : Fin 128} {c : Call}

/-- In a wired state the id of a call finds its entry. -/
theorem State.wired.findCall (h : s.wired) (hc : s.calls.get i = some c) : s.findCall c.id = some i := by
  refine Table.find?_unique (by simp [hc]) fun j hj => ?_
  cases hd : s.calls.get j with
  | none => simp [hd] at hj
  | some d => exact h.idDistinct j i d c hd hc (by simpa [hd] using hj)

theorem State.call?_found (hf : s.findCall id = some i) (hc : s.calls.get i = some c) : s.call? id = some c := by
  simp [State.call?, hf, hc]

theorem State.modCall_found (hf : s.findCall id = some i) (hc : s.calls.get i = some c) (g : Call → Call) :
    s.modCall id g = s.putCall i (some (g c)) := by
  simp [State.modCall, hf, hc]

theorem State.freeCall_found (hf : s.findCall id = some i) : s.freeCall id = s.putCall i none := by
  simp [State.freeCall, hf]

theorem State.call?_id (h : s.call? id = some c) : c.id = id ∧ ∃ i, s.findCall id = some i ∧ s.calls.get i = some c := by
  unfold State.call? at h
  split at h
  case h_2 => cases h
  case h_1 j hj =>
    obtain ⟨d, hd, hdj⟩ := State.findCall_some hj
    obtain rfl := Option.some.inj (hd.symm.trans h)
    exact ⟨hdj, j, hj, h⟩

/-- Only the call table decides where an id is found. -/
theorem State.findCall_congr {t : State} (h : t.calls = s.calls) (id : CallId) : t.findCall id = s.findCall id := by
  simp only [State.findCall, h]

/-- Only the call table and the Next-Id Position decide the id of the next call (R118). -/
theorem State.freshId_congr {t : State} (h : t.calls = s.calls) (hn : t.nextId = s.nextId) : t.freshId = s.freshId := by
  have search : ∀ fuel id, t.searchId fuel id = s.searchId fuel id := by
    intro fuel
    induction fuel with
    | zero => exact fun _ => rfl
    | succ fuel ih =>
      intro id
      simp only [State.searchId, State.findCall_congr h, ih]
  rw [State.freshId, State.freshId, hn, search]

end Found

/-! ## Updates beside the admission unit

An update of the call table or the key store stands beside what the admission unit and the loops do: each operation of
theirs does the same before it as after it. -/

/-- The update neither reads nor writes the directory, the ports, the loops and the outgoing side of the link. -/
structure Beside (f : State → State) : Prop where
  directory : ∀ s, (f s).directory = s.directory
  ports : ∀ s, (f s).ports = s.ports
  loops : ∀ s, (f s).loops = s.loops
  putEntry : ∀ s ix e, (f s).putEntry ix e = f (s.putEntry ix e)
  putPort : ∀ s p r, (f s).putPort p r = f (s.putPort p r)
  putLoop : ∀ s l r, (f s).putLoop l r = f (s.putLoop l r)
  raise : ∀ s i, (f s).raise i = f (s.raise i)

/-- An entry of the call table written. -/
theorem Beside.putCall (i : Fin 128) (c : Option Call) : Beside (State.putCall i c) :=
  ⟨fun _ => rfl, fun _ => rfl, fun _ => rfl, fun _ _ _ => rfl, fun _ _ _ => rfl, fun _ _ _ => rfl, fun _ _ => rfl⟩

namespace Beside

variable {f : State → State} (b : Beside f) (s : State)
include b

theorem entry (ix : ExtIx) : (f s).entry? ix = s.entry? ix := by simp only [State.entry?, b.directory]

theorem port (p : Port) : (f s).port p = s.port p := by simp only [State.port, b.ports]

theorem loop (l : LoopNo) : (f s).loop l = s.loop l := by simp only [State.loop, b.loops]

theorem modEntry (ix : ExtIx) (g : Entry → Entry) : (f s).modEntry ix g = f (s.modEntry ix g) := by
  rw [State.modEntry_eq, State.modEntry_eq, b.entry, b.putEntry]

theorem loseBlock (p : Port) (q : Option QueueRec) : (f s).loseBlock p q = f (s.loseBlock p q) := by
  unfold State.loseBlock
  split
  case h_2 => rfl
  case h_1 =>
    unfold State.loseChallenge
    rw [State.challengeAt_congr (b.directory s)]
    split
    case h_1 => exact b.modEntry s _ _
    case h_2 => rfl

theorem offer (p : Port) (o : OutBlock) : (f s).offer p o = f (s.offer p o) := by
  unfold State.offer
  rw [b.port]
  split
  case h_1 => rfl
  case h_2 => dsimp only; rw [b.loop, b.putLoop, b.loseBlock]

theorem endNotice (p : Port) (n : Option NoticeReason) : (f s).endNotice p n = f (s.endNotice p n) := by
  cases n with
  | none => rfl
  | some _ => exact b.offer s p _

theorem releaseBinding (ix : ExtIx) : (f s).releaseBinding ix = f (s.releaseBinding ix) := by
  unfold State.releaseBinding
  rw [b.entry]
  cases s.entry? ix with
  | none => rfl
  | some e =>
    dsimp only
    cases e.bound with
    | none => rfl
    | some q => dsimp only; rw [b.port, b.putEntry, b.putPort]

theorem lapse (ix : ExtIx) (cause : LapseCause) : (f s).lapse ix cause = f (s.lapse ix cause) := by
  unfold State.lapse
  rw [b.entry]
  cases s.entry? ix with
  | none => rfl
  | some e =>
    dsimp only
    split
    case isTrue => exact b.putEntry s _ _
    case isFalse =>
      cases e.bound with
      | none => rfl
      | some q => dsimp only; rw [b.releaseBinding, b.modEntry, b.offer, b.raise]

theorem deferredLapse (ix : ExtIx) : (f s).deferredLapse ix = f (s.deferredLapse ix) := by
  unfold State.deferredLapse
  rw [b.entry]
  cases s.entry? ix with
  | none => rfl
  | some e =>
    dsimp only
    cases e.overdue with
    | none => rfl
    | some cause => exact b.lapse s ix cause

end Beside

/-! ## Several contexts changed -/

/-- Contexts changed one after another, by a change that done twice is done once. -/
theorem State.foldl_putContext {g : Context → Context} (twice : ∀ a, g (g a) = g a) (xs : List CtxId) (s : State) :
    xs.foldl (fun s x => s.putContext x (g (s.context x))) s =
      { s with contexts := Table.tabulate fun x => if x ∈ xs then g (s.context x) else s.context x } := by
  induction xs generalizing s with
  | nil =>
    have same : (Table.tabulate fun x => s.context x) = s.contexts := Table.tabulate_get s.contexts
    simp [same]
  | cons y xs ih =>
    rw [List.foldl_cons, ih]
    have tables : (Table.tabulate fun x => if x ∈ xs then g ((s.putContext y (g (s.context y))).context x)
          else (s.putContext y (g (s.context y))).context x) =
        Table.tabulate fun x => if x ∈ y :: xs then g (s.context x) else s.context x := by
      refine congrArg Table.tabulate (funext fun x => ?_)
      by_cases hx : x = y
      · subst hx
        simp [twice]
      · simp [hx]
    rw [tables]
    rfl

/-- Contexts freed: each is FREE and out of the wait queue (R137, R172). -/
theorem State.freeContexts_eq (xs : List CtxId) (s : State) : s.freeContexts xs = { s with
    waitQueue := s.waitQueue.filter fun w => decide (w.ctx ∉ xs)
    contexts := Table.tabulate fun x => if x ∈ xs then Context.free else s.context x } := by
  unfold State.freeContexts
  induction xs generalizing s with
  | nil =>
    have same : (Table.tabulate fun x => s.context x) = s.contexts := Table.tabulate_get s.contexts
    simp [same]
  | cons y xs ih =>
    rw [List.foldl_cons, ih]
    have tables : (Table.tabulate fun x => if x ∈ xs then Context.free else (s.freeContext y).context x) =
        Table.tabulate fun x => if x ∈ y :: xs then Context.free else s.context x := by
      refine congrArg Table.tabulate (funext fun x => ?_)
      have freed : (s.freeContext y).context x = if x = y then Context.free else s.context x :=
        State.context_putContext _ _ _ _
      rw [freed]
      by_cases hx : x = y <;> simp [hx]
    have queues : (s.freeContext y).waitQueue.filter (fun w => decide (w.ctx ∉ xs)) =
        s.waitQueue.filter fun w => decide (w.ctx ∉ y :: xs) := by
      show (s.waitQueue.filter fun w => decide (w.ctx ≠ y)).filter _ = _
      rw [List.filter_filter]
      exact List.filter_congr fun w _ => by simp [Bool.and_comm]
    rw [tables, queues]
    rfl

/-! ## OPEN CALL (R121, R122) -/

/-- An index outside the directory, BAR, or a code that names no verdict (R121, step 1). -/
theorem openCallAct_badRequest {index : Word} {verdict : Byte} (h : 319 < index.toNat ∨ verdict = 0 ∨ 4 ≤ verdict.toNat)
    (s : State) : openCallAct index verdict s = s.refuse .badRequest := by
  unfold openCallAct
  rcases h with h | h | h
  · rw [below_none (by omega)]
  · subst h
    have bar : verdictOf 0 = some .bar := rfl
    rw [bar]
    cases below 320 index.toNat <;> rfl
  · rw [verdictOf_none (by omega)]
    cases below 320 index.toNat <;> rfl

/-- OPEN CALL of good form goes to the extension it names. -/
theorem openCallAct_eq {index : Word} {ix : ExtIx} {v : Verdict} (hi : ix.val = index.toNat) (hv : v ≠ .bar) (s : State) :
    openCallAct index v.octet s = s.openTo ix v := by
  simp [openCallAct, below_eq hi, hv]

section Open

variable {s : State} {ix : ExtIx} {e : Entry} {q : Port} (v : Verdict)

theorem State.openTo_noSuch (he : s.entry? ix = none) : s.openTo ix v = s.refuse .noSuch := by
  simp [State.openTo, he]

theorem State.openTo_moving (he : s.entry? ix = some e) (hs : e.state = .moving) : s.openTo ix v = s.refuse .busy := by
  simp [State.openTo, he, hs]

theorem State.openTo_notAdmitted (he : s.entry? ix = some e)
    (hs : e.state = .unbound ∨ e.state = .challenged ∨ e.state = .locked) : s.openTo ix v = s.refuse .notAdmitted := by
  rcases hs with hs | hs | hs <;> simp [State.openTo, he, hs]

theorem State.openTo_busy (he : s.entry? ix = some e) (hs : e.state = .admitted) (hb : e.bound = some q)
    (hq : (s.port q).dial ≠ .idle) : s.openTo ix v = s.refuse .busy := by
  simp [State.openTo, he, hs, hb, hq]

theorem State.openTo_full (he : s.entry? ix = some e) (hs : e.state = .admitted) (hb : e.bound = some q)
    (hq : (s.port q).dial = .idle) (full : ∀ i, s.calls.get i ≠ none) : s.openTo ix v = s.refuse .full := by
  simp [State.openTo, he, hs, hb, hq, State.freeSlot_full full]

/-- The state in which a call of origin TRUNK has been offered to an extension (R119, R122). -/
def State.offered (s : State) (i : Fin 128) (ix : ExtIx) (e : Entry) (q : Port) (v : Verdict) : State :=
  (({ s with
    calls := s.calls.set i (some ⟨s.freshId, .offered, .trunk, q, ix, [], v, [], [], 0, none⟩)
    nextId := s.freshId }.putEntry ix (some { e with liveCall := some s.freshId })).putPort q
      { s.port q with call := some s.freshId, dial := .alerted }).offer q (.notice .alert)

theorem State.offered_admitFrame (g : Frame) (s : State) (i : Fin 128) (ix : ExtIx) (e : Entry) (q : Port) :
    (s.admitFrame g).offered i ix e q v = (s.offered i ix e q v).admitFrame g := by
  unfold State.offered
  rw [State.freshId_congr (s := s) (t := s.admitFrame g) rfl rfl]
  exact State.offer_admitFrame g (State.putPort _ _ (State.putEntry _ _ { s with calls := _, nextId := _ })) q _

/-- With an entry free the call is created in it, and offered (R119, R122). -/
theorem State.openTo_offers {i : Fin 128} (he : s.entry? ix = some e) (hs : e.state = .admitted) (hb : e.bound = some q)
    (hq : (s.port q).dial = .idle) (hi : s.freeSlot = some i) :
    s.openTo ix v = (s.offered i ix e q v, { code := .done, data := [s.freshId] }) := by
  have created : s.createCall i (.fresh s.freshId .offered .trunk q ix [] v) =
      ({ s with
        calls := s.calls.set i (some ⟨s.freshId, .offered, .trunk, q, ix, [], v, [], [], 0, none⟩)
        nextId := s.freshId }.putEntry ix (some { e with liveCall := some s.freshId })).putPort q
          { s.port q with call := some s.freshId } := by
    have live : (s.entry? ix).map (fun e => { e with liveCall := some s.freshId }) =
        some { e with liveCall := some s.freshId } := congrArg _ he
    rw [← live]
    rfl
  simp only [State.openTo, he, if_false, hs, hb, hq, ne_eq, not_true_eq_false, hi]
  rw [created, State.port_putPort_self, State.putPort_putPort]
  rfl

end Open

/-- Settles O44: the checks of OPEN CALL one by one, and the OFFERED call when they all pass. -/
theorem openCallOffersACall : Obligations.OpenCallOffersACall := by
  rintro tag verdict index f s rfl ht
  refine ⟨fun bad => ?bad, ?good⟩
  case bad => exact congrArg Host.Outcome.next (State.serve_refused rfl ht (openCallAct_badRequest bad _))
  case good =>
    rintro ix v hi rfl hv
    have refused : ∀ {code}, (s.admitFrame ⟨40, tag, wordOctets index ++ [v.octet]⟩).openTo ix v =
        (s.admitFrame ⟨40, tag, wordOctets index ++ [v.octet]⟩).refuse code →
        exec (.openCall tag index v.octet) s =
          .next (s.replied ⟨40, tag, wordOctets index ++ [v.octet]⟩ code []) := fun h =>
      congrArg Host.Outcome.next (State.serve_refused rfl ht ((openCallAct_eq hi hv _).trans h))
    refine ⟨fun he => refused (State.openTo_noSuch v he), fun e he hs => refused (State.openTo_moving v he hs),
      fun e he hs => refused (State.openTo_notAdmitted v he hs),
      fun e q he hs hb hq => refused (State.openTo_busy v he hs hb hq),
      fun e q he hs hb hq full => refused (State.openTo_full v he hs hb hq full), ?offers⟩
    rintro e q i id he hs hb hq free lowest rfl
    refine congrArg Host.Outcome.next (State.serve_replied (t := s.offered i ix e q v) rfl ht ?_)
    rw [openCallAct_eq hi hv, State.openTo_offers (s := s.admitFrame _) v he hs hb hq (State.freeSlot_lowest free lowest),
      State.offered_admitFrame, State.freshId_congr (s := s) (t := s.admitFrame _) rfl rfl]

/-! ## HOLD CALL and RETRIEVE CALL (R133, R134) -/

/-- A call and its contexts in new states (R133, R134). -/
def State.moved (s : State) (i : Fin 128) (c : Call) (state : CallState) (ctxState : CtxState) : State :=
  { s with
    calls := s.calls.set i (some { c with state := state })
    contexts := Table.tabulate fun x =>
      if x ∈ c.contexts then { s.context x with state := ctxState } else s.context x }

theorem State.moveCall_eq {s : State} {i : Fin 128} {c : Call} (hf : s.findCall c.id = some i)
    (hc : s.calls.get i = some c) (state : CallState) (ctxState : CtxState) :
    s.moveCall c state ctxState = s.moved i c state ctxState := by
  unfold State.moveCall
  rw [State.foldl_putContext (g := fun a => { a with state := ctxState }) (fun _ => rfl), State.modCall_found hf hc]
  rfl

theorem State.moved_admitFrame (g : Frame) (s : State) (i : Fin 128) (c : Call) (state : CallState)
    (ctxState : CtxState) : (s.admitFrame g).moved i c state ctxState = (s.moved i c state ctxState).admitFrame g := rfl

theorem State.context_moved (s : State) (i : Fin 128) (c : Call) (state : CallState) (ctxState : CtxState) (x : CtxId) :
    (s.moved i c state ctxState).contexts.get x =
      if x ∈ c.contexts then { s.context x with state := ctxState } else s.context x := Table.get_tabulate _ _

section OnCall

variable {s : State} {f : Frame} {instr : Instr} {id : CallId} {act : Call → State → State × Answer}

/-- A request on an id that no call holds. -/
theorem State.serve_onCall_noSuch (hf : instr.frame? = some f) (ht : s.takes f = true) (h : s.call? id = none) :
    s.serve instr (State.onCall id act) = s.replied f .noSuch [] :=
  State.serve_refused hf ht (State.onCall_noSuch h f)

/-- A request that its call's state refuses. -/
theorem State.serve_onCall_refused {c : Call} {code : Code} (hf : instr.frame? = some f) (ht : s.takes f = true)
    (h : s.call? id = some c) (ha : ∀ t : State, act c t = t.refuse code) :
    s.serve instr (State.onCall id act) = s.replied f code [] :=
  State.serve_refused hf ht ((State.onCall_some h f).trans (ha _))

/-- A request carried out on its call, its reply held back. -/
theorem State.serve_onCall_heldBack {c : Call} {t : State} {data : List Byte} (hf : instr.frame? = some f)
    (ht : s.takes f = true) (h : s.call? id = some c)
    (ha : act c (s.admitFrame f) = (t.admitFrame f, { code := .done, data := data, held := true })) :
    s.serve instr (State.onCall id act) = t.heldBack f .done data :=
  State.serve_heldBack hf ht ((State.onCall_some h f).trans ha)

end OnCall

/-- Settles O47: both requests by the state of the call, which moves with its contexts. -/
theorem holdAndRetrieve : Obligations.HoldAndRetrieve := by
  have moves : ∀ {s : State} {g : Frame} {id : CallId} {i : Fin 128} {c : Call} (state ctxState),
      s.findCall id = some i → s.calls.get i = some c → (s.admitFrame g).moveCall c state ctxState =
        (s.moved i c state ctxState).admitFrame g := by
    intro s g id i c state ctxState hi hc
    obtain ⟨d, hd, rfl⟩ := State.findCall_some hi
    obtain rfl := Option.some.inj (hd.symm.trans hc)
    exact (State.moveCall_eq (s := s.admitFrame g) hi hc _ _).trans (State.moved_admitFrame _ _ _ _ _ _)
  constructor
  case left =>
    refine fun tag id s ht => ⟨fun h => congrArg _ (State.serve_onCall_noSuch rfl ht h),
      fun c h hs => congrArg _ (State.serve_onCall_refused rfl ht h fun t => if_neg hs),
      fun c i hi hc hs => ⟨_, State.context_moved s i c .held .held, ?_⟩⟩
    refine congrArg _ (State.serve_onCall_heldBack (t := s.moved i c .held .held) rfl ht (State.call?_found hi hc) ?_)
    rw [holdCallAct, if_pos hs, moves _ _ hi hc]
  case right =>
    refine fun tag id s ht => ⟨fun h => congrArg _ (State.serve_onCall_noSuch rfl ht h),
      fun c h hs => congrArg _ (State.serve_onCall_refused rfl ht h fun t => if_neg hs),
      fun c i hi hc hs => ⟨_, State.context_moved s i c .connected .active, ?_⟩⟩
    refine congrArg _ (State.serve_onCall_heldBack (t := s.moved i c .connected .active) rfl ht
      (State.call?_found hi hc) ?_)
    rw [retrieveCallAct, if_pos hs, moves _ _ hi hc]

/-! ## The end of a call (R137) -/

theorem AdmissionOnly.calls {s t : State} (h : AdmissionOnly s t) : t.calls = s.calls := by
  obtain ⟨_, _, _, _, _, rfl⟩ := h
  rfl

theorem AdmissionOnly.endNotice (p : Port) (n : Option NoticeReason) (s : State) : AdmissionOnly s (s.endNotice p n) := by
  cases n with
  | none => exact refl s
  | some _ => exact offer p _ s

theorem AdmissionOnly.deferredLapse (ix : ExtIx) (s : State) : AdmissionOnly s (s.deferredLapse ix) := by
  unfold State.deferredLapse
  split
  case h_2 => exact refl s
  case h_1 =>
    split
    case h_1 => exact lapse ix _ s
    case h_2 => exact refl s

/-- With no lapse deferred there is none to complete (R82). -/
theorem State.deferredLapse_none {s : State} {ix : ExtIx} {e : Entry} (he : s.entry? ix = some e) (ho : e.overdue = none) :
    s.deferredLapse ix = s := by
  simp [State.deferredLapse, he, ho]

theorem State.deferredLapse_some {s : State} {ix : ExtIx} {e : Entry} {cause : LapseCause} (he : s.entry? ix = some e)
    (ho : e.overdue = some cause) : s.deferredLapse ix = s.lapse ix cause := by
  simp [State.deferredLapse, he, ho]

/-- The state a call has left, but for its notice and a deferred lapse (R137, steps 1 to 3 and 6). -/
def State.ended (s : State) (i : Fin 128) (c : Call) (e : Entry) : State :=
  ({ s with
    connections := s.connections.map (fun o : Option Path => o.filter (fun p => decide (p.owner ≠ c.id)))
    waitQueue := s.waitQueue.filter (fun w => decide (w.ctx ∉ c.contexts))
    contexts := Table.tabulate (fun x => if x ∈ c.contexts then Context.free else s.context x)
    calls := s.calls.set i none }.putPort c.port { s.port c.port with
      call := none, dial := if (s.port c.port).hook = Hook.off then .blocked else .idle }).putEntry c.ext
        (some { e with liveCall := none })

theorem PortRec.callEnded_eq (r : PortRec) :
    r.callEnded = { r with call := none, dial := if r.hook = .off then .blocked else .idle } := by
  unfold PortRec.callEnded
  cases h : r.hook <;> simp

section End

variable {s : State} {i : Fin 128} {c : Call} {e : Entry}

/-- The end of a call in its order of R137, the call's entry free before its notice. -/
theorem State.wired.endCall_eq (h : s.wired) (hc : s.calls.get i = some c) (he : s.entry? c.ext = some e)
    (notice : Option NoticeReason) :
    s.endCall c notice = ((s.ended i c e).endNotice c.port notice).deferredLapse c.ext := by
  have b := Beside.putCall i none
  have whole : ((((s.removePaths c.id).freeContexts c.contexts).putPort c.port
      (((s.removePaths c.id).freeContexts c.contexts).port c.port).callEnded).modEntry c.ext
        (fun e => { e with liveCall := none })).putCall i none = s.ended i c e := by
    have entry : (s.entry? c.ext).map (fun e => { e with liveCall := none }) = some { e with liveCall := none } :=
      congrArg _ he
    rw [State.freeContexts_eq, PortRec.callEnded_eq, State.ended, ← entry]
    rfl
  rw [← whole, b.endNotice, b.deferredLapse]
  refine State.freeCall_found ((State.findCall_congr ?_ c.id).trans (h.findCall hc))
  rw [(AdmissionOnly.deferredLapse _ _).calls, (AdmissionOnly.endNotice _ _ _).calls]
  exact (State.freeContexts_wires c.contexts (s.removePaths c.id)).2.2

/-- The frame in the holding stands beside the end of a call. -/
theorem State.endCall_admitFrame (f : Frame) (s : State) (c : Call) (notice : Option NoticeReason) :
    (s.admitFrame f).endCall c notice = (s.endCall c notice).admitFrame f := by
  have b : Beside (State.admitFrame f) :=
    ⟨fun _ => rfl, fun _ => rfl, fun _ => rfl, fun _ _ _ => rfl, fun _ _ _ => rfl, fun _ _ _ => rfl, fun _ _ => rfl⟩
  have freed : ((s.admitFrame f).removePaths c.id).freeContexts c.contexts =
      ((s.removePaths c.id).freeContexts c.contexts).admitFrame f := by
    rw [State.freeContexts_eq, State.freeContexts_eq]
    rfl
  have removed : ∀ t : State, (t.admitFrame f).freeCall c.id = (t.freeCall c.id).admitFrame f := by
    intro t
    have same : (t.admitFrame f).findCall c.id = t.findCall c.id := rfl
    unfold State.freeCall
    rw [same]
    cases t.findCall c.id <;> rfl
  unfold State.endCall
  simp only [freed, b.port, b.putPort, b.modEntry, b.endNotice, b.deferredLapse, removed]

/-- The port of a call that has ended is bound, so that no challenge is pending there. -/
theorem State.wired.ended_unchallenged (h : s.wired) (hc : s.calls.get i = some c) (he : s.entry? c.ext = some e) :
    (s.ended i c e).unchallenged c.port := by
  obtain ⟨d, hd, -, hb⟩ := h.callEntry i c hc
  obtain rfl := Option.some.inj (hd.symm.trans he)
  have seat := h.portOfEntry c.ext d c.port he hb
  intro jx f k hf hk
  have entries : (s.ended i c d).entry? jx = if jx = c.ext then some { d with liveCall := none } else s.entry? jx :=
    State.entry_putEntry _ _ _ _
  rw [entries] at hf
  split at hf
  case isTrue => cases hf; exact h.unchallenged seat c.ext d k he hk
  case isFalse => exact h.unchallenged seat jx f k hf hk

/-- The extension of a call that has ended, also after the call's notice. -/
theorem State.wired.entry_ended (h : s.wired) (hc : s.calls.get i = some c) (he : s.entry? c.ext = some e)
    (notice : Option NoticeReason) :
    ((s.ended i c e).endNotice c.port notice).entry? c.ext = some { e with liveCall := none } :=
  ((h.ended_unchallenged hc he).entry_endNotice notice c.ext).trans (State.entry_putEntry_self _ _ _)

end End

/-- Settles O48: the requests by the state of the call, and the end of a call by the overdue mark of its extension. -/
theorem callEndFreesEverything : Obligations.CallEndFreesEverything := by
  refine ⟨⟨fun tag id s ht => ⟨fun h => ?refusesNone, fun c h h1 h2 => ?refused, fun c h hs => ?refuses⟩,
    fun tag id s ht => ⟨fun h => ?clearsNone, fun c h => ?clears⟩⟩, ?notOverdue, ?overdue⟩
  case refusesNone => exact congrArg _ (State.serve_onCall_noSuch rfl ht h)
  case clearsNone => exact congrArg _ (State.serve_onCall_noSuch rfl ht h)
  case refused => exact congrArg _ (State.serve_onCall_refused rfl ht h fun t => if_neg (by simp [h1, h2]))
  case refuses =>
    refine congrArg _ (State.serve_onCall_heldBack rfl ht h ?_)
    rw [refuseCallAct, if_pos hs, State.endCall_admitFrame]
  case clears =>
    refine congrArg _ (State.serve_onCall_heldBack rfl ht h ?_)
    rw [clearCallAct, State.endCall_admitFrame]
    cases c.connectedTime <;> rfl
  case notOverdue =>
    rintro c i e notice s _ h hc he ho rfl
    rw [h.endCall_eq hc he, State.deferredLapse_none (h.entry_ended hc he notice) ho]
    cases notice <;> rfl
  case overdue =>
    rintro c i e cause notice s _ h hc he ho rfl
    rw [h.endCall_eq hc he, State.deferredLapse_some (h.entry_ended hc he notice) ho]
    cases notice <;> rfl

end Sys2Proof.Machine

/-!
PROOFS. The expiry of a key wait (O49; R130, R131, R151).
-/

namespace Sys2Proof.Machine

section Expiry

variable {s : State} {x : CtxId} {i : Fin 128} {c : Call} {e : Entry}

/-- A path that named a context is turned to PASS (R110, R130). -/
theorem Path.clearOf_eq (x : CtxId) (p : Path) : Path.clearOf x p =
    if p.transform = .scramble x ∨ p.transform = .descramble x then { p with transform := .pass } else p := by
  have names : p.transform.context? = some x ↔ p.transform = .scramble x ∨ p.transform = .descramble x := by
    cases p.transform <;> simp [Transform.context?]
  simp only [Path.clearOf, names]

/-- The state in which a waiting context's call goes on in clear, but for the report (R130). -/
def State.clearFallen (s : State) (x : CtxId) (i : Fin 128) (c : Call) : State :=
  { s with
    waitQueue := s.waitQueue.filter (fun w => decide (w.ctx ≠ x))
    connections := s.connections.map (fun o : Option Path => o.map (fun p : Path =>
      if p.transform = Transform.scramble x ∨ p.transform = Transform.descramble x then
        ({ p with transform := .pass } : Path) else p))
    calls := s.calls.set i (some { c with
      contexts := c.contexts.filter (fun y => decide (y ≠ x)), state := .connected
      connectedTime := some 0 }) }.putContext x Context.free

theorem State.leaveQueue_leaveQueue (x : CtxId) (s : State) : (s.leaveQueue x).leaveQueue x = s.leaveQueue x := by
  simp [State.leaveQueue]

/-- The fall back to clear of a call of the table (R130). -/
theorem State.fallBack_eq (hf : s.findCall c.id = some i) (hc : s.calls.get i = some c) :
    (s.leaveQueue x).fallBack x c = (s.clearFallen x i c).raise (.callConnected c.id true 1) := by
  have freed : (s.leaveQueue x).freeContext x = (s.leaveQueue x).putContext x Context.free := by
    rw [State.freeContext, State.leaveQueue_leaveQueue]
  have found : (((s.leaveQueue x).putContext x Context.free).retransform x).findCall c.id = some i := hf
  have clear : (fun o : Option Path => o.map (Path.clearOf x)) = fun o : Option Path => o.map (fun p : Path =>
      if p.transform = Transform.scramble x ∨ p.transform = Transform.descramble x then
        ({ p with transform := .pass } : Path) else p) :=
    funext fun o => congrArg (Option.map · o) (funext (Path.clearOf_eq x))
  rw [State.fallBack, freed, State.modCall_found found hc, State.clearFallen, ← clear]
  rfl

theorem State.keyWaitPolicyOf_eq (he : s.entry? c.ext = some e) :
    s.keyWaitPolicyOf c.ext = (s.classes.get e.cls).policy := by
  simp [State.keyWaitPolicyOf, he, State.classOf]

/-- What the call table does with a context of a call of the table (R130, R131). -/
theorem State.applyPolicy_call (hx : (s.context x).call = some c.id) (hf : s.call? c.id = some c)
    (he : s.entry? c.ext = some e) : s.applyPolicy x =
      if (s.classes.get e.cls).policy = .fallClear ∧ c.verdict = .allow then s.fallBack x c else s.failCall c := by
  simp only [State.applyPolicy, hx, hf, State.keyWaitPolicyOf_eq he]
  cases (s.classes.get e.cls).policy <;> cases c.verdict <;> simp

/-- A wait that has run out in a wired state, for a call of the table. -/
theorem exec_keyWaitExpiry_due (h : s.wired) {w : WaitItem} (hw : w ∈ s.waitQueue) (hwx : w.ctx = x)
    (h0 : w.remaining = 0) (hx : (s.context x).call = some c.id) (hc : s.calls.get i = some c)
    (he : s.entry? c.ext = some e) : exec (.keyWaitExpiry x) s =
      .next (if (s.classes.get e.cls).policy = .fallClear ∧ c.verdict = .allow then (s.leaveQueue x).fallBack x c
        else (s.leaveQueue x).failCall c) := by
  have due : s.keyWaitDue x = true := List.any_eq_true.mpr ⟨w, hw, by simp [hwx, h0]⟩
  refine congrArg Host.Outcome.next ((if_pos due).trans ?_)
  exact State.applyPolicy_call (s := s.leaveQueue x) hx (State.call?_found (h.findCall hc) hc) he

end Expiry

/-- Settles O49: the class policy and the verdict of the call whose wait has run out. -/
theorem keyWaitExpiryAppliesThePolicy : Obligations.KeyWaitExpiryAppliesThePolicy := by
  rintro x w c i e s _ h hw hwx h0 hx hc he rfl
  have due := exec_keyWaitExpiry_due h hw hwx h0 hx hc he
  constructor
  case left =>
    intro hp hv
    rw [due, if_pos ⟨hp, hv⟩, State.fallBack_eq (h.findCall hc) hc]
    rfl
  case right =>
    intro hp
    have drops : ¬ ((s.classes.get e.cls).policy = .fallClear ∧ c.verdict = .allow) := by
      rintro ⟨hf, ha⟩
      rcases hp with hp | hp
      · simp [hf] at hp
      · simp [ha] at hp
    rw [due, if_neg drops]
    rfl

end Sys2Proof.Machine

/-!
PROOFS. The form of a CONNECT CALL body, its plans, and the checks in their order (O45; R124, R125).
-/

/-! ## Two lists related item by item -/

namespace List.Forall₂

variable {α β : Type} {R : α → β → Prop} {as : List α} {bs : List β}

/-- Tests that agree on related items pass as often on both lists. -/
theorem countP_eq {p : α → Bool} {q : β → Bool} (h : Forall₂ R as bs) (hpq : ∀ a b, R a b → p a = q b) :
    as.countP p = bs.countP q := by
  induction h with
  | nil => rfl
  | cons hab _ ih => rw [countP_cons, countP_cons, ih, hpq _ _ hab]

/-- Tests that agree on related items pass on all of one list when they pass on all of the other. -/
theorem forall_iff {p : α → Prop} {q : β → Prop} (h : Forall₂ R as bs) (hpq : ∀ a b, R a b → (p a ↔ q b)) :
    (∀ a ∈ as, p a) ↔ ∀ b ∈ bs, q b := by
  induction h with
  | nil => simp
  | cons hab _ ih => simp only [mem_cons, forall_eq_or_imp, ih, hpq _ _ hab]

/-- Items at one position are related. -/
theorem getElem?_rel (h : Forall₂ R as bs) {k : Nat} {a : α} {b : β} (ha : as[k]? = some a) (hb : bs[k]? = some b) :
    R a b := by
  obtain ⟨hka, rfl⟩ := getElem?_eq_some_iff.mp ha
  obtain ⟨hkb, rfl⟩ := getElem?_eq_some_iff.mp hb
  exact h.get hka hkb

/-- Position by position, the second list has an item wherever the first has one. -/
theorem exists_getElem? (h : Forall₂ R as bs) {k : Nat} {a : α} (ha : as[k]? = some a) : ∃ b, bs[k]? = some b ∧ R a b := by
  obtain ⟨hka, -⟩ := getElem?_eq_some_iff.mp ha
  have hkb : k < bs.length := h.length_eq ▸ hka
  exact ⟨bs[k], getElem?_eq_getElem hkb, h.getElem?_rel ha (getElem?_eq_getElem hkb)⟩

end List.Forall₂

namespace Sys2Proof.Machine

/-- A list is read when every item is, one for one. -/
theorem readAll_eq_some_iff {α β : Type} {g : α → Option β} {as : List α} {bs : List β} :
    readAll g as = some bs ↔ List.Forall₂ (fun a b => g a = some b) as bs := by
  induction as generalizing bs with
  | nil => rw [List.forall₂_nil_left_iff, readAll, Option.some_inj, eq_comm]
  | cons a as ih =>
    simp only [List.forall₂_cons_left_iff, ← ih, readAll]
    cases g a with
    | none => simp
    | some b =>
      cases readAll g as with
      | none => simp
      | some rest => simp [eq_comm]

theorem exists_readAll_iff {α β : Type} {g : α → Option β} {as : List α} :
    (∃ bs, readAll g as = some bs) ↔ ∀ a ∈ as, ∃ b, g a = some b := by
  constructor
  · rintro ⟨bs, h⟩ a ha
    by_contra hn
    rw [readAll_none ha (by simpa [Option.eq_none_iff_forall_ne_some] using hn)] at h
    cases h
  · intro h
    induction as with
    | nil => exact ⟨[], rfl⟩
    | cons a as ih =>
      obtain ⟨b, hb⟩ := h a (by simp)
      obtain ⟨bs, hbs⟩ := ih fun a ha => h a (by simp [ha])
      exact ⟨b :: bs, by simp [readAll, hb, hbs]⟩

/-! ## One specification (R124, R125) -/

theorem below_eq_some_iff {n v : Nat} {i : Fin n} : below n v = some i ↔ i.val = v := by
  by_cases hv : v < n
  · simp [below, hv, Fin.ext_iff, eq_comm]
  · simp only [below_none (Nat.le_of_not_lt hv), reduceCtorEq, false_iff]
    omega

/-- The transform a path specification of good form asks for. -/
def planTransform (p : PathSpec) : TransformSpec :=
  if p.transform = 0 then .pass else if p.transform = 1 then .mute
  else if p.transform = 2 then .scramble p.ctxRef.toNat else .descramble p.ctxRef.toNat

theorem transformOf_eq_some_iff {p : PathSpec} {t : TransformSpec} :
    transformOf p.transform p.ctxRef = some t ↔ p.transform.toNat < 4 ∧ t = planTransform p := by
  by_cases h : p.transform.toNat < 4
  · have codes : p.transform = 0 ∨ p.transform = 1 ∨ p.transform = 2 ∨ p.transform = 3 := by bv_omega
    rcases codes with h | h | h | h <;> simp [planTransform, transformOf, h, eq_comm]
  · have unknown : transformOf p.transform p.ctxRef = none := by
      obtain ⟨n, hn⟩ := Nat.exists_eq_add_of_le (Nat.le_of_not_lt h)
      simp [transformOf, hn, Nat.add_comm 4]
    simp [unknown, h]

/-- The plan of a path specification: its slots, and its transform of a known code. -/
theorem pathPlan?_eq_some_iff {p : PathSpec} {plan : PathPlan} : pathPlan? p = some plan ↔
    plan.dest.val = p.dest.toNat ∧ plan.source.val = p.source.toNat ∧ p.transform.toNat < 4 ∧
      plan.transform = planTransform p := by
  rw [← transformOf_eq_some_iff, ← below_eq_some_iff, ← below_eq_some_iff]
  obtain ⟨dest, source, t⟩ := plan
  unfold pathPlan?
  cases below 192 p.dest.toNat <;> cases below 192 p.source.toNat <;>
    cases transformOf p.transform p.ctxRef <;> simp

theorem exists_pathPlan?_iff {p : PathSpec} : (∃ plan, pathPlan? p = some plan) ↔
    p.dest.toNat < 192 ∧ p.source.toNat < 192 ∧ p.transform.toNat < 4 := by
  simp only [pathPlan?_eq_some_iff]
  constructor
  · rintro ⟨plan, hd, hs, ht, -⟩
    exact ⟨hd ▸ plan.dest.isLt, hs ▸ plan.source.isLt, ht⟩
  · rintro ⟨hd, hs, ht⟩
    exact ⟨⟨⟨_, hd⟩, ⟨_, hs⟩, planTransform p⟩, rfl, rfl, ht, rfl⟩

/-- A mode code below 2 is that of its mode. -/
theorem modeOf_eq_some_iff {o : Byte} {m : Mode} : modeOf o = some m ↔ m.octet = o := by
  by_cases h : o.toNat < 2
  · have codes : o = 0 ∨ o = 1 := by bv_omega
    rcases codes with rfl | rfl <;> cases m <;> decide
  · have unknown : modeOf o = none := by
      obtain ⟨n, hn⟩ := Nat.exists_eq_add_of_le (Nat.le_of_not_lt h)
      simp [modeOf, hn, Nat.add_comm 2]
    have other : m.octet ≠ o := by
      rintro rfl
      cases m <;> exact h (by decide)
    simp [unknown, other]

/-- The far end of a context specification: STATION, or TRUNK with a held slot from 0 to 31 and the salt. -/
theorem farPlan?_eq_some_iff {x : CtxSpec} {far : FarPlan} : farPlan? x = some far ↔
    (x.farEnd = 0 ∧ far = .station) ∨
      (x.farEnd = 1 ∧ ∃ slot : HeldSlot, slot.val = x.heldSlot.toNat ∧ far = .trunk slot x.salt) := by
  by_cases h : x.farEnd.toNat < 2
  · have codes : x.farEnd = 0 ∨ x.farEnd = 1 := by bv_omega
    rcases codes with h | h
    · simp [farPlan?, h, eq_comm]
    · have trunk : farPlan? x = (below 32 x.heldSlot.toNat).map (FarPlan.trunk · x.salt) := by simp [farPlan?, h]
      rw [trunk, Option.map_eq_some_iff]
      simp [h, below_eq_some_iff, eq_comm (b := far)]
  · have unknown : farPlan? x = none := by
      obtain ⟨n, hn⟩ := Nat.exists_eq_add_of_le (Nat.le_of_not_lt h)
      simp [farPlan?, hn, Nat.add_comm 2]
    rw [unknown]
    refine iff_of_false (by simp) ?_
    rintro (⟨h0, -⟩ | ⟨h1, -⟩)
    · exact h (by simp [h0])
    · exact h (by simp [h1])

theorem ctxPlan?_eq_some_iff {x : CtxSpec} {plan : CtxPlan} : ctxPlan? x = some plan ↔
    farPlan? x = some plan.far ∧ plan.mode.octet = x.mode ∧ plan.interval = x.interval.toNat ∧ plan.loss = x.loss.toNat := by
  rw [← modeOf_eq_some_iff]
  obtain ⟨far, mode, interval, loss⟩ := plan
  unfold ctxPlan?
  cases farPlan? x <;> cases modeOf x.mode <;> simp [eq_comm]

theorem exists_ctxPlan?_iff {x : CtxSpec} : (∃ plan, ctxPlan? x = some plan) ↔
    x.mode.toNat < 2 ∧ x.farEnd.toNat < 2 ∧ (x.farEnd = 1 → x.heldSlot.toNat < 32) := by
  simp only [ctxPlan?_eq_some_iff, farPlan?_eq_some_iff]
  constructor
  · rintro ⟨plan, hf, hm, -, -⟩
    refine ⟨hm ▸ by cases plan.mode <;> decide, ?_⟩
    rcases hf with ⟨hf, -⟩ | ⟨hf, slot, hs, -⟩
    · simp [hf]
    · exact ⟨by simp [hf], fun _ => hs ▸ slot.isLt⟩
  · rintro ⟨hm, hf, hs⟩
    obtain ⟨mode, hmode⟩ : ∃ mode : Mode, mode.octet = x.mode := by
      have codes : x.mode = 0 ∨ x.mode = 1 := by bv_omega
      rcases codes with h | h
      · exact ⟨.mask, h.symm⟩
      · exact ⟨.shuffle, h.symm⟩
    have codes : x.farEnd = 0 ∨ x.farEnd = 1 := by bv_omega
    rcases codes with h | h
    · exact ⟨⟨.station, mode, _, _⟩, .inl ⟨h, rfl⟩, hmode, rfl, rfl⟩
    · exact ⟨⟨.trunk ⟨_, hs h⟩ x.salt, mode, _, _⟩, .inr ⟨h, _, rfl, rfl⟩, hmode, rfl, rfl⟩

/-! ## The body (R124, R125, step 3) -/

theorem plansAgree_iff {paths : List PathPlan} {ctxs : List CtxPlan} : plansAgree paths ctxs = true ↔
    (∀ p ∈ paths, p.refsBelow ctxs.length = true) ∧ ctxs.countP CtxPlan.isStation ≤ 1 ∧
      ∀ i, i < ctxs.length → paths.countP (PathPlan.scrambles i) = 1 ∧ paths.countP (PathPlan.descrambles i) = 1 := by
  simp [plansAgree, and_assoc]

/-- The plans of a body: those of its specifications, when they agree with one another. -/
theorem connectPlans?_eq_some_iff {b : ConnectBody} {paths : List PathPlan} {ctxs : List CtxPlan} :
    connectPlans? b = some (paths, ctxs) ↔
      (1 ≤ b.paths.length ∧ b.paths.length ≤ 4 ∧ b.contexts.length ≤ 2) ∧
        List.Forall₂ (fun a p => pathPlan? a = some p) b.paths paths ∧
        List.Forall₂ (fun a x => ctxPlan? a = some x) b.contexts ctxs ∧ plansAgree paths ctxs = true := by
  rw [← readAll_eq_some_iff, ← readAll_eq_some_iff]
  unfold connectPlans?
  split
  case isFalse h => simp [h]
  case isTrue h =>
    cases readAll pathPlan? b.paths with
    | none => simp
    | some ps =>
      cases readAll ctxPlan? b.contexts with
      | none => simp
      | some xs =>
        simp only [h, Option.some.injEq]
        constructor
        · intro hx
          split at hx
          case isTrue agree => cases hx; exact ⟨⟨trivial, trivial, trivial⟩, rfl, rfl, agree⟩
          case isFalse => cases hx
        · rintro ⟨-, rfl, rfl, agree⟩
          exact if_pos agree

theorem planTransform_eq_scramble_iff {p : PathSpec} {i : Nat} :
    planTransform p = .scramble i ↔ p.transform = 2 ∧ p.ctxRef.toNat = i := by
  unfold planTransform
  split_ifs with h0 h1 h2
  · simp [h0]
  · simp [h1]
  · simp [h2]
  · exact iff_of_false (by simp) fun h => h2 h.1

theorem planTransform_eq_descramble_iff {p : PathSpec} (known : p.transform.toNat < 4) {i : Nat} :
    planTransform p = .descramble i ↔ p.transform = 3 ∧ p.ctxRef.toNat = i := by
  unfold planTransform
  split_ifs with h0 h1 h2
  · simp [h0]
  · simp [h1]
  · simp [h2]
  · have h3 : p.transform = 3 := by bv_omega
    simp [h3]

theorem PathPlan.refsBelow_iff {p : PathPlan} {count : Nat} : p.refsBelow count = true ↔
    ∀ i, p.transform = .scramble i ∨ p.transform = .descramble i → i < count := by
  unfold PathPlan.refsBelow
  cases p.transform <;> simp

/-- The conditions of plans among one another, in the words of their specifications. -/
theorem plansAgree_specs {b : ConnectBody} {paths : List PathPlan} {ctxs : List CtxPlan}
    (hp : List.Forall₂ (fun a p => pathPlan? a = some p) b.paths paths)
    (hx : List.Forall₂ (fun a x => ctxPlan? a = some x) b.contexts ctxs) : plansAgree paths ctxs = true ↔
      (∀ p ∈ b.paths, p.transform = 2 ∨ p.transform = 3 → p.ctxRef.toNat < b.contexts.length) ∧
      b.contexts.countP (fun x => decide (x.farEnd = 0)) ≤ 1 ∧
      (∀ i, i < b.contexts.length →
        b.paths.countP (fun p => decide (p.transform = 2 ∧ p.ctxRef.toNat = i)) = 1 ∧
        b.paths.countP (fun p => decide (p.transform = 3 ∧ p.ctxRef.toNat = i)) = 1) := by
  have scrambles : ∀ i, b.paths.countP (fun p => decide (p.transform = 2 ∧ p.ctxRef.toNat = i)) =
      paths.countP (PathPlan.scrambles i) := fun i => hp.countP_eq fun a p h => by
    obtain ⟨-, -, -, ht⟩ := pathPlan?_eq_some_iff.mp h
    rw [PathPlan.scrambles, ht]
    exact decide_eq_decide.mpr planTransform_eq_scramble_iff.symm
  have descrambles : ∀ i, b.paths.countP (fun p => decide (p.transform = 3 ∧ p.ctxRef.toNat = i)) =
      paths.countP (PathPlan.descrambles i) := fun i => hp.countP_eq fun a p h => by
    obtain ⟨-, -, known, ht⟩ := pathPlan?_eq_some_iff.mp h
    rw [PathPlan.descrambles, ht]
    exact decide_eq_decide.mpr (planTransform_eq_descramble_iff known).symm
  have stations : b.contexts.countP (fun x => decide (x.farEnd = 0)) = ctxs.countP CtxPlan.isStation :=
    hx.countP_eq fun a x h => by
      obtain ⟨hf, -⟩ := ctxPlan?_eq_some_iff.mp h
      refine decide_eq_decide.mpr ?_
      rcases farPlan?_eq_some_iff.mp hf with ⟨h0, hs⟩ | ⟨h1, _, _, ht⟩
      · simp [h0, hs]
      · simp [h1, ht]
  have refs : (∀ p ∈ b.paths, p.transform = 2 ∨ p.transform = 3 → p.ctxRef.toNat < ctxs.length) ↔
      ∀ p ∈ paths, p.refsBelow ctxs.length = true := hp.forall_iff fun a p h => by
    obtain ⟨-, -, known, ht⟩ := pathPlan?_eq_some_iff.mp h
    rw [PathPlan.refsBelow_iff, ht]
    simp only [planTransform_eq_scramble_iff, planTransform_eq_descramble_iff known]
    constructor
    · rintro h i (⟨hc, rfl⟩ | ⟨hc, rfl⟩)
      · exact h (.inl hc)
      · exact h (.inr hc)
    · rintro h (hc | hc)
      · exact h _ (.inl ⟨hc, rfl⟩)
      · exact h _ (.inr ⟨hc, rfl⟩)
  rw [plansAgree_iff, stations, hx.length_eq, refs]
  simp only [scrambles, descrambles]

/-! ## The checks one by one (R125, steps 4 to 8) -/

section Checks

variable {s : State} {c : Call} {paths : List PathPlan} {ctxs : List CtxPlan}

theorem policyRefuses_iff {v : Verdict} : policyRefuses v ctxs.length = true ↔
    (v = .clear ∧ ctxs ≠ []) ∨ (v = .scramble ∧ ctxs = []) := by
  cases v <;> simp [policyRefuses, List.length_pos_iff]

theorem State.insecure_iff : s.insecure c ctxs = true ↔
    (∃ x ∈ ctxs, x.far = .station) ∧ ∀ e, s.entry? c.ext = some e → e.secure = false := by
  unfold State.insecure
  cases s.entry? c.ext <;> simp [CtxPlan.isStation]

theorem State.keyMissing_iff : s.keyMissing ctxs = true ↔
    ∃ x ∈ ctxs, ∃ slot salt, x.far = .trunk slot salt ∧ s.heldKeys.get slot = none := by
  unfold State.keyMissing
  rw [List.any_eq_true]
  refine exists_congr fun x => and_congr_right fun _ => ?_
  cases x.far <;> simp

theorem State.slotTaken_iff {id : CallId} : s.slotTaken id paths = true ↔ ¬ (paths.map PathPlan.dest).Nodup ∨
    ∃ p ∈ paths, ∃ q, s.connections.get p.dest = some q ∧ q.owner ≠ id := by
  simp [State.slotTaken, Option.any_eq_true]

theorem State.noRoom_iff : s.noRoom ctxs = true ↔ s.freeIds.length < ctxs.length ∨
    16 < s.waitQueue.length + ctxs.countP CtxPlan.isStation := by
  simp [State.noRoom]

/-- Step 4 or 5 of R125 fails: the verdict and the contexts do not fit, or a STATION context is asked for an extension
that is not secure-capable. -/
def State.againstPolicy (s : State) (c : Call) (ctxs : List CtxPlan) : Prop :=
  (c.verdict = .clear ∧ ctxs ≠ []) ∨ (c.verdict = .scramble ∧ ctxs = []) ∨
    ((∃ x ∈ ctxs, x.far = .station) ∧ ∀ e, s.entry? c.ext = some e → e.secure = false)

theorem State.againstPolicy_iff :
    s.againstPolicy c ctxs ↔ policyRefuses c.verdict ctxs.length = true ∨ s.insecure c ctxs = true := by
  rw [policyRefuses_iff, State.insecure_iff, or_assoc]
  rfl

theorem State.connectRefusal_policy (h : s.againstPolicy c ctxs) : s.connectRefusal c paths ctxs = some .policy := by
  unfold State.connectRefusal
  rcases State.againstPolicy_iff.mp h with h | h <;> simp [h]

theorem State.connectRefusal_noKey (h : ¬ s.againstPolicy c ctxs) (key : s.keyMissing ctxs = true) :
    s.connectRefusal c paths ctxs = some .noKey := by
  simp only [State.againstPolicy_iff, not_or] at h
  simp [State.connectRefusal, h, key]

theorem State.connectRefusal_slotBusy (h : ¬ s.againstPolicy c ctxs) (key : ¬ s.keyMissing ctxs = true)
    (slot : s.slotTaken c.id paths = true) : s.connectRefusal c paths ctxs = some .slotBusy := by
  simp only [State.againstPolicy_iff, not_or] at h
  simp [State.connectRefusal, h, key, slot]

theorem State.connectRefusal_full (h : ¬ s.againstPolicy c ctxs) (key : ¬ s.keyMissing ctxs = true)
    (slot : ¬ s.slotTaken c.id paths = true) (room : s.noRoom ctxs = true) :
    s.connectRefusal c paths ctxs = some .full := by
  simp only [State.againstPolicy_iff, not_or] at h
  simp [State.connectRefusal, h, key, slot, room]

/-- An accepted CONNECT CALL has passed every check (R125). -/
theorem State.connectRefusal_none (h : s.connectRefusal c paths ctxs = none) :
    ¬ s.againstPolicy c ctxs ∧ ¬ s.keyMissing ctxs = true ∧ ¬ s.slotTaken c.id paths = true ∧ ¬ s.noRoom ctxs = true := by
  rw [State.againstPolicy_iff]
  unfold State.connectRefusal at h
  split_ifs at h with h1 h2 h3 h4 h5
  exact ⟨by simp [h1, h2], h3, h4, h5⟩

end Checks

/-! ## What CONNECT CALL does with a call (R125) -/

section Act

variable {s : State} {b : ConnectBody} {c : Call} {paths : List PathPlan} {ctxs : List CtxPlan}

theorem connectCallAct_noSuch (h : s.call? b.call = none) : connectCallAct b s = s.refuse .noSuch := by
  simp [connectCallAct, h]

theorem connectCallAct_state (h : s.call? b.call = some c) (h1 : c.state ≠ .requested) (h2 : c.state ≠ .offered) :
    connectCallAct b s = s.refuse .state := by
  simp [connectCallAct, h, h1, h2]

variable (h : s.call? b.call = some c) (hs : c.state = .requested ∨ c.state = .offered)
include h hs

theorem connectCallAct_badRequest (hb : connectPlans? b = none) : connectCallAct b s = s.refuse .badRequest := by
  have state : ¬ (c.state ≠ .requested ∧ c.state ≠ .offered) := by tauto
  simp only [connectCallAct, h, if_neg state, hb]

theorem connectCallAct_refused {code : Code} (hb : connectPlans? b = some (paths, ctxs))
    (hr : s.connectRefusal c paths ctxs = some code) : connectCallAct b s = s.refuse code := by
  have state : ¬ (c.state ≠ .requested ∧ c.state ≠ .offered) := by tauto
  simp only [connectCallAct, h, if_neg state, hb, hr]

/-- With every check passed the call is connected, and the reply waits for the slot side (R126 to R128). -/
theorem connectCallAct_accepted (hb : connectPlans? b = some (paths, ctxs))
    (hr : s.connectRefusal c paths ctxs = none) : connectCallAct b s = (s.connect c paths ctxs,
      { code := if ctxs.all CtxPlan.exact then .done else .adjusted, held := true }) := by
  have state : ¬ (c.state ≠ .requested ∧ c.state ≠ .offered) := by tauto
  simp only [connectCallAct, h, if_neg state, hb, hr]

end Act

/-- Settles O45: the checks in their order, the form of the body, and the plans one for one. -/
theorem connectCallChecksInOrder : Obligations.ConnectCallChecksInOrder := by
  refine ⟨?checks, fun b => ?form, fun b paths ctxs hb => ?plans⟩
  case checks =>
    rintro tag b f s rfl ht
    have refused : ∀ {code}, connectCallAct b (s.admitFrame ⟨41, tag, b.octets⟩) =
        (s.admitFrame ⟨41, tag, b.octets⟩).refuse code →
        exec (.connectCall tag b) s = .next (s.replied ⟨41, tag, b.octets⟩ code []) := fun h =>
      congrArg Host.Outcome.next (State.serve_refused rfl ht h)
    refine ⟨fun h => refused (connectCallAct_noSuch h), fun c h h1 h2 => refused (connectCallAct_state h h1 h2),
      fun c h hs => ⟨fun hb => refused (connectCallAct_badRequest h hs hb), fun paths ctxs hb => ?_⟩⟩
    have check : ∀ {code}, s.connectRefusal c paths ctxs = some code →
        exec (.connectCall tag b) s = .next (s.replied ⟨41, tag, b.octets⟩ code []) := fun hr =>
      refused (connectCallAct_refused (s := s.admitFrame _) h hs hb hr)
    refine ⟨fun policy => check (State.connectRefusal_policy policy), fun policy =>
      ⟨fun key => check (State.connectRefusal_noKey policy (State.keyMissing_iff.mpr key)), fun keys => ?_⟩⟩
    have key : ¬ s.keyMissing ctxs = true := by
      rw [State.keyMissing_iff]
      rintro ⟨x, hx, slot, salt, hf, hk⟩
      exact keys x hx slot salt hf hk
    refine ⟨fun slot => check (State.connectRefusal_slotBusy policy key (State.slotTaken_iff.mpr slot)),
      fun distinct own room => check (State.connectRefusal_full policy key ?_ (State.noRoom_iff.mpr room))⟩
    rw [State.slotTaken_iff]
    rintro (h | ⟨p, hp, q, hq, ho⟩)
    · exact h distinct
    · exact ho (own p hp q hq)
  case form =>
    have plans : (∃ plans, connectPlans? b = some plans) ↔
        (1 ≤ b.paths.length ∧ b.paths.length ≤ 4 ∧ b.contexts.length ≤ 2) ∧ ∃ paths ctxs,
          List.Forall₂ (fun a p => pathPlan? a = some p) b.paths paths ∧
          List.Forall₂ (fun a x => ctxPlan? a = some x) b.contexts ctxs ∧ plansAgree paths ctxs = true := by
      simp only [Prod.exists, connectPlans?_eq_some_iff, exists_and_left]
    rw [plans]
    refine and_congr_right fun _ => ⟨?_, ?_⟩
    · rintro ⟨paths, ctxs, hp, hx, agree⟩
      obtain ⟨refs, stations, named⟩ := (plansAgree_specs hp hx).mp agree
      refine ⟨fun p hpb => ?_, fun x hxb => ?_, stations, named⟩
      · obtain ⟨hd, hs, ht⟩ := exists_pathPlan?_iff.mp
          (exists_readAll_iff.mp ⟨paths, readAll_eq_some_iff.mpr hp⟩ p hpb)
        exact ⟨hd, hs, ht, refs p hpb⟩
      · exact exists_ctxPlan?_iff.mp (exists_readAll_iff.mp ⟨ctxs, readAll_eq_some_iff.mpr hx⟩ x hxb)
    · rintro ⟨hp, hx, stations, named⟩
      obtain ⟨paths, hps⟩ := exists_readAll_iff.mpr fun p hpb => exists_pathPlan?_iff.mpr
        ⟨(hp p hpb).1, (hp p hpb).2.1, (hp p hpb).2.2.1⟩
      obtain ⟨ctxs, hxs⟩ := exists_readAll_iff.mpr fun x hxb => exists_ctxPlan?_iff.mpr (hx x hxb)
      rw [readAll_eq_some_iff] at hps hxs
      exact ⟨paths, ctxs, hps, hxs, (plansAgree_specs hps hxs).mpr ⟨fun p hpb => (hp p hpb).2.2.2, stations, named⟩⟩
  case plans =>
    obtain ⟨-, hp, hx, -⟩ := connectPlans?_eq_some_iff.mp hb
    refine ⟨⟨hp.length_eq.symm, hx.length_eq.symm⟩, fun k spec plan hk hl => ?_, fun k spec plan hk hl => ?_⟩
    · obtain ⟨hd, hs, -, ht⟩ := pathPlan?_eq_some_iff.mp (hp.getElem?_rel hk hl)
      exact ⟨hd, hs, ht⟩
    · obtain ⟨hf, hm, hi, ho⟩ := ctxPlan?_eq_some_iff.mp (hx.getElem?_rel hk hl)
      refine ⟨hm, hi, ho, fun h0 => ?_, fun h1 => ?_⟩
      · rcases farPlan?_eq_some_iff.mp hf with ⟨-, hs⟩ | ⟨h1, -⟩
        · exact hs
        · simp [h0] at h1
      · rcases farPlan?_eq_some_iff.mp hf with ⟨h0, -⟩ | ⟨-, slot, hs, ht⟩
        · simp [h1] at h0
        · exact ⟨slot, hs, ht⟩

end Sys2Proof.Machine

/-!
PROOFS. Serving passes: what a pass has done to contexts and calls, and the frame in the holding beside it (R129, R144).
-/

namespace Sys2Proof.Machine

/-! ## The frame in the holding stands beside a serving pass -/

section Beside

variable (f : Frame) (s : State)

theorem State.modCall_admitFrame (id : CallId) (g : Call → Call) :
    (s.admitFrame f).modCall id g = (s.modCall id g).admitFrame f := by
  have found : (s.admitFrame f).findCall id = s.findCall id := rfl
  unfold State.modCall
  rw [found]
  cases s.findCall id <;> rfl

theorem State.keyStation_admitFrame (x : CtxId) (k : Key) :
    (s.admitFrame f).keyStation x k = (s.keyStation x k).admitFrame f := by
  have found : ∀ id, (s.admitFrame f).call? id = s.call? id := fun _ => rfl
  unfold State.keyStation
  simp only [State.context_admitFrame, found, State.entry_admitFrame]
  cases (s.context x).call with
  | none => rfl
  | some id =>
    dsimp only
    cases s.call? id with
    | none => rfl
    | some c =>
      dsimp only
      cases s.entry? c.ext with
      | none => rfl
      | some e => exact State.offer_admitFrame f (s.spendNonce.putContext x _) _ _

theorem State.completeServed_admitFrame (x : CtxId) :
    (s.admitFrame f).completeServed x = (s.completeServed x).admitFrame f := by
  unfold State.completeServed
  rw [State.context_admitFrame]
  cases (s.context x).call with
  | none => rfl
  | some id => exact congrArg (State.raise _) (State.modCall_admitFrame f s id _)

theorem State.deliver_admitFrame (own : Option CtxId) (x : CtxId) (rest : List WaitItem) :
    (s.admitFrame f).deliver own x rest = (s.deliver own x rest).admitFrame f := by
  have keyed : ∀ R P k, State.keyStation x k { s.admitFrame f with ring := R, pointer := P, waitQueue := rest } =
      (State.keyStation x k { s with ring := R, pointer := P, waitQueue := rest }).admitFrame f :=
    fun R P k => State.keyStation_admitFrame f { s with ring := R, pointer := P, waitQueue := rest } x k
  unfold State.deliver
  dsimp only
  split
  case isTrue => exact keyed _ _ _
  case isFalse => exact (congrArg _ (keyed _ _ _)).trans (State.completeServed_admitFrame f _ x)

theorem State.serveQueue_admitFrame (own : Option CtxId) (ws : List WaitItem) :
    (s.admitFrame f).serveQueue own ws = (s.serveQueue own ws).admitFrame f := by
  induction ws generalizing s with
  | nil => rfl
  | cons w rest ih =>
    unfold State.serveQueue
    rw [State.deliver_admitFrame, ih]
    exact (apply_ite (State.admitFrame f) ((s.ring.get s.pointer).fresh = true) _ _).symm

theorem State.servingPass_admitFrame (own : Option CtxId) :
    (s.admitFrame f).servingPass own = (s.servingPass own).admitFrame f := by
  have ends : ∀ t : State, (t.admitFrame f).endPass = t.endPass.admitFrame f := by
    intro t
    have queue : (t.admitFrame f).waitQueue = t.waitQueue := rfl
    unfold State.endPass
    rw [queue]
    cases t.waitQueue.isEmpty <;> rfl
  exact (congrArg State.endPass (State.serveQueue_admitFrame f s own s.waitQueue)).trans (ends _)

end Beside

/-! ## What a pass has done -/

/-- A call completed by the delivery of its key (R129). -/
def Call.completed (c : Call) : Call := { c with state := .connected, connectedTime := some 0 }

/-- The context's call stands in the table. -/
def State.hasCall (s : State) (x : CtxId) : Prop := ∃ c, s.inTable c ∧ (s.context x).call = some c.id

/-- The call of one of the contexts, `own` aside. -/
def State.completes (s : State) (own : Option CtxId) (done : List CtxId) (id : CallId) : Bool :=
  done.any fun x => decide (own ≠ some x ∧ (s.context x).call = some id)

theorem State.completes_iff {s : State} {own : Option CtxId} {done : List CtxId} {id : CallId} :
    s.completes own done id = true ↔ ∃ x ∈ done, own ≠ some x ∧ (s.context x).call = some id := by
  simp [State.completes]

/-- The contexts `done` have been served: each is keyed if its call stands, and its call is completed unless the context is
that of the CONNECT CALL that began the pass (R129, R144). -/
structure State.passed (own : Option CtxId) (done : List CtxId) (s t : State) : Prop where
  ports : t.ports = s.ports
  connections : t.connections = s.connections
  same : ∀ x, x ∉ done → t.context x = s.context x
  keyed : ∀ x, x ∈ done → s.hasCall x → ∃ source key, t.context x = (s.context x).keyed source key
  unkeyed : ∀ x, ¬ s.hasCall x → t.context x = s.context x
  calls : ∀ i, t.calls.get i = (s.calls.get i).map fun c => if s.completes own done c.id then c.completed else c

namespace State.passed

variable {own : Option CtxId} {done more : List CtxId} {s t u : State}

theorem refl (own : Option CtxId) (s : State) : State.passed own [] s s where
  ports := rfl
  connections := rfl
  same _ _ := rfl
  keyed _ h := nomatch h
  unkeyed _ _ := rfl
  calls _ := by simp [State.completes]

/-- An update that writes neither ports, connection memory, contexts nor calls serves none. -/
theorem of_eq (hp : t.ports = s.ports) (hc : t.connections = s.connections) (hx : t.contexts = s.contexts)
    (hk : t.calls = s.calls) : State.passed own [] s t where
  ports := hp
  connections := hc
  same x _ := congrArg (Table.get · x) hx
  keyed _ h := nomatch h
  unkeyed x _ := congrArg (Table.get · x) hx
  calls _ := by simp [State.completes, hk]

/-- A context stands with its call, keyed or not. -/
theorem context_eq (h : State.passed own done s t) (x : CtxId) :
    t.context x = s.context x ∨ x ∈ done ∧ ∃ source key, t.context x = (s.context x).keyed source key := by
  by_cases hd : x ∈ done
  · by_cases hc : s.hasCall x
    · exact .inr ⟨hd, h.keyed x hd hc⟩
    · exact .inl (h.unkeyed x hc)
  · exact .inl (h.same x hd)

theorem context_call (h : State.passed own done s t) (x : CtxId) : (t.context x).call = (s.context x).call := by
  rcases h.context_eq x with hx | ⟨-, _, _, hx⟩ <;> rw [hx]
  rfl

theorem context_config (h : State.passed own done s t) (x : CtxId) : (t.context x).config = (s.context x).config := by
  rcases h.context_eq x with hx | ⟨-, _, _, hx⟩ <;> rw [hx]
  rfl

theorem call_of (h : State.passed own done s t) {i : Fin 128} {c : Call} (hc : s.calls.get i = some c) :
    t.calls.get i = some (if s.completes own done c.id then c.completed else c) := by
  rw [h.calls, hc]
  rfl

/-- A call after the pass is one of before. -/
theorem call_from (h : State.passed own done s t) {i : Fin 128} {k : Call} (hk : t.calls.get i = some k) :
    ∃ c, s.calls.get i = some c ∧ k = if s.completes own done c.id then c.completed else c := by
  rw [h.calls, Option.map_eq_some_iff] at hk
  obtain ⟨c, hc, rfl⟩ := hk
  exact ⟨c, hc, rfl⟩

theorem completed_id (b : Bool) (c : Call) : (if b then c.completed else c).id = c.id := by cases b <;> rfl

theorem hasCall_iff (h : State.passed own done s t) (x : CtxId) : t.hasCall x ↔ s.hasCall x := by
  unfold State.hasCall
  rw [h.context_call]
  constructor
  · rintro ⟨k, ⟨i, hk⟩, hx⟩
    obtain ⟨c, hc, rfl⟩ := h.call_from hk
    exact ⟨c, ⟨i, hc⟩, completed_id _ c ▸ hx⟩
  · rintro ⟨c, ⟨i, hc⟩, hx⟩
    exact ⟨_, ⟨i, h.call_of hc⟩, (completed_id _ c).symm ▸ hx⟩

/-- One delivery after another. -/
theorem trans (h : State.passed own done s t) (k : State.passed own more t u) : State.passed own (done ++ more) s u where
  ports := k.ports.trans h.ports
  connections := k.connections.trans h.connections
  same x hx := by
    rw [List.mem_append, not_or] at hx
    exact (k.same x hx.2).trans (h.same x hx.1)
  keyed x hx hc := by
    by_cases hm : x ∈ more
    · obtain ⟨source, key, hu⟩ := k.keyed x hm ((h.hasCall_iff x).mpr hc)
      refine ⟨source, key, hu.trans ?_⟩
      rcases h.context_eq x with ht | ⟨-, _, _, ht⟩ <;> rw [ht]
      rfl
    · rw [k.same x hm]
      exact h.keyed x ((List.mem_append.mp hx).resolve_right hm) hc
  unkeyed x hc := (k.unkeyed x (mt (h.hasCall_iff x).mp hc)).trans (h.unkeyed x hc)
  calls i := by
    have both : ∀ id, s.completes own (done ++ more) id = (s.completes own done id || t.completes own more id) := by
      intro id
      simp only [State.completes, List.any_append, h.context_call]
    rw [k.calls, h.calls, Option.map_map]
    refine congrArg (Option.map · _) (funext fun c => ?_)
    rw [Function.comp_apply, completed_id, both]
    cases s.completes own done c.id <;> cases t.completes own more c.id <;> rfl

end State.passed

section Pass

variable {s : State}

theorem State.putCall_get (i j : Fin 128) (c : Option Call) :
    (s.putCall i c).calls.get j = if j = i then c else s.calls.get j := Table.get_set _ _ _ _

/-- A call changed is each call of the id changed, there being one (R118). -/
theorem State.wired.modCall_calls (h : s.wired) (id : CallId) (g : Call → Call) (i : Fin 128) :
    (s.modCall id g).calls.get i = (s.calls.get i).map fun c => if c.id = id then g c else c := by
  cases hf : s.findCall id with
  | none =>
    simp only [State.modCall, hf]
    cases hc : s.calls.get i with
    | none => rfl
    | some c => simp [State.findCall_none hf hc]
  | some j =>
    obtain ⟨d, hd, rfl⟩ := State.findCall_some hf
    rw [State.modCall_found hf hd, State.putCall_get]
    split
    case isTrue hij => simp [hij, hd]
    case isFalse hij =>
      cases hc : s.calls.get i with
      | none => rfl
      | some c =>
        have other : c.id ≠ d.id := fun hid => hij (h.idDistinct i j c d hc hd hid)
        simp [other]

/-- A context whose call does not stand is left as it is. -/
theorem State.keyStation_none {x : CtxId} (hx : ¬ s.hasCall x) (k : Key) : s.keyStation x k = s := by
  unfold State.keyStation
  cases hcall : (s.context x).call with
  | none => rfl
  | some id =>
    dsimp only
    cases hf : s.call? id with
    | none => rfl
    | some c =>
      obtain ⟨rfl, i, -, hc⟩ := State.call?_id hf
      exact absurd ⟨c, ⟨i, hc⟩, hcall⟩ hx

/-- A context is keyed for its call of the table (R29, R160). -/
theorem State.wired.keyStation_eq (h : s.wired) {x : CtxId} {i : Fin 128} {c : Call} {e : Entry}
    (hc : s.calls.get i = some c) (he : s.entry? c.ext = some e) (hx : (s.context x).call = some c.id) (k : Key) :
    s.keyStation x k = (s.spendNonce.putContext x ((s.context x).keyed (.drawn s.nonce) k)).offer c.port
      (.callKey s.nonce (wrapKey s.nonce e.secret k)) := by
  simp only [State.keyStation, hx, State.call?_found (h.findCall hc) hc, he]

theorem AdmissionOnly.beside {s t : State} (h : AdmissionOnly s t) :
    t.connections = s.connections ∧ t.contexts = s.contexts ∧ t.waitQueue = s.waitQueue ∧ t.supplier = s.supplier := by
  obtain ⟨_, _, _, _, _, rfl⟩ := h
  exact ⟨rfl, rfl, rfl, rfl⟩

/-- Keying a context changes ports, connection memory and calls in nothing, and of the contexts that one (R160). -/
theorem State.wired.keyStation_keyed (h : s.wired) {x : CtxId} (hx : s.hasCall x) (k : Key) :
    ∃ source key, (s.keyStation x k).contexts = s.contexts.set x ((s.context x).keyed source key) ∧
      (s.keyStation x k).ports = s.ports ∧ (s.keyStation x k).connections = s.connections ∧
      (s.keyStation x k).calls = s.calls := by
  obtain ⟨c, ⟨i, hc⟩, hcall⟩ := hx
  obtain ⟨e, he, -, -⟩ := h.callEntry i c hc
  rw [h.keyStation_eq hc he hcall]
  obtain ⟨connections, contexts, -, -⟩ := AdmissionOnly.beside (.offer c.port (.callKey s.nonce (wrapKey s.nonce e.secret k))
    (s.spendNonce.putContext x ((s.context x).keyed (.drawn s.nonce) k)))
  exact ⟨_, _, contexts, State.offer_ports _ _ _, connections, State.offer_calls _ _ _⟩

theorem State.wired.passed_keyStation (h : s.wired) (x : CtxId) (k : Key) :
    State.passed (some x) [x] s (s.keyStation x k) := by
  by_cases hx : s.hasCall x
  · obtain ⟨source, key, contexts, ports, connections, calls⟩ := h.keyStation_keyed hx k
    have context : ∀ y, (s.keyStation x k).context y = if y = x then (s.context x).keyed source key else s.context y :=
      fun y => (congrArg (Table.get · y) contexts).trans (Table.get_set _ _ _ _)
    refine ⟨ports, connections, fun y hy => ?_, fun y hy _ => ?_, fun y hy => ?_, fun i => ?_⟩
    · rw [context, if_neg (by simpa using hy)]
    · rw [List.mem_singleton] at hy
      exact ⟨source, key, by rw [context, if_pos hy, hy]⟩
    · rw [context, if_neg fun hyx : y = x => hy (hyx ▸ hx)]
    · simp [calls, State.completes]
  · rw [State.keyStation_none hx]
    refine ⟨rfl, rfl, fun _ _ => rfl, fun y hy hc => ?_, fun _ _ => rfl, fun i => by simp [State.completes]⟩
    exact absurd (List.mem_singleton.mp hy ▸ hc) hx

/-- The call of a context served is completed (R129). -/
theorem State.wired.completeServed_calls (h : s.wired) (x : CtxId) (i : Fin 128) :
    (s.completeServed x).calls.get i =
      (s.calls.get i).map fun c => if (s.context x).call = some c.id then c.completed else c := by
  unfold State.completeServed
  cases hx : (s.context x).call with
  | none => simp
  | some id =>
    refine (h.modCall_calls id _ i).trans (congrArg (Option.map · _) (funext fun c => ?_))
    simp only [Option.some.injEq, eq_comm (a := id)]
    rfl

/-- Completing a call leaves contexts, ports and connection memory. -/
theorem State.completeServed_beside (x : CtxId) (s : State) : (s.completeServed x).ports = s.ports ∧
    (s.completeServed x).connections = s.connections ∧ (s.completeServed x).contexts = s.contexts := by
  unfold State.completeServed State.modCall
  cases (s.context x).call with
  | none => exact ⟨rfl, rfl, rfl⟩
  | some id => dsimp only; split <;> exact ⟨rfl, rfl, rfl⟩

/-- A delivery of a serving pass serves the context (R144). -/
theorem State.wired.passed_deliver (h : s.wired) (own : Option CtxId) (x : CtxId) (rest : List WaitItem) :
    State.passed own [x] s (s.deliver own x rest) := by
  have taken : ∀ own, State.passed own [] s { s with
      ring := s.ring.set s.pointer RingSlot.empty, pointer := ringAhead s.pointer 1, waitQueue := rest } :=
    fun _ => .of_eq rfl rfl rfl rfl
  have wired := (State.kin.of_eq (s := s) (t := { s with
      ring := s.ring.set s.pointer RingSlot.empty, pointer := ringAhead s.pointer 1, waitQueue := rest }) rfl rfl rfl).wired h
  have keyed := (taken _).trans (wired.passed_keyStation x (s.ring.get s.pointer).key)
  unfold State.deliver
  dsimp only
  split
  case isTrue hown => exact hown ▸ keyed
  case isFalse hown =>
    generalize ht : State.keyStation x _ _ = t at keyed ⊢
    have h' : t.wired := ht ▸ (State.kin.keyStation x _ _).wired wired
    obtain ⟨ports, connections, contexts⟩ := State.completeServed_beside x t
    have context : ∀ y, (t.completeServed x).context y = t.context y := fun y => congrArg (Table.get · y) contexts
    refine ⟨ports.trans keyed.ports, connections.trans keyed.connections, fun y hy => (context y).trans (keyed.same y hy),
      fun y hy hc => ?_, fun y hy => (context y).trans (keyed.unkeyed y hy), fun i => ?_⟩
    · rw [context]
      exact keyed.keyed y hy hc
    · rw [h'.completeServed_calls, keyed.calls, Option.map_map, keyed.context_call]
      refine congrArg (Option.map · _) (funext fun c => ?_)
      have none : s.completes (some x) [x] c.id = false := by simp [State.completes]
      have one : s.completes own [x] c.id = decide ((s.context x).call = some c.id) := by simp [State.completes, hown]
      simp [none, one]

/-- The repeated deliveries of a pass serve the head of the wait queue (R144). -/
theorem State.wired.passed_serveQueue (own : Option CtxId) (ws : List WaitItem) (h : s.wired) (hw : s.waitQueue = ws) :
    ∃ done rest, ws.map WaitItem.ctx = done ++ rest.map WaitItem.ctx ∧ (s.serveQueue own ws).waitQueue = rest ∧
      State.passed own done s (s.serveQueue own ws) := by
  induction ws generalizing s with
  | nil => exact ⟨[], [], rfl, hw, .refl own s⟩
  | cons w ws ih =>
    unfold State.serveQueue
    split
    case isTrue =>
      obtain ⟨done, rest, split, queue, passed⟩ := ih ((State.kin.deliver own w.ctx ws s).wired h)
        (State.deliver_waitQueue own w.ctx ws s)
      exact ⟨w.ctx :: done, rest, congrArg (w.ctx :: ·) split, queue, (h.passed_deliver own w.ctx ws).trans passed⟩
    case isFalse => exact ⟨[], w :: ws, rfl, hw, .refl own s⟩

/-- A pass ends RUNNING with the wait queue empty, or SUSPENDED (R144, R149). -/
theorem State.endPass_beside (s : State) : s.endPass.ports = s.ports ∧ s.endPass.connections = s.connections ∧
    s.endPass.contexts = s.contexts ∧ s.endPass.calls = s.calls ∧ s.endPass.waitQueue = s.waitQueue ∧
    (s.endPass.supplier = .running → s.waitQueue = []) := by
  unfold State.endPass
  split
  case isTrue empty => exact ⟨rfl, rfl, rfl, rfl, rfl, fun _ => List.isEmpty_iff.mp empty⟩
  case isFalse => exact ⟨rfl, rfl, rfl, rfl, rfl, nofun⟩

/-- A serving pass serves the head of the wait queue, and leaves none waiting under a RUNNING supplier (R144). -/
theorem State.wired.passed_servingPass (h : s.wired) (own : Option CtxId) :
    ∃ done, s.waitQueue.map WaitItem.ctx = done ++ (s.servingPass own).waitQueue.map WaitItem.ctx ∧
      ((s.servingPass own).supplier = .running → (s.servingPass own).waitQueue = []) ∧
      State.passed own done s (s.servingPass own) := by
  obtain ⟨done, rest, split, queue, passed⟩ := h.passed_serveQueue own s.waitQueue rfl
  obtain ⟨ports, connections, contexts, calls, left, running⟩ := (s.serveQueue own s.waitQueue).endPass_beside
  refine ⟨done, ?_, fun hr => left.trans (running hr), ?_⟩
  · rw [split, State.servingPass, left, queue]
  · exact List.append_nil done ▸ passed.trans (.of_eq ports connections contexts calls)

end Pass

end Sys2Proof.Machine

/-!
PROOFS. What an accepted CONNECT CALL lays down, its draw demand and its settlement (O46; R126 to R128, R145, R158).
-/

namespace Sys2Proof.Table

variable {α β : Type} {n : Nat} {f : β → Fin n} {g : β → α}

/-- Records written one after another leave the others. -/
theorem get_foldl_set_ne {i : Fin n} {bs : List β} (h : ∀ b ∈ bs, f b ≠ i) (t : Table α n) :
    (bs.foldl (fun t b => t.set (f b) (g b)) t).get i = t.get i := by
  induction bs generalizing t with
  | nil => rfl
  | cons b bs ih =>
    rw [List.foldl_cons, ih fun d hd => h d (by simp [hd]), get_set_ne _ _ (h b (by simp)).symm]

/-- Records written at distinct positions stand. -/
theorem get_foldl_set_mem {bs : List β} (distinct : (bs.map f).Nodup) {b : β} (hb : b ∈ bs) (t : Table α n) :
    (bs.foldl (fun t b => t.set (f b) (g b)) t).get (f b) = g b := by
  induction bs generalizing t with
  | nil => cases hb
  | cons d bs ih =>
    rw [List.map_cons, List.nodup_cons] at distinct
    rw [List.foldl_cons]
    rcases List.mem_cons.mp hb with rfl | hb
    · rw [get_foldl_set_ne fun d hd he => distinct.1 (List.mem_map.mpr ⟨d, hd, he⟩), get_set, if_pos rfl]
    · exact ih distinct.2 hb _

end Sys2Proof.Table

namespace Sys2Proof.Machine

/-! ## The state laid down (R126, R127) -/

/-- A context set up for its plan: a TRUNK one keyed from its held slot and salt, a STATION one waiting. -/
def Context.planned (held : Table (Option Key) 32) (id : CallId) (plan : CtxPlan) : Context :=
  match plan.far with
  | .station => .allocated id plan
  | .trunk slot salt => (Context.allocated id plan).keyed (.heldSlot slot salt) (trunkKey salt ((held.get slot).getD Key.zero))

/-- The contexts a CONNECT CALL takes: the lowest FREE ones. -/
def State.takenIds (s : State) (ctxs : List CtxPlan) : List CtxId := s.freeIds.take ctxs.length

/-- The contexts, the paths and the call as an accepted CONNECT CALL lays them down, before the draw demand. -/
def State.laid (s : State) (i : Fin 128) (c : Call) (paths : List PathPlan) (ctxs : List CtxPlan) : State :=
  { s with
    contexts := (s.freeIds.zip ctxs).foldl (fun t p => t.set p.1 (Context.planned s.heldKeys c.id p.2)) s.contexts
    connections := paths.foldl (fun t p => t.set p.dest (some ⟨p.source, p.transform.install (s.takenIds ctxs), c.id⟩))
      s.connections
    calls := s.calls.set i (some { c with
      contexts := s.takenIds ctxs, paths := paths.map PathPlan.dest, requested := ctxs.length }) }

/-- The state after the draw demand, if there is one. -/
def State.demanded (s : State) (i : Fin 128) (c : Call) (paths : List PathPlan) (ctxs : List CtxPlan) : State :=
  (s.laid i c paths ctxs).demandAll c.ext (s.freeIds.zip ctxs)

/-- A call settled: CONNECTING while a context waits, CONNECTED otherwise (R128). -/
def Call.settled (c : Call) (waits : Bool) : Call := if waits then { c with state := .connecting } else c.completed

theorem map_fst_zip_eq_take {α β : Type} (as : List α) (bs : List β) :
    (as.zip bs).map Prod.fst = as.take bs.length := by
  induction as generalizing bs with
  | nil => simp
  | cons a as ih => cases bs <;> simp [ih]

theorem State.allocate_eq (id : CallId) (x : CtxId) (plan : CtxPlan) (s : State) :
    s.allocate id x plan = { s with contexts := s.contexts.set x (.planned s.heldKeys id plan) } := by
  unfold State.allocate Context.planned
  cases plan.far <;> rfl

theorem State.foldl_allocate (id : CallId) (plans : List (CtxId × CtxPlan)) (s : State) :
    plans.foldl (fun s p => s.allocate id p.1 p.2) s =
      { s with contexts := plans.foldl (fun t p => t.set p.1 (.planned s.heldKeys id p.2)) s.contexts } := by
  induction plans generalizing s with
  | nil => rfl
  | cons p plans ih =>
    rw [List.foldl_cons, ih, State.allocate_eq]
    rfl

section Accepted

variable {s : State} {i : Fin 128} {c : Call} {paths : List PathPlan} {ctxs : List CtxPlan}

/-- A call of the table for which CONNECT CALL passes every check (R125). -/
structure State.accepts (s : State) (i : Fin 128) (c : Call) (paths : List PathPlan) (ctxs : List CtxPlan) : Prop where
  wired : s.wired
  call : s.calls.get i = some c
  agree : plansAgree paths ctxs = true
  passes : s.connectRefusal c paths ctxs = none

/-- The call stands in its entry when it is settled. -/
theorem State.wired.settleCall_eq {t : State} (h : t.wired) {k : Call} (hk : t.calls.get i = some k) (ids : List CtxId) :
    t.settleCall k.id ids = t.putCall i (some (k.settled (ids.any t.waiting))) := by
  unfold State.settleCall
  rw [State.modCall_found (h.findCall hk) hk, State.modCall_found (h.findCall hk) hk]
  cases ids.any t.waiting <;> rfl

theorem State.kin.laid (h : s.calls.get i = some c) : s.kin (s.laid i c paths ctxs) where
  entry ix := rel_refl Entry.kin.refl _
  port p := .refl _
  call j := by
    show Option.Rel _ _ (Table.get (Table.set _ _ _) j)
    rw [Table.get_set]
    split
    case isTrue hj => subst hj; rw [h]; exact .some ⟨rfl, rfl, rfl⟩
    case isFalse => exact rel_refl Call.kin.refl _

/-- The state laid down, reached by the steps of R127. -/
theorem State.laid_eq (h : s.wired) (hc : s.calls.get i = some c) :
    (((s.freeIds.zip ctxs).foldl (fun s p => s.allocate c.id p.1 p.2) s).modCall c.id (fun k =>
      { k with contexts := s.takenIds ctxs, requested := ctxs.length, paths := paths.map PathPlan.dest })).installPaths c.id
        (s.takenIds ctxs) paths = s.laid i c paths ctxs := by
  rw [State.foldl_allocate]
  have changed : ∀ X g, State.modCall c.id g { s with contexts := X } = State.putCall i (some (g c)) { s with contexts := X } :=
    fun X g => State.modCall_found (s := { s with contexts := X }) (h.findCall hc) hc g
  rw [changed]
  rfl

theorem State.kin.demanded : (s.laid i c paths ctxs).kin (s.demanded i c paths ctxs) :=
  .foldl (fun t p => by split; exacts [.drawDemand _ _ t, .refl t]) _ _

/-- An accepted CONNECT CALL: the state laid down, its draw demand, the call settled, its port in the call (R127, R128). -/
theorem State.accepts.connect_eq (a : s.accepts i c paths ctxs) {k : Call}
    (hk : (s.demanded i c paths ctxs).calls.get i = some k) : s.connect c paths ctxs =
      ((s.demanded i c paths ctxs).putCall i
        (some (k.settled ((s.takenIds ctxs).any (s.demanded i c paths ctxs).waiting)))).putPort c.port
          { (s.demanded i c paths ctxs).port c.port with dial := .inCall } := by
  have kin := State.kin.demanded (s := s) (i := i) (c := c) (paths := paths) (ctxs := ctxs)
  have wired : (s.demanded i c paths ctxs).wired := kin.wired ((State.kin.laid a.call).wired a.wired)
  have hid : k.id = c.id := by
    obtain ⟨d, hd, same⟩ := rel_before (kin.call i) hk
    obtain rfl : d = _ := Option.some.inj (hd.symm.trans ((Table.get_set _ _ _ _).trans (if_pos rfl)))
    exact same.id
  unfold State.connect
  simp only [map_fst_zip_eq_take]
  have laid := State.laid_eq (paths := paths) (ctxs := ctxs) a.wired a.call
  simp only [State.takenIds] at laid
  rw [laid, ← hid]
  exact congrArg (fun t : State => t.putPort c.port { t.port c.port with dial := .inCall }) (wired.settleCall_eq hk _)

/-! ## The contexts and the paths laid down -/

theorem State.freeIds_nodup (s : State) : s.freeIds.Nodup := (List.nodup_finRange 96).filter _

/-- Each plan gets its context, there being enough (R125, step 8). -/
theorem State.accepts.takenIds_length (a : s.accepts i c paths ctxs) : (s.takenIds ctxs).length = ctxs.length := by
  obtain ⟨-, -, -, room⟩ := State.connectRefusal_none a.passes
  rw [State.noRoom_iff, not_or, Nat.not_lt] at room
  rw [State.takenIds, List.length_take, Nat.min_eq_left room.1]

/-- A taken context and its plan stand side by side. -/
theorem State.mem_plans {j : Nat} {x : CtxId} {plan : CtxPlan} (hx : (s.takenIds ctxs)[j]? = some x)
    (hp : ctxs[j]? = some plan) : (x, plan) ∈ s.freeIds.zip ctxs := by
  rw [State.takenIds, List.getElem?_take_of_lt (List.getElem?_eq_some_iff.mp hp).1] at hx
  exact List.mem_of_getElem? (i := j) (List.getElem?_zip_eq_some.mpr ⟨hx, hp⟩)

theorem State.mem_takenIds {x : CtxId} (hx : x ∈ s.takenIds ctxs) : (s.context x).state = .free := by
  simpa [State.freeIds] using List.mem_of_mem_take hx

/-- The contexts not taken stand (R127). -/
theorem State.laid_context_ne {x : CtxId} (hx : x ∉ s.takenIds ctxs) : (s.laid i c paths ctxs).context x = s.context x := by
  refine Table.get_foldl_set_ne (fun p hp he => hx ?_) _
  rw [State.takenIds, ← map_fst_zip_eq_take]
  exact List.mem_map.mpr ⟨p, hp, he⟩

/-- A context taken is set up for its plan (R126, R127). -/
theorem State.laid_context {x : CtxId} {plan : CtxPlan} (hp : (x, plan) ∈ s.freeIds.zip ctxs) :
    (s.laid i c paths ctxs).context x = .planned s.heldKeys c.id plan := by
  have distinct : ((s.freeIds.zip ctxs).map Prod.fst).Nodup := by
    rw [map_fst_zip_eq_take]
    exact s.freeIds_nodup.sublist (List.take_sublist _ _)
  exact Table.get_foldl_set_mem (g := fun p => Context.planned s.heldKeys c.id p.2) distinct hp _

/-- Every taken context has a plan. -/
theorem State.exists_plan {x : CtxId} (hx : x ∈ s.takenIds ctxs) : ∃ plan, (x, plan) ∈ s.freeIds.zip ctxs := by
  rw [State.takenIds, ← map_fst_zip_eq_take] at hx
  obtain ⟨⟨y, plan⟩, hp, rfl⟩ := List.mem_map.mp hx
  exact ⟨plan, hp⟩

theorem State.laid_connections_ne {d : SlotNo} (hd : ∀ p ∈ paths, p.dest ≠ d) :
    (s.laid i c paths ctxs).connections.get d = s.connections.get d := Table.get_foldl_set_ne hd _

/-- Each path stands in connection memory, its reference as the context taken for it (R124, R127). -/
theorem State.accepts.laid_connections (a : s.accepts i c paths ctxs) {p : PathPlan} (hp : p ∈ paths) :
    (s.laid i c paths ctxs).connections.get p.dest =
      some ⟨p.source, p.transform.install (s.takenIds ctxs), c.id⟩ := by
  obtain ⟨-, -, slots, -⟩ := State.connectRefusal_none a.passes
  rw [State.slotTaken_iff, not_or, not_not] at slots
  exact Table.get_foldl_set_mem
    (g := fun p : PathPlan => some (⟨p.source, p.transform.install (s.takenIds ctxs), c.id⟩ : Path)) slots.1 hp _

theorem State.laid_call : (s.laid i c paths ctxs).calls.get i = some { c with
    contexts := s.takenIds ctxs, paths := paths.map PathPlan.dest, requested := ctxs.length } :=
  (Table.get_set _ _ _ _).trans (if_pos rfl)

/-! ## The draw demand (R128, R145) -/

/-- A context waits at the tail of the queue (R150). -/
def State.joined (x : CtxId) (limit : Nat) (s : State) : State :=
  { s with waitQueue := s.waitQueue ++ [WaitItem.mk x limit] }

/-- A draw demand: the context waits, and a pass follows unless the supplier is STOPPED (R145). -/
theorem State.drawDemand_eq (x : CtxId) (limit : Nat) (s : State) : s.drawDemand x limit =
    if s.supplier = .stopped then (s.putContext x { s.context x with state := .keyWait }).joined x limit
    else ((s.putContext x { s.context x with state := .keyWait }).joined x limit).servingPass (some x) := by
  cases hs : s.supplier <;> simp [State.drawDemand, State.joined, hs]

/-- A context that waits already is not written by its demand. -/
theorem State.putContext_keyWait {x : CtxId} (hx : (s.context x).state = .keyWait) :
    s.putContext x { s.context x with state := .keyWait } = s := by
  rw [← hx]
  show { s with contexts := s.contexts.set x (s.contexts.get x) } = s
  rw [Table.set_get_self]

theorem State.demandAll_filter (ix : ExtIx) (plans : List (CtxId × CtxPlan)) : s.demandAll ix plans =
    (plans.filter fun p => p.2.isStation).foldl (fun s p => s.drawDemand p.1 (s.keyWaitLimitOf ix)) s :=
  List.foldl_filter.symm

/-- Without a STATION context there is no draw demand (R128). -/
theorem State.demanded_none (h : ∀ plan ∈ ctxs, plan.far ≠ .station) :
    s.demanded i c paths ctxs = s.laid i c paths ctxs := by
  have empty : ((s.freeIds.zip ctxs).filter fun p => p.2.isStation) = [] :=
    List.filter_eq_nil_iff.mpr fun p hp => by simpa [CtxPlan.isStation] using h p.2 (List.of_mem_zip hp).2
  rw [State.demanded, State.demandAll_filter, empty]
  rfl

/-- The one STATION context makes the one draw demand, with the limit of the extension's class (R125, R128, R151). -/
theorem State.accepts.demanded_station (a : s.accepts i c paths ctxs) {e : Entry} (he : s.entry? c.ext = some e)
    {x : CtxId} {plan : CtxPlan} (hp : (x, plan) ∈ s.freeIds.zip ctxs) (hs : plan.far = .station) :
    s.demanded i c paths ctxs = if s.supplier = .stopped
      then (s.laid i c paths ctxs).joined x (s.classes.get e.cls).keyWaitLimit
      else ((s.laid i c paths ctxs).joined x (s.classes.get e.cls).keyWaitLimit).servingPass (some x) := by
  obtain ⟨-, stations, -⟩ := plansAgree_iff.mp a.agree
  have few := (countP_isStation_zip_le s.freeIds ctxs).trans stations
  have mem : (x, plan) ∈ (s.freeIds.zip ctxs).filter fun p => p.2.isStation :=
    List.mem_filter.mpr ⟨hp, by simp [CtxPlan.isStation, hs]⟩
  have one : ((s.freeIds.zip ctxs).filter fun p => p.2.isStation) = [(x, plan)] := by
    rw [List.countP_eq_length_filter] at few
    obtain ⟨q, hq⟩ := List.length_eq_one_iff.mp (Nat.le_antisymm few (List.length_pos_of_mem mem))
    rw [hq] at mem ⊢
    rw [List.mem_singleton.mp mem]
  have waits : ((s.laid i c paths ctxs).context x).state = .keyWait := by
    rw [State.laid_context hp, Context.planned, hs]
    rfl
  have limit : (s.laid i c paths ctxs).keyWaitLimitOf c.ext = (s.classes.get e.cls).keyWaitLimit := by
    have entry : (s.laid i c paths ctxs).entry? c.ext = some e := he
    simp only [State.keyWaitLimitOf, entry]
    rfl
  rw [State.demanded, State.demandAll_filter, one, List.foldl_cons, List.foldl_nil, limit, State.drawDemand_eq,
    State.putContext_keyWait waits]
  rfl

/-! ## The request (R125 to R128) -/

theorem State.drawDemand_admitFrame (f : Frame) (x : CtxId) (limit : Nat) (s : State) :
    (s.admitFrame f).drawDemand x limit = (s.drawDemand x limit).admitFrame f := by
  rw [State.drawDemand_eq, State.drawDemand_eq, apply_ite (State.admitFrame f), ← State.servingPass_admitFrame]
  rfl

theorem State.demanded_admitFrame (f : Frame) :
    (s.admitFrame f).demanded i c paths ctxs = (s.demanded i c paths ctxs).admitFrame f := by
  have demand : ∀ (t : State) (p : CtxId × CtxPlan),
      (if p.2.isStation then (t.admitFrame f).drawDemand p.1 ((t.admitFrame f).keyWaitLimitOf c.ext) else t.admitFrame f) =
        (if p.2.isStation then t.drawDemand p.1 (t.keyWaitLimitOf c.ext) else t).admitFrame f := by
    intro t p
    split
    · exact State.drawDemand_admitFrame f p.1 _ t
    · rfl
  exact List.foldl_hom (init := s.laid i c paths ctxs) (State.admitFrame f) demand

/-- The frame in the holding stands beside the request. -/
theorem State.accepts.admitFrame (a : s.accepts i c paths ctxs) (f : Frame) : (s.admitFrame f).accepts i c paths ctxs :=
  ⟨(State.kin.of_eq (s := s) (t := s.admitFrame f) rfl rfl rfl).wired a.wired, a.call, a.agree, a.passes⟩

theorem State.accepts.connect_admitFrame (a : s.accepts i c paths ctxs) (f : Frame) :
    (s.admitFrame f).connect c paths ctxs = (s.connect c paths ctxs).admitFrame f := by
  obtain ⟨k, hk, -⟩ := rel_after (State.kin.demanded.call i) State.laid_call
  have hk' : ((s.admitFrame f).demanded i c paths ctxs).calls.get i = some k := by
    rw [State.demanded_admitFrame]
    exact hk
  rw [a.connect_eq hk, (a.admitFrame f).connect_eq hk', State.demanded_admitFrame]
  rfl

/-- The request carried out on a call of the table that waits to be connected. -/
theorem State.accepts.exec (a : s.accepts i c paths ctxs) {tag : Byte} {b : ConnectBody}
    (ht : s.takes ⟨41, tag, b.octets⟩ = true) (hid : c.id = b.call) (hs : c.state = .requested ∨ c.state = .offered) (hb : connectPlans? b = some (paths, ctxs)) :
    exec (.connectCall tag b) s = .next ((s.connect c paths ctxs).heldBack ⟨41, tag, b.octets⟩
      (if ctxs.all CtxPlan.exact then .done else .adjusted) []) := by
  have found : (s.admitFrame ⟨41, tag, b.octets⟩).call? b.call = some c :=
    hid ▸ State.call?_found (s := s) (a.wired.findCall a.call) a.call
  refine congrArg Host.Outcome.next (State.serve_heldBack rfl ht ?_)
  rw [connectCallAct_accepted found hs hb (a.admitFrame _).passes, a.connect_admitFrame]

end Accepted

end Sys2Proof.Machine

/-!
PROOFS. CONNECT CALL step by step (O46; R126 to R128, R144, R145, R149, R158 to R161).
-/

namespace Sys2Proof.Machine

/-! ## B and L (R126) -/

theorem adjustInterval_eq (b : Nat) : adjustInterval b =
    if b < 512 then .b256 else if b < 1024 then .b512 else if b < 2048 then .b1024 else .b2048 := by
  unfold adjustInterval
  grind

theorem CtxPlan.exact_iff {x : CtxPlan} : x.exact = true ↔
    (x.interval = 256 ∨ x.interval = 512 ∨ x.interval = 1024 ∨ x.interval = 2048) ∧ 2 ≤ x.loss ∧ x.loss ≤ 16 := by
  have interval : (adjustInterval x.interval).frames = x.interval ↔
      x.interval = 256 ∨ x.interval = 512 ∨ x.interval = 1024 ∨ x.interval = 2048 := by
    unfold adjustInterval
    split_ifs <;> simp only [Interval.frames] <;> omega
  have loss : adjustLoss x.loss = x.loss ↔ 2 ≤ x.loss ∧ x.loss ≤ 16 := by
    unfold adjustLoss clamp
    omega
  rw [CtxPlan.exact, Bool.and_eq_true, decide_eq_true_iff, decide_eq_true_iff, interval, loss]

/-- The code of an accepted CONNECT CALL (R126). -/
def connectCode (ctxs : List CtxPlan) : Code := if ctxs.all CtxPlan.exact then .done else .adjusted

theorem connectCode_done_iff {ctxs : List CtxPlan} : connectCode ctxs = .done ↔ ∀ x ∈ ctxs,
    (x.interval = 256 ∨ x.interval = 512 ∨ x.interval = 1024 ∨ x.interval = 2048) ∧ 2 ≤ x.loss ∧ x.loss ≤ 16 := by
  simp only [connectCode, ite_eq_left_iff, reduceCtorEq, imp_false, not_not, List.all_eq_true, CtxPlan.exact_iff]

theorem connectCode_or (ctxs : List CtxPlan) : connectCode ctxs = .done ∨ connectCode ctxs = .adjusted := by
  unfold connectCode
  split
  · exact .inl rfl
  · exact .inr rfl

/-- The configuration stored for a plan (R126). -/
def CtxPlan.stored (x : CtxPlan) : CtxConfig := ⟨x.far.farEnd, x.mode,
  if x.interval < 512 then .b256 else if x.interval < 1024 then .b512 else if x.interval < 2048 then .b1024
    else .b2048, max 2 (min 16 x.loss)⟩

theorem Context.allocated_eq (id : CallId) (x : CtxPlan) :
    Context.allocated id x = ⟨.keyWait, some id, some x.stored, none, ⟨0, 0, 0, 0⟩, none, none⟩ := by
  rw [Context.allocated, adjustInterval_eq]
  rfl

theorem Context.planned_station {x : CtxPlan} (h : x.far = .station) (held : Table (Option Key) 32) (id : CallId) :
    Context.planned held id x = ⟨.keyWait, some id, some x.stored, none, ⟨0, 0, 0, 0⟩, none, none⟩ := by
  rw [Context.planned, h, Context.allocated_eq]

/-- A TRUNK context is keyed from its held slot and salt (R30, R159). -/
theorem Context.planned_trunk {x : CtxPlan} {slot : HeldSlot} {salt : Long} (h : x.far = .trunk slot salt)
    {held : Table (Option Key) 32} {k : Key} (hk : held.get slot = some k) (id : CallId) :
    Context.planned held id x = ⟨.active, some id, some x.stored, some (.heldSlot slot salt), trunkKey salt k,
      some (TxPart.start (trunkKey salt k)), some (RxPart.start (trunkKey salt k))⟩ := by
  simp only [Context.planned, h, Context.allocated_eq, hk]
  rfl

theorem Context.planned_fields (held : Table (Option Key) 32) (id : CallId) (x : CtxPlan) :
    (Context.planned held id x).call = some id ∧ (Context.planned held id x).config = some x.stored ∧
      (Context.planned held id x).state ≠ .free := by
  unfold Context.planned
  cases x.far <;> simp [Context.allocated_eq, Context.keyed]

/-! ## The request in equations -/

section Accepted

variable {s : State} {i : Fin 128} {c : Call} {paths : List PathPlan} {ctxs : List CtxPlan} {tag : Byte} {b : ConnectBody}

/-- What the reply waits with: the state after the draw demand, the call settled, its port in the call (R128). -/
def State.settled (t : State) (i : Fin 128) (k : Call) (ids : List CtxId) (q : Port) : State :=
  (t.putCall i (some (k.settled (ids.any t.waiting)))).putPort q { t.port q with dial := .inCall }

theorem State.accepts.of_plans (h : s.wired) (hc : s.calls.get i = some c) (hb : connectPlans? b = some (paths, ctxs))
    (hr : s.connectRefusal c paths ctxs = none) : s.accepts i c paths ctxs :=
  ⟨h, hc, (connectPlans?_eq_some_iff.mp hb).2.2.2, hr⟩

theorem State.accepts.exec_eq (a : s.accepts i c paths ctxs) (ht : s.takes ⟨41, tag, b.octets⟩ = true)
    (hid : c.id = b.call) (hs : c.state = .requested ∨ c.state = .offered) (hb : connectPlans? b = some (paths, ctxs))
    {t : State} (hd : s.demanded i c paths ctxs = t) {k : Call} (hk : t.calls.get i = some k) :
    Machine.exec (.connectCall tag b) s = .next ((t.settled i k (s.takenIds ctxs) c.port).heldBack ⟨41, tag, b.octets⟩
      (connectCode ctxs) []) := by
  subst hd
  rw [a.exec ht hid hs hb, a.connect_eq hk]
  rfl

/-- The transform installed for each transform asked for (R124, R127). -/
theorem State.accepts.install (a : s.accepts i c paths ctxs) {p : PathPlan} (hp : p ∈ paths) :
    (p.transform = .pass → p.transform.install (s.takenIds ctxs) = .pass) ∧
      (p.transform = .mute → p.transform.install (s.takenIds ctxs) = .mute) ∧
      (∀ j, p.transform = .scramble j → ∃ x, (s.takenIds ctxs)[j]? = some x ∧
        p.transform.install (s.takenIds ctxs) = .scramble x) ∧
      (∀ j, p.transform = .descramble j → ∃ x, (s.takenIds ctxs)[j]? = some x ∧
        p.transform.install (s.takenIds ctxs) = .descramble x) := by
  have refs := PathPlan.refsBelow_iff.mp ((plansAgree_iff.mp a.agree).1 p hp)
  have taken : ∀ j, j < ctxs.length → ∃ x, (s.takenIds ctxs)[j]? = some x := fun j hj =>
    ⟨_, List.getElem?_eq_getElem (a.takenIds_length ▸ hj)⟩
  refine ⟨fun h => by rw [h]; rfl, fun h => by rw [h]; rfl, fun j h => ?_, fun j h => ?_⟩
  · obtain ⟨x, hx⟩ := taken j (refs j (.inl h))
    exact ⟨x, hx, by simp [h, TransformSpec.install, hx]⟩
  · obtain ⟨x, hx⟩ := taken j (refs j (.inr h))
    exact ⟨x, hx, by simp [h, TransformSpec.install, hx]⟩

theorem State.mem_plans_of_mem (a : s.accepts i c paths ctxs) {plan : CtxPlan} (h : plan ∈ ctxs) :
    ∃ x, (x, plan) ∈ s.freeIds.zip ctxs := by
  obtain ⟨j, hj⟩ := List.mem_iff_getElem?.mp h
  have hl : j < (s.takenIds ctxs).length := a.takenIds_length ▸ (List.getElem?_eq_some_iff.mp hj).1
  exact ⟨_, State.mem_plans (List.getElem?_eq_getElem hl) hj⟩

/-- Contexts that wait to be served by the pass of the draw demand, if there is one (R145). -/
theorem State.accepts.passed (a : s.accepts i c paths ctxs) :
    ∃ own done, State.passed own done (s.laid i c paths ctxs) (s.demanded i c paths ctxs) := by
  by_cases hs : ∀ plan ∈ ctxs, plan.far ≠ .station
  · rw [State.demanded_none hs]
    exact ⟨none, [], .refl none _⟩
  · push Not at hs
    obtain ⟨plan, hp, hs⟩ := hs
    obtain ⟨x, hx⟩ := State.mem_plans_of_mem a hp
    obtain ⟨e, he, -⟩ := a.wired.callEntry i c a.call
    have joins : State.passed (some x) [] (s.laid i c paths ctxs)
        ((s.laid i c paths ctxs).joined x (s.classes.get e.cls).keyWaitLimit) := .of_eq rfl rfl rfl rfl
    rw [a.demanded_station he hx hs]
    split
    · exact ⟨_, _, joins⟩
    · have wired : ((s.laid i c paths ctxs).joined x (s.classes.get e.cls).keyWaitLimit).wired :=
        State.kin.wired (s := s.laid i c paths ctxs) (.of_eq rfl rfl rfl) ((State.kin.laid a.call).wired a.wired)
      obtain ⟨done, -, -, pass⟩ := wired.passed_servingPass (some x)
      exact ⟨_, _, joins.trans pass⟩

/-! ## The pass of one waiting context (R144, R149) -/

/-- The key at the draw pointer taken for a context, `rest` waiting behind it (R144). -/
def State.drewKey (rest : List WaitItem) (s : State) : State :=
  { s with ring := s.ring.set s.pointer RingSlot.empty, pointer := ringAhead s.pointer 1, waitQueue := rest }

/-- The supplier's state written. -/
def State.putSupplier (v : Supplier) (s : State) : State := { s with supplier := v }

theorem Beside.putSupplier (v : Supplier) : Beside (State.putSupplier v) :=
  ⟨fun _ => rfl, fun _ => rfl, fun _ => rfl, fun _ _ _ => rfl, fun _ _ _ => rfl, fun _ _ _ => rfl, fun _ _ => rfl⟩

theorem State.endPass_running (h : s.waitQueue = []) : s.endPass = s.putSupplier .running := by
  simp [State.endPass, h, State.putSupplier]

/-- The only context in the queue takes the key at the draw pointer; the supplier is RUNNING. -/
theorem State.servingPass_served {x : CtxId} {limit : Nat} (hw : s.waitQueue = [WaitItem.mk x limit]) {drawn : Key}
    (hr : s.ring.get s.pointer = ⟨.device, drawn⟩) :
    s.servingPass (some x) = ((s.drewKey []).keyStation x drawn).putSupplier .running := by
  have delivered : s.serveQueue (some x) s.waitQueue = (s.drewKey []).keyStation x drawn := by
    simp [hw, State.serveQueue, State.deliver, RingSlot.fresh, hr, State.drewKey]
  rw [State.servingPass, delivered]
  exact State.endPass_running (State.keyStation_waitQueue _ _ _)

/-- Without a key at the draw pointer the only context waits on, and the supplier is SUSPENDED. -/
theorem State.servingPass_short {x : CtxId} {limit : Nat} (hw : s.waitQueue = [WaitItem.mk x limit])
    (hr : (s.ring.get s.pointer).owner = .host) : s.servingPass (some x) =
      (s.putSupplier .suspended).raise (.keysShort 1 s.pointer s.freshCount) := by
  simp [State.servingPass, hw, State.serveQueue, RingSlot.fresh, hr, State.endPass, State.putSupplier]

/-! ## One context over a lowest FREE one -/

/-- The lowest FREE context comes first (R127). -/
theorem State.freeIds_lowest {id : CtxId} (h : (s.context id).state = .free) (low : ∀ j, j < id → (s.context j).state ≠ .free) :
    ∃ rest, s.freeIds = id :: rest := by
  have first : s.freeIds.head? = some id := by
    rw [State.freeIds, List.head?_filter]
    exact find?_finRange (by simp [h]) fun j hj => by simp [low j hj]
  exact ⟨_, List.eq_cons_of_mem_head? first⟩

/-- The only taken context is the lowest FREE one. -/
theorem State.takenIds_one {id : CtxId} (h : (s.context id).state = .free)
    (low : ∀ j, j < id → (s.context j).state ≠ .free) (x : CtxPlan) :
    s.takenIds [x] = [id] ∧ s.freeIds.zip [x] = [(id, x)] := by
  obtain ⟨rest, hf⟩ := State.freeIds_lowest h low
  refine ⟨?_, ?_⟩
  · rw [State.takenIds, hf]
    rfl
  · simp [hf]

/-- The transform installed when the one context is the only one a reference can name. -/
def TransformSpec.overOne (id : CtxId) : TransformSpec → Transform
  | .pass => .pass
  | .mute => .mute
  | .scramble _ => .scramble id
  | .descramble _ => .descramble id

/-- The state laid down over the one context, with the paths in connection memory, their references all to it. -/
def State.laidOne (s : State) (i : Fin 128) (c : Call) (paths : List PathPlan) (x : CtxPlan) (id : CtxId)
    (connections : Table (Option Path) 192) : State :=
  { s with
    connections := connections
    calls := s.calls.set i (some { c with contexts := [id], paths := paths.map PathPlan.dest, requested := 1 })
  }.putContext id (.planned s.heldKeys c.id x)

theorem State.accepts.laid_one {x : CtxPlan} (a : s.accepts i c paths [x]) {id : CtxId} (taken : s.takenIds [x] = [id])
    (plans : s.freeIds.zip [x] = [(id, x)]) {connections : Table (Option Path) 192}
    (set : ∀ p ∈ paths, connections.get p.dest = some ⟨p.source, p.transform.overOne id, c.id⟩)
    (kept : ∀ d, (∀ p ∈ paths, p.dest ≠ d) → connections.get d = s.connections.get d) :
    s.laid i c paths [x] = s.laidOne i c paths x id connections := by
  have same : (s.laid i c paths [x]).connections = connections := by
    refine Table.ext_get fun d => ?_
    by_cases hd : ∀ p ∈ paths, p.dest ≠ d
    · rw [State.laid_connections_ne hd, kept d hd]
    · push Not at hd
      obtain ⟨p, hp, rfl⟩ := hd
      rw [a.laid_connections hp, set p hp]
      obtain ⟨-, -, scrambles, descrambles⟩ := a.install hp
      rw [taken] at scrambles descrambles ⊢
      cases ht : p.transform with
      | pass => rfl
      | mute => rfl
      | scramble j =>
        obtain ⟨y, hy, hi⟩ := scrambles j ht
        obtain rfl := List.mem_singleton.mp (List.mem_of_getElem? hy)
        rw [← ht, hi, ht]
        rfl
      | descramble j =>
        obtain ⟨y, hy, hi⟩ := descrambles j ht
        obtain rfl := List.mem_singleton.mp (List.mem_of_getElem? hy)
        rw [← ht, hi, ht]
        rfl
  rw [State.laidOne, ← same, State.laid, taken, plans]
  rfl

theorem State.laidOne_call (x : CtxPlan) {id : CtxId} (connections : Table (Option Path) 192) {t : State}
    (ht : t.calls = (s.laidOne i c paths x id connections).calls) : t.calls.get i =
      some { c with contexts := [id], paths := paths.map PathPlan.dest, requested := 1 } :=
  (congrArg (Table.get · i) ht).trans <| (Table.get_set _ _ _ _).trans (if_pos rfl)

theorem State.laidOne_context {x : CtxPlan} {id : CtxId} {connections : Table (Option Path) 192} :
    (s.laidOne i c paths x id connections).context id = .planned s.heldKeys c.id x :=
  (State.context_putContext _ _ _ _).trans (if_pos rfl)

/-- The request, when it is known whether a context of the call waits, and the port is as the request found it. -/
theorem State.accepts.exec_settled (a : s.accepts i c paths ctxs) (ht : s.takes ⟨41, tag, b.octets⟩ = true)
    (hid : c.id = b.call) (hs : c.state = .requested ∨ c.state = .offered) (hb : connectPlans? b = some (paths, ctxs))
    {t : State} (hd : s.demanded i c paths ctxs = t) {k : Call} (hk : t.calls.get i = some k) {waits : Bool}
    (hw : (s.takenIds ctxs).any t.waiting = waits) (hq : t.port c.port = s.port c.port) :
    Machine.exec (.connectCall tag b) s = .next (((t.putCall i (some (k.settled waits))).putPort c.port
      { s.port c.port with dial := .inCall }).heldBack ⟨41, tag, b.octets⟩ (connectCode ctxs) []) := by
  rw [a.exec_eq ht hid hs hb hd hk, State.settled, hw, hq]

/-- The context of a pass of one is keyed for the call laid down, the supplier RUNNING, and CALL KEY offered (R160). -/
theorem State.accepts.servingPass_one {x : CtxPlan} (a : s.accepts i c paths [x]) {e : Entry} (he : s.entry? c.ext = some e)
    {id : CtxId} {connections : Table (Option Path) 192} (hl : s.laid i c paths [x] = s.laidOne i c paths x id connections)
    (hq : s.waitQueue = []) {drawn : Key} (hr : s.ring.get s.pointer = ⟨.device, drawn⟩) (limit : Nat) :
    ((s.laidOne i c paths x id connections).joined id limit).servingPass (some id) = (State.putContext id
        ((Context.planned s.heldKeys c.id x).keyed (.drawn s.nonce) drawn)
        (State.spendNonce (((s.laidOne i c paths x id connections).drewKey []).putSupplier .running))).offer c.port
          (.callKey s.nonce (wrapKey s.nonce e.secret drawn)) := by
  have wired : ((s.laidOne i c paths x id connections).drewKey []).wired :=
    State.kin.wired (s := s.laid i c paths [x]) (hl ▸ .of_eq rfl rfl rfl) ((State.kin.laid a.call).wired a.wired)
  have context : (s.laidOne i c paths x id connections).context id = _ := State.laidOne_context
  have call : (((s.laidOne i c paths x id connections).drewKey []).context id).call = some c.id :=
    (congrArg Context.call context).trans (Context.planned_fields s.heldKeys c.id x).1
  have queue : ((s.laidOne i c paths x id connections).joined id limit).waitQueue = [WaitItem.mk id limit] :=
    congrArg (· ++ [WaitItem.mk id limit]) hq
  rw [State.servingPass_served queue hr, ← context]
  exact (congrArg (State.putSupplier .running) (wired.keyStation_eq (State.laidOne_call x connections rfl) he call drawn)).trans
    ((Beside.putSupplier .running).offer _ _ _).symm

end Accepted

theorem Call.completed_fields (completes : Bool) (k : Call) :
    (if completes then k.completed else k).contexts = k.contexts ∧
      ((if completes then k.completed else k).id, (if completes then k.completed else k).paths,
        (if completes then k.completed else k).requested) = (k.id, k.paths, k.requested) := by
  cases completes <;> exact ⟨rfl, rfl⟩

theorem Call.settled_fields (k : Call) (waits : Bool) : (k.settled waits).contexts = k.contexts ∧
    ((k.settled waits).id, (k.settled waits).paths, (k.settled waits).requested) = (k.id, k.paths, k.requested) ∧
    (waits = true → (k.settled waits).state = .connecting) ∧
    (waits = false → (k.settled waits).state = .connected ∧ (k.settled waits).connectedTime = some 0) := by
  cases waits
  · exact ⟨rfl, rfl, nofun, fun _ => ⟨rfl, rfl⟩⟩
  · exact ⟨rfl, rfl, fun _ => rfl, nofun⟩

/-- Settles O46: the request in equations, then without a context, with one, and what is the same whatever the pass. -/
theorem connectCallInstallsPathsAndContexts : Obligations.ConnectCallInstallsPathsAndContexts := by
  refine ⟨?clear, ?oneContext, ?anyContexts, ?servedWithin, ?steps⟩
  case clear =>
    rintro tag b f c i paths s rfl ht h hc hid hs hb hr
    have a := State.accepts.of_plans h hc hb hr
    refine ⟨(s.laid i c paths []).connections, fun p hp => ?_, fun d => State.laid_connections_ne, ?_⟩
    · rw [a.laid_connections hp]
      obtain ⟨pass, mute, scrambles, descrambles⟩ := a.install hp
      cases ht : p.transform with
      | pass => rfl
      | mute => rfl
      | scramble j => obtain ⟨y, hy, -⟩ := scrambles j ht; simp [State.takenIds] at hy
      | descramble j => obtain ⟨y, hy, -⟩ := descrambles j ht; simp [State.takenIds] at hy
    · rw [a.exec_settled (waits := false) ht hid hs hb (State.demanded_none (by simp)) State.laid_call
        (by simp [State.takenIds]) rfl]
      simp only [State.putCall, State.laid, List.zip_nil_right, List.foldl_nil, Table.set_set]
      rfl
  case oneContext =>
    rintro tag b f c i paths x id e cfg connections s rfl ht h hc hid hs hb hr he hfree low rfl set kept
    have a := State.accepts.of_plans h hc hb hr
    obtain ⟨taken, plans⟩ := State.takenIds_one hfree low x
    have laid := a.laid_one taken plans set kept
    refine ⟨connectCode [x], by rw [connectCode_done_iff]; simp, connectCode_or _, ?trunk, ?station⟩
    case trunk =>
      rintro slot salt held key hf hk rfl
      have keyed := Context.planned_trunk hf hk c.id
      rw [a.exec_settled (waits := false) ht hid hs hb ((State.demanded_none (by simp [hf])).trans laid)
        (State.laidOne_call x connections rfl)
        (by simp [taken, State.waiting, State.laidOne_context, keyed]) rfl]
      simp only [State.laidOne, keyed, State.putCall, State.putContext, Table.set_set]
      rfl
    case station =>
      intro hf stopped
      have waits := Context.planned_station hf s.heldKeys c.id
      have joined := (a.demanded_station he (plans ▸ List.mem_singleton_self (id, x)) hf).trans (if_pos stopped)
      rw [laid] at joined
      rw [a.exec_settled (waits := true) ht hid hs hb joined (State.laidOne_call x connections rfl)
        (by simp [taken, State.waiting, State.joined, State.laidOne, State.context, waits]) rfl]
      simp only [State.joined, State.laidOne, waits, State.putCall, State.putContext, Table.set_set]
      rfl
  case anyContexts =>
    rintro tag b f c i paths ctxs s rfl ht h hc hid hs hb hr
    have a := State.accepts.of_plans h hc hb hr
    obtain ⟨own, done, p⟩ := a.passed
    obtain ⟨d, hk, contexts, same⟩ : ∃ d, (s.demanded i c paths ctxs).calls.get i = some d ∧
        d.contexts = s.takenIds ctxs ∧ (d.id, d.paths, d.requested) = (c.id, paths.map PathPlan.dest, ctxs.length) :=
      ⟨_, p.call_of State.laid_call, Call.completed_fields _ _⟩
    obtain ⟨contexts', same', connecting, connected⟩ :=
      d.settled_fields ((s.takenIds ctxs).any (s.demanded i c paths ctxs).waiting)
    rw [contexts] at contexts'
    have laid : ∀ {x plan}, (x, plan) ∈ s.freeIds.zip ctxs → (s.laid i c paths ctxs).context x = _ :=
      fun hx => State.laid_context hx
    refine ⟨_, _, _, a.exec_eq ht hid hs hb rfl hk, connectCode_or _, (Table.get_set _ _ _ _).trans (if_pos rfl), contexts',
      same'.trans same, fun ⟨x, hx, hxw⟩ => connecting ?waits, fun served => connected ?served, fun x hx => ?context,
      fun j x plan hx hp => ⟨plan.stored, ?config, rfl, rfl, rfl, rfl⟩, fun q hq => contexts'.symm ▸ ⟨_, ?path, a.install hq⟩,
      fun d hd => ?other, ?dial⟩
    case waits => exact List.any_eq_true.mpr ⟨x, contexts' ▸ hx, decide_eq_true hxw⟩
    case served =>
      rw [List.any_eq_false]
      exact fun x hx hw => served x (contexts'.symm ▸ hx) (of_decide_eq_true hw)
    case context =>
      obtain ⟨plan, hp⟩ := State.exists_plan (contexts' ▸ hx)
      obtain ⟨call, -, used⟩ := Context.planned_fields s.heldKeys c.id plan
      rw [← laid hp] at call used
      refine ⟨(p.context_call x).trans call, ?_⟩
      rcases p.context_eq x with h | ⟨-, _, _, h⟩
      · exact h.symm ▸ used
      · exact h.symm ▸ nofun
    case config =>
      have hp' := State.mem_plans (contexts' ▸ hx) hp
      exact (p.context_config x).trans (laid hp' ▸ (Context.planned_fields s.heldKeys c.id plan).2.1)
    case path => exact (congrArg (Table.get · q.dest) p.connections).trans (a.laid_connections hq)
    case other => exact (congrArg (Table.get · d) p.connections).trans (State.laid_connections_ne hd)
    case dial => exact congrArg PortRec.dial (State.port_putPort_self _ _ _)
  case servedWithin =>
    rintro tag b f c i paths x id e cfg connections s rfl ht h hc hid hs hb hr he hfree low rfl set kept hf supplied hq
    have a := State.accepts.of_plans h hc hb hr
    obtain ⟨taken, plans⟩ := State.takenIds_one hfree low x
    have laid := a.laid_one taken plans set kept
    have waits := Context.planned_station hf s.heldKeys c.id
    have pass := (a.demanded_station he (plans ▸ List.mem_singleton_self (id, x)) hf).trans (if_neg supplied)
    rw [laid] at pass
    refine ⟨connectCode [x], connectCode_or _, ?served, ?short⟩
    case served =>
      rintro drawn m nk hr rfl rfl
      rw [a.servingPass_one he laid hq hr] at pass
      rw [a.exec_settled (waits := false) ht hid hs hb pass (State.laidOne_call x connections (State.offer_calls _ _ _)) ?active
        (State.offer_port _ _ _ _), ← (Beside.putCall i _).offer]
      case active =>
        rw [taken, List.any_cons, List.any_nil, Bool.or_false, State.waiting, State.context,
          (AdmissionOnly.beside (.offer c.port _ _)).2.1]
        simp [State.putContext, Context.keyed]
      simp only [State.laidOne, waits, State.putCall, State.putContext, State.spendNonce, State.drewKey, State.putSupplier,
        ← hq, CtxPlan.stored, hf, FarPlan.farEnd, Table.set_set]
      rfl
    case short =>
      intro hr
      have queue : ((s.laidOne i c paths x id connections).joined id (s.classes.get e.cls).keyWaitLimit).waitQueue =
          [WaitItem.mk id (s.classes.get e.cls).keyWaitLimit] := congrArg (· ++ [WaitItem.mk id _]) hq
      rw [State.servingPass_short queue hr] at pass
      rw [a.exec_settled (waits := true) ht hid hs hb pass (State.laidOne_call x connections rfl)
        (by simp [taken, State.waiting, State.joined, State.laidOne, State.putSupplier, State.context, waits]) rfl,
        ← (Beside.putCall i _).raise]
      simp only [State.joined, State.laidOne, waits, State.putCall, State.putContext, State.putSupplier, Table.set_set, hq,
        CtxPlan.stored, hf, FarPlan.farEnd]
      rfl
  case steps =>
    rintro tag b f c i e paths ctxs ids s rfl ht h hc hid hs hb hr he hids
    obtain rfl : ids = s.takenIds ctxs := hids
    have a := State.accepts.of_plans h hc hb hr
    obtain ⟨k, hk, -⟩ := rel_after (State.kin.demanded.call i) (State.laid_call (s := s) (c := c) (paths := paths))
    refine ⟨(s.laid i c paths ctxs).contexts, (s.laid i c paths ctxs).connections, s.laid i c paths ctxs,
      s.demanded i c paths ctxs, k, connectCode ctxs, ⟨fun x => State.laid_context_ne, fun j x plan hx hp => ?contexts⟩,
      ⟨fun d => State.laid_connections_ne, fun p hp => ⟨_, a.laid_connections hp, a.install hp⟩⟩, rfl,
      State.demanded_none, ?station, hk, connectCode_done_iff, connectCode_or _, a.exec_eq ht hid hs hb rfl hk⟩
    case contexts =>
      have laid : (s.laid i c paths ctxs).context x = _ := State.laid_context (State.mem_plans hx hp)
      refine ⟨plan.stored, rfl, fun hf => laid.trans (Context.planned_station hf _ _), ?_⟩
      rintro slot salt held key hf hh rfl
      exact laid.trans (Context.planned_trunk hf hh _)
    case station =>
      rintro j x plan waits hx hp hf rfl
      exact a.demanded_station he (State.mem_plans hx hp) hf

end Sys2Proof.Machine

/-!
PROOFS. The invariants after power-up (O7; R200), and the agreement of ports, calls, contexts and connection memory when
there is no call.
-/

namespace Sys2Proof.Machine

/-- With no call anywhere there is nothing to disagree. -/
theorem State.callsWired.of_none {s : State} (ports : ∀ p, (s.port p).call = none ∧ (s.port p).dial = .idle)
    (live : ∀ ix e, s.entry? ix = some e → e.liveCall = none) (calls : ∀ i, s.calls.get i = none)
    (contexts : ∀ x, s.context x = Context.free) (queue : s.waitQueue = [])
    (connections : ∀ d, s.connections.get d = none) : s.callsWired := by
  have table : ∀ c, ¬ s.inTable c := by
    rintro c ⟨i, hc⟩
    exact nomatch (calls i).symm.trans hc
  have free : ∀ x, (s.context x).state = .free := fun x => by rw [contexts]; rfl
  have used : ∀ x {P : Prop}, (s.context x).state ≠ .free → P := fun x _ h => absurd (free x) h
  constructor
  case portCall => exact fun p id h => nomatch (ports p).1.symm.trans h
  case callPort => exact fun c h => absurd h (table c)
  case liveCall => exact fun ix e id he h => nomatch (live ix e he).symm.trans h
  case dialCall =>
    intro p h
    rw [(ports p).2] at h
    rcases h with h | h | h <;> cases h
  case callFields => exact fun c h => absurd h (table c)
  case contextFields =>
    intro x
    rw [contexts]
    exact ⟨fun _ => rfl, fun h => absurd rfl h, nofun, nofun⟩
  case contextCall => exact fun x => used x
  case callContext => exact fun c x h => absurd h (table c)
  case oneWaits => exact fun c h => absurd h (table c)
  case queued => exact ⟨fun x => by simp [queue, free], by simp [queue]⟩
  case running => exact fun _ => queue
  case pathOwner => exact fun d p h => nomatch (connections d).symm.trans h
  case callPath => exact fun c d h => absurd h (table c)
  case pathContext => exact fun d p x h => nomatch (connections d).symm.trans h
  case twoPaths => exact fun x => used x

/-- Ports, calls, contexts and connection memory cold, and no live call. -/
theorem State.callsWired.cold {s : State} (hd : s.directory = Table.replicate 320 none)
    (hp : s.ports = Table.replicate 256 PortRec.cold) (hc : s.calls = Table.replicate 128 none)
    (hx : s.contexts = Table.replicate 96 Context.free) (hw : s.waitQueue = [])
    (hm : s.connections = Table.replicate 192 none) : s.callsWired := by
  refine .of_none (fun p => ?_) (fun ix e he => ?_) (fun i => by simp [hc]) (fun x => by simp [State.context, hx]) hw
    (fun d => by simp [hm])
  · simp [State.port, hp, PortRec.cold]
  · simp [State.entry?, hd] at he

/-- Settles O7: a machine at reset has no entry, no block queued, no call and no context, and its counts are 0. -/
theorem invariantsHoldAtReset : Obligations.InvariantsHoldAtReset := by
  have loop : ∀ l, State.reset.loop l = LoopRec.cold := fun l => Table.get_replicate _ _
  have port : ∀ p, State.reset.port p = PortRec.cold := fun p => Table.get_replicate _ _
  have slot : ∀ i, State.reset.ring.get i = RingSlot.empty := fun i => Table.get_replicate _ _
  have context : ∀ x, State.reset.context x = Context.free := fun x => Table.get_replicate _ _
  refine ⟨?attention, nofun, ?queues, fun i _ => ?ring, ?wait, ?holding, ?time, ?counter, .cold rfl rfl rfl,
    .cold rfl rfl rfl rfl rfl rfl, ?sides, ?presence⟩
  case attention => exact ⟨Nat.zero_le _, .nil⟩
  case queues => exact fun l => (loop l).symm ▸ ⟨fun st => Nat.zero_le _, rfl, Nat.zero_le _⟩
  case ring => rw [slot]; rfl
  case wait => exact Nat.zero_le _
  case holding => exact ⟨Nat.zero_le _, nofun⟩
  case time => unfold State.timeWell; decide
  case counter => rfl
  case sides => exact fun x cfg h => nomatch (context x ▸ h : Context.free.config = some cfg)
  case presence =>
    refine ⟨fun l => ?_, fun l t h => ?_, fun l st _ => ?_⟩
    · rw [loop]
      decide
    · rw [loop] at h
      cases h
    · rw [port]
      exact ⟨rfl, rfl⟩

end Sys2Proof.Machine

/-!
PROOFS. Updates that spare the calls (O60): what such an update may write, and that the agreement of ports, calls, contexts,
wait queue and connection memory passes to the state after it.
-/

namespace Sys2Proof.Machine

/-! ## Updates that spare the calls

`s.spares t`: ports, live calls, calls, contexts, wait queue, supplier and connection memory of `t` agree with one another as
those of `s` do, whatever else has changed. -/

/-- The live call of an entry, if it has one. -/
def State.live? (s : State) (ix : ExtIx) : Option CallId := (s.entry? ix).bind Entry.liveCall

/-- The port record `q` keeps the call of `r`, and a dial state that fits it. -/
structure PortRec.spares (r q : PortRec) : Prop where
  call : q.call = r.call
  inCall : q.dial.inCallStates → r.dial.inCallStates
  dials : ∀ k : CallState, k.dials r.dial → k.dials q.dial

/-- The call `d` stands where `c` stood, in the same state. -/
structure Call.spares (c d : Call) : Prop where
  id : d.id = c.id
  port : d.port = c.port
  ext : d.ext = c.ext
  state : d.state = c.state
  paths : d.paths = c.paths
  contexts : d.contexts = c.contexts
  time : d.connectedTime.isSome = c.connectedTime.isSome

/-- The context `y` is in the state of `x`, for the same call. -/
structure Context.spares (x y : Context) : Prop where
  state : y.state = x.state
  call : y.call = x.call
  fields : x.fieldsWell → y.fieldsWell

/-- The update from `s` to `t` spares the calls. -/
structure State.spares (s t : State) : Prop where
  port : ∀ p, (s.port p).spares (t.port p)
  live : ∀ ix, t.live? ix = s.live? ix
  call : ∀ i, Option.Rel Call.spares (s.calls.get i) (t.calls.get i)
  context : ∀ x, (s.context x).spares (t.context x)
  queue : t.waitQueue.map WaitItem.ctx = s.waitQueue.map WaitItem.ctx
  supplier : t.supplier = .running → s.supplier = .running
  connections : t.connections = s.connections

theorem PortRec.spares.refl (r : PortRec) : r.spares r := ⟨rfl, id, fun _ => id⟩

theorem PortRec.spares.trans {r q u : PortRec} (h : r.spares q) (k : q.spares u) : r.spares u :=
  ⟨k.call.trans h.call, h.inCall ∘ k.inCall, fun state => k.dials state ∘ h.dials state⟩

theorem Call.spares.refl (c : Call) : c.spares c := ⟨rfl, rfl, rfl, rfl, rfl, rfl, rfl⟩

theorem Call.spares.trans {c d e : Call} (h : c.spares d) (k : d.spares e) : c.spares e :=
  ⟨k.id.trans h.id, k.port.trans h.port, k.ext.trans h.ext, k.state.trans h.state, k.paths.trans h.paths,
    k.contexts.trans h.contexts, k.time.trans h.time⟩

theorem Context.spares.refl (x : Context) : x.spares x := ⟨rfl, rfl, id⟩

theorem Context.spares.trans {x y z : Context} (h : x.spares y) (k : y.spares z) : x.spares z :=
  ⟨k.state.trans h.state, k.call.trans h.call, k.fields ∘ h.fields⟩

theorem State.mem_queue_iff {s : State} {x : CtxId} : (∃ w ∈ s.waitQueue, w.ctx = x) ↔ x ∈ s.waitQueue.map WaitItem.ctx := by
  simp

namespace State.spares

variable {s t u : State}

/-- An update that writes none of the objects. -/
theorem of_eq (hd : t.directory = s.directory) (hp : t.ports = s.ports) (hc : t.calls = s.calls)
    (hx : t.contexts = s.contexts) (hw : t.waitQueue = s.waitQueue) (hs : t.supplier = s.supplier)
    (hm : t.connections = s.connections) : s.spares t where
  port p := by simpa only [State.port, hp] using .refl _
  live ix := by simp only [State.live?, State.entry?, hd]
  call i := by simpa only [hc] using rel_refl Call.spares.refl _
  context x := by simpa only [State.context, hx] using .refl _
  queue := by rw [hw]
  supplier := by rw [hs]; exact id
  connections := hm

theorem refl (s : State) : s.spares s := of_eq rfl rfl rfl rfl rfl rfl rfl

theorem trans (h : s.spares t) (k : t.spares u) : s.spares u where
  port p := (h.port p).trans (k.port p)
  live ix := (k.live ix).trans (h.live ix)
  call i := rel_trans (r := Call.spares) (fun _ _ _ => Call.spares.trans) (h.call i) (k.call i)
  context x := (h.context x).trans (k.context x)
  queue := k.queue.trans h.queue
  supplier := h.supplier ∘ k.supplier
  connections := k.connections.trans h.connections

/-- A fold of updates that each spare the calls. -/
theorem foldl {α : Type} {f : State → α → State} (h : ∀ (s : State) a, s.spares (f s a)) (as : List α) (s : State) :
    s.spares (as.foldl f s) := by
  induction as generalizing s with
  | nil => exact refl s
  | cons a as ih => exact (h s a).trans (ih _)

theorem inTable_after (k : s.spares t) {c : Call} (hc : s.inTable c) : ∃ d, t.inTable d ∧ c.spares d := by
  obtain ⟨i, hi⟩ := hc
  obtain ⟨d, hd, same⟩ := rel_after (k.call i) hi
  exact ⟨d, ⟨i, hd⟩, same⟩

theorem inTable_before (k : s.spares t) {d : Call} (hd : t.inTable d) : ∃ c, s.inTable c ∧ c.spares d := by
  obtain ⟨i, hi⟩ := hd
  obtain ⟨c, hc, same⟩ := rel_before (k.call i) hi
  exact ⟨c, ⟨i, hc⟩, same⟩

/-- An update that spares the calls leaves them in agreement. -/
theorem callsWired (k : s.spares t) (h : s.callsWired) : t.callsWired where
  portCall p id hp := by
    obtain ⟨c, hc, hid, hcp⟩ := h.portCall p id ((k.port p).call.symm.trans hp)
    obtain ⟨d, hd, same⟩ := k.inTable_after hc
    exact ⟨d, hd, same.id.trans hid, same.port.trans hcp⟩
  callPort d hd := by
    obtain ⟨c, hc, same⟩ := k.inTable_before hd
    obtain ⟨call, dials⟩ := h.callPort c hc
    rw [same.port, same.id, same.state]
    exact ⟨(k.port _).call.trans call, (k.port _).dials _ dials⟩
  liveCall ix e id he hl := by
    have live : s.live? ix = some id := by rw [← k.live, State.live?, he, Option.bind_some, hl]
    obtain ⟨e', he', hl'⟩ := Option.bind_eq_some_iff.mp live
    obtain ⟨c, hc, hid, hx⟩ := h.liveCall ix e' id he' hl'
    obtain ⟨d, hd, same⟩ := k.inTable_after hc
    exact ⟨d, hd, same.id.trans hid, same.ext.trans hx⟩
  dialCall p hp := by
    rw [(k.port p).call]
    exact h.dialCall p ((k.port p).inCall hp)
  callFields d hd := by
    obtain ⟨c, hc, same⟩ := k.inTable_before hd
    rw [same.state, same.paths, same.contexts, same.time]
    exact h.callFields c hc
  contextFields x := (k.context x).fields (h.contextFields x)
  contextCall x hx := by
    rw [(k.context x).state] at hx
    obtain ⟨c, hc, hcall, hm⟩ := h.contextCall x hx
    obtain ⟨d, hd, same⟩ := k.inTable_after hc
    exact ⟨d, hd, by rw [(k.context x).call, hcall, same.id], same.contexts ▸ hm⟩
  callContext d x hd hx := by
    obtain ⟨c, hc, same⟩ := k.inTable_before hd
    rw [(k.context x).call, (k.context x).state, same.id, same.state]
    exact h.callContext c x hc (same.contexts ▸ hx)
  oneWaits d hd := by
    obtain ⟨c, hc, same⟩ := k.inTable_before hd
    simp only [(k.context _).state, same.state, same.contexts]
    exact h.oneWaits c hc
  queued := by
    simp only [State.mem_queue_iff, k.queue, (k.context _).state]
    simpa only [State.mem_queue_iff] using h.queued
  running hr := by
    have empty := k.queue
    rw [h.running (k.supplier hr)] at empty
    exact List.map_eq_nil_iff.mp empty
  pathOwner d p hp := by
    rw [k.connections] at hp
    obtain ⟨c, hc, hid, hm⟩ := h.pathOwner d p hp
    obtain ⟨e, he, same⟩ := k.inTable_after hc
    exact ⟨e, he, same.id.trans hid, same.paths ▸ hm⟩
  callPath e d he hd := by
    obtain ⟨c, hc, same⟩ := k.inTable_before he
    rw [k.connections, same.id]
    exact h.callPath c d hc (same.paths ▸ hd)
  pathContext d p x hp ht := by
    rw [k.connections] at hp
    rw [(k.context x).call]
    exact h.pathContext d p x hp ht
  twoPaths x hx := by
    rw [(k.context x).state] at hx
    rw [k.connections]
    exact h.twoPaths x hx

/-! ### One record written -/

/-- An update of the directory and the ports. -/
theorem of_entries (hd : ∀ ix, t.live? ix = s.live? ix) (hp : ∀ p, (s.port p).spares (t.port p)) (hc : t.calls = s.calls)
    (hx : t.contexts = s.contexts) (hw : t.waitQueue = s.waitQueue) (hs : t.supplier = s.supplier)
    (hm : t.connections = s.connections) : s.spares t where
  port := hp
  live := hd
  call i := by simpa only [hc] using rel_refl Call.spares.refl _
  context x := by simpa only [State.context, hx] using .refl _
  queue := by rw [hw]
  supplier := by rw [hs]; exact id
  connections := hm

theorem live?_putEntry (s : State) (ix : ExtIx) (o : Option Entry) (jx : ExtIx) :
    (s.putEntry ix o).live? jx = if jx = ix then o.bind Entry.liveCall else s.live? jx := by
  rw [State.live?, State.entry_putEntry]
  split <;> rfl

theorem putEntry {ix : ExtIx} {o : Option Entry} (h : o.bind Entry.liveCall = s.live? ix) : s.spares (s.putEntry ix o) := by
  refine of_entries (fun jx => ?_) (fun p => .refl _) rfl rfl rfl rfl rfl
  rw [live?_putEntry]
  split
  case isTrue hx => rw [hx, h]
  case isFalse => rfl

/-- An entry written over one with the same live call. -/
theorem rewrite {ix : ExtIx} {e d : Entry} (he : s.entry? ix = some e) (h : d.liveCall = e.liveCall) :
    s.spares (s.putEntry ix (some d)) := putEntry (by rw [State.live?, he]; exact h)

theorem modEntry (ix : ExtIx) {f : Entry → Entry} (h : ∀ e : Entry, (f e).liveCall = e.liveCall) (s : State) :
    s.spares (s.modEntry ix f) := by
  rw [State.modEntry_eq]
  refine putEntry ?_
  rw [State.live?]
  cases s.entry? ix with
  | none => rfl
  | some e => exact h e

theorem putPort {p : Port} {r : PortRec} (h : (s.port p).spares r) : s.spares (s.putPort p r) := by
  refine of_entries (fun _ => rfl) (fun q => ?_) rfl rfl rfl rfl rfl
  rw [State.port_putPort]
  split
  case isTrue hq => exact hq ▸ h
  case isFalse => exact .refl _

theorem putLoop (l : LoopNo) (r : LoopRec) (s : State) : s.spares (s.putLoop l r) := of_eq rfl rfl rfl rfl rfl rfl rfl

theorem raise (i : Item) (s : State) : s.spares (s.raise i) := of_eq rfl rfl rfl rfl rfl rfl rfl

theorem spendNonce (s : State) : s.spares s.spendNonce := of_eq rfl rfl rfl rfl rfl rfl rfl

end State.spares

end Sys2Proof.Machine

/-!
PROOFS. The admission unit, the dial unit short of a new call, the loops, the frames and the link spare the calls (O60).
-/

namespace Sys2Proof.Machine

/-! ## Port records and entries -/

theorem PortRec.spares.of_eq {r q : PortRec} (hc : q.call = r.call) (hd : q.dial = r.dial) : r.spares q :=
  ⟨hc, hd ▸ id, fun _ => hd ▸ id⟩

theorem CallState.dials.inCallStates {k : CallState} {d : DialState} (h : k.dials d) : d.inCallStates := by
  cases k with
  | requested => exact .inl h
  | offered => exact .inr h
  | connecting | connected | held => exact .inr (.inr h)

/-- A port in no call's dial state may go to any other such state. -/
theorem PortRec.spares.of_free {r q : PortRec} (hc : q.call = r.call) (hr : ¬ r.dial.inCallStates)
    (hq : ¬ q.dial.inCallStates) : r.spares q where
  call := hc
  inCall h := absurd h hq
  dials _ h := absurd h.inCallStates hr

theorem DialState.free_iff {d : DialState} : ¬ d.inCallStates ↔ d = .idle ∨ d = .dialling ∨ d = .blocked := by
  cases d <;> simp [DialState.inCallStates]

theorem PortRec.spares.unbind (r : PortRec) : r.spares r.unbind := by
  unfold PortRec.unbind
  split
  case isTrue h => exact .of_free rfl (DialState.free_iff.mpr (.inr (.inl h))) (DialState.free_iff.mpr (.inl rfl))
  case isFalse => exact .of_eq rfl rfl

theorem PortRec.spares.erased (r : PortRec) : r.spares r.erased := by
  unfold PortRec.erased
  split
  case isTrue h => exact .of_free rfl (DialState.free_iff.mpr (.inr h)) (DialState.free_iff.mpr (.inl rfl))
  case isFalse => exact .of_eq rfl rfl

theorem PortRec.spares.gone (r : PortRec) : r.spares r.gone := by
  unfold PortRec.gone
  split
  case isTrue h => exact .of_free rfl (DialState.free_iff.mpr (.inr h)) (DialState.free_iff.mpr (.inl rfl))
  case isFalse => exact .of_eq rfl rfl

theorem Entry.revert_liveCall (e : Entry) : e.revert.liveCall = e.liveCall := (Entry.kin.revert e).live

namespace State.spares

/-! ## Offering, withdrawing, denying and abandoning (R58 to R60, R63, R67) -/

theorem loseBlock (p : Port) (q : Option QueueRec) (s : State) : s.spares (s.loseBlock p q) := by
  unfold State.loseBlock
  split
  case h_2 => exact refl s
  case h_1 =>
    unfold State.loseChallenge
    split
    case h_2 => exact refl s
    case h_1 =>
      refine modEntry _ (fun e => ?_) s
      split
      case h_2 => rfl
      case h_1 =>
        split
        case isTrue => exact e.revert_liveCall
        case isFalse => rfl

theorem offer (p : Port) (b : OutBlock) (s : State) : s.spares (s.offer p b) := by
  unfold State.offer
  split
  case h_1 => exact refl s
  case h_2 => exact (putLoop _ _ s).trans (loseBlock _ _ _)

theorem withdraw (p : Port) (n : Long) (s : State) : s.spares (s.withdraw p n) := putLoop _ _ s

theorem deny (p : Port) (r : DenyReason) (ix : Option ExtIx) (s : State) : s.spares (s.deny p r ix) := by
  unfold State.deny
  split
  case h_1 => exact refl s
  case h_2 => exact (offer _ _ s).trans (raise _ _)

/-- An entry written after an update that spares the calls, with the live call it had before. -/
theorem then_putEntry {s t : State} (k : s.spares t) {ix : ExtIx} {e d : Entry} (he : s.entry? ix = some e)
    (h : d.liveCall = e.liveCall) : s.spares (t.putEntry ix (some d)) :=
  k.trans (putEntry (by rw [k.live, State.live?, he]; exact h))

theorem abandon (ix : ExtIx) (s : State) : s.spares (s.abandon ix) := by
  unfold State.abandon
  split
  case h_2 => exact refl s
  case h_1 e he =>
    split
    case h_2 => exact refl s
    case h_1 => exact (withdraw _ _ s).then_putEntry he e.revert_liveCall

/-! ## Bindings, lapses, locks and failures (R64 to R66, R81) -/

theorem releaseBinding (ix : ExtIx) (s : State) : s.spares (s.releaseBinding ix) := by
  unfold State.releaseBinding
  split
  case h_2 => exact refl s
  case h_1 e he =>
    split
    case h_2 => exact refl s
    case h_1 => exact (rewrite (d := { e with bound := none, refresh := none, refreshDue := false, overdue := none }) he
        rfl).trans (putPort (.unbind _))

theorem lapse (ix : ExtIx) (c : LapseCause) (s : State) : s.spares (s.lapse ix c) := by
  unfold State.lapse
  split
  case h_1 => exact refl s
  case h_2 e he =>
    split
    case isTrue => exact rewrite he rfl
    case isFalse =>
      split
      case h_1 => exact refl s
      case h_2 =>
        exact (((releaseBinding _ s).trans (modEntry _ (fun _ => by rfl) _)).trans (offer _ _ _)).trans (raise _ _)

theorem lockChallenge (ix : ExtIx) (s : State) : s.spares (s.lockChallenge ix) := by
  unfold State.lockChallenge
  split
  case h_2 => exact refl s
  case h_1 e he =>
    split
    case h_2 => exact refl s
    case h_1 => exact ((withdraw _ _ s).then_putEntry (d := { e with challenge := none }) he rfl).trans (deny _ _ _ _)

theorem lockBinding (ix : ExtIx) (s : State) : s.spares (s.lockBinding ix) := by
  unfold State.lockBinding
  split
  case h_2 => exact refl s
  case h_1 =>
    split
    case h_2 => exact refl s
    case h_1 => exact (releaseBinding _ s).trans (offer _ _ _)

theorem lockEntry (ix : ExtIx) (s : State) : s.spares (s.lockEntry ix) := by
  unfold State.lockEntry
  split
  case h_2 => exact refl s
  case h_1 e he => exact (rewrite he (by rfl)).trans (raise _ _)

theorem countFailure (ix : ExtIx) (s : State) : s.spares (s.countFailure ix) := by
  unfold State.countFailure
  split
  case h_1 => exact refl s
  case h_2 e he =>
    have counted : s.spares (s.putEntry ix (some { e with failures := min 15 (e.failures + 1) })) := rewrite he rfl
    dsimp only
    split
    case isFalse => exact counted
    case isTrue => exact ((counted.trans (lockChallenge ix _)).trans (lockBinding ix _)).trans (lockEntry ix _)

/-! ## ENTER, ERASE and UNLOCK EXTENSION (R6 to R11) -/

theorem enterAbandon (ix : ExtIx) (old : Key) (s : State) : s.spares (s.enterAbandon ix old) := by
  unfold State.enterAbandon
  split
  case h_1 => exact refl s
  case h_2 =>
    split
    case h_1 => exact refl s
    case h_2 =>
      split_ifs
      · exact (abandon _ s).trans (offer _ _ _)
      · exact (abandon _ s).trans (offer _ _ _)
      · exact refl s

theorem enterLapse (ix : ExtIx) (s : State) : s.spares (s.enterLapse ix) := by
  unfold State.enterLapse
  split
  case h_1 => exact refl s
  case h_2 =>
    split
    case h_2 => exact refl s
    case h_1 =>
      split
      case isTrue => exact lapse _ _ s
      case isFalse => exact refl s

theorem enterAct (b : EnterBody) (s : State) : s.spares (enterAct b s).1 := by
  unfold Machine.enterAct
  split
  case h_1 => exact refl s
  case h_2 ix f _ =>
    split
    case isTrue => exact refl s
    case isFalse =>
      show s.spares (s.enter ix f)
      unfold State.enter
      split
      case h_1 he => exact putEntry (by rw [State.live?, he]; rfl)
      case h_2 e he =>
        exact ((rewrite (d := e.restock f) he rfl).trans (enterAbandon _ _ _)).trans (enterLapse _ _)

/-- An entry is erased while it has no live call (R10). -/
theorem eraseEntry {ix : ExtIx} {e : Entry} {s : State} (he : s.entry? ix = some e) : s.spares (eraseEntry ix e s).1 := by
  have challenge : s.spares (s.eraseChallenge ix e) := by
    unfold State.eraseChallenge
    split
    case h_1 => exact ((withdraw _ _ s).then_putEntry (d := { e with challenge := none }) he rfl).trans (offer _ _ _)
    case h_2 => exact refl s
  have binding : ∀ t : State, t.spares (t.eraseBinding e) := by
    intro t
    unfold State.eraseBinding
    split
    case h_1 => exact (putPort (.erased _)).trans (offer _ _ _)
    case h_2 => exact refl t
  unfold Machine.eraseEntry
  split
  case isTrue => exact refl s
  case isFalse hl =>
    have both := challenge.trans (binding _)
    refine both.trans (putEntry ?_)
    rw [both.live, State.live?, he]
    exact (Option.not_isSome_iff_eq_none.mp hl).symm

theorem unlock {ix : ExtIx} {e : Entry} {s : State} (he : s.entry? ix = some e) : s.spares (s.unlock ix e) :=
  (rewrite (d := e.unlocked) he rfl).trans (raise _ _)

theorem unlockEntry {ix : ExtIx} {e : Entry} {s : State} (he : s.entry? ix = some e) : s.spares (unlockEntry ix e s).1 := by
  unfold Machine.unlockEntry
  split
  case isTrue => exact unlock he
  case isFalse => exact refl s

theorem onEntry (index : Word) {act : ExtIx → Entry → State → State × Answer} {s : State}
    (h : ∀ ix e, s.entry? ix = some e → s.spares (act ix e s).1) : s.spares (s.onEntry index act).1 := by
  unfold State.onEntry
  split
  case h_1 => exact refl s
  case h_2 =>
    split
    case h_1 => exact refl s
    case h_2 he => exact h _ _ he

/-! ## Admission (R67 to R80) -/

theorem issueChallenge (p : Port) (x : ExtIx) (s : State) : s.spares (s.issueChallenge p x) := by
  unfold State.issueChallenge
  split
  case h_1 => exact refl s
  case h_2 e he =>
    dsimp only
    cases e.challenge with
    | none => exact ((spendNonce s).then_putEntry he (by rfl)).trans (offer _ _ _)
    | some c => exact (((withdraw _ _ s).trans (spendNonce _)).then_putEntry he (by rfl)).trans (offer _ _ _)

theorem registerEntry (p : Port) (x : ExtIx) (s : State) : s.spares (s.registerEntry p x) := by
  unfold State.registerEntry
  split
  case h_1 => exact refl s
  case h_2 e he =>
    split
    case h_1 =>
      split
      case isTrue =>
        unfold State.registerAgain
        split
        case isTrue => exact deny _ _ _ s
        case isFalse =>
          exact ((releaseBinding _ s).trans (modEntry _ (fun _ => by rfl) _)).trans (issueChallenge _ _ _)
      case isFalse =>
        unfold State.registerMove
        split
        case isTrue => exact deny _ _ _ s
        case isFalse => exact (rewrite (d := { e with state := .moving }) he rfl).trans (issueChallenge _ _ _)
    case h_2 =>
      unfold State.registerChallenge
      split
      case h_1 => exact refl s
      case h_2 =>
        split
        case isTrue => exact deny _ _ _ s
        case isFalse => exact issueChallenge _ _ s

theorem registerAt (p : Port) (x : ExtIx) (s : State) : s.spares (s.registerAt p x) := by
  unfold State.registerAt
  split
  case h_2 => exact registerEntry p x s
  case h_1 =>
    split_ifs
    · exact registerEntry p x s
    · exact deny _ _ _ s
    · exact (((releaseBinding _ s).trans (modEntry _ (fun _ => by rfl) _)).trans (raise _ _)).trans (registerEntry p x _)

theorem registerCases (p : Port) (x : Option ExtIx) (s : State) : s.spares (s.registerCases p x) := by
  unfold State.registerCases
  split
  case h_1 => exact deny _ _ _ s
  case h_2 =>
    split
    case h_1 => exact refl s
    case h_2 =>
      split_ifs
      · exact deny _ _ _ s
      · exact (deny _ _ _ s).trans (countFailure _ _)
      · exact registerAt _ _ s

theorem registerBlock (p : Port) (number : List Digit) (s : State) : s.spares (s.registerBlock p number) := by
  have clear : s.spares (s.clearWay p (s.findNumber number)) := by
    unfold State.clearWay
    split
    case h_2 => exact refl s
    case h_1 =>
      split
      case isTrue => exact refl s
      case isFalse => exact abandon _ s
  exact clear.trans (registerCases _ _ _)

theorem bind (p : Port) (x : ExtIx) (s : State) : s.spares (s.bind p x) := by
  unfold State.bind
  split
  case h_1 => exact refl s
  case h_2 e he => exact ((rewrite he (by rfl)).trans (putPort (by exact .of_eq rfl rfl))).trans (offer _ _ _)

theorem matchingAnswer {p : Port} {x : ExtIx} {e : Entry} {s : State} (he : s.entry? x = some e) :
    s.spares (s.matchingAnswer p x e) := by
  have answered : s.spares (s.putEntry x (some e.answered)) := rewrite he rfl
  unfold State.matchingAnswer
  dsimp only
  split
  case h_1 =>
    exact ((((answered.trans (releaseBinding _ _)).trans (offer _ _ _)).trans (bind _ _ _)).trans (raise _ _)).trans
      (raise _ _)
  case h_2 => exact (answered.trans (bind _ _ _)).trans (raise _ _)

theorem mismatch {p : Port} {reason : DenyReason} {x : ExtIx} {e : Entry} {s : State} (he : s.entry? x = some e) :
    s.spares (s.mismatch p reason x e) :=
  (((rewrite (d := { e with challenge := none }) he rfl).trans (deny _ _ _ _)).trans
    (modEntry _ Entry.revert_liveCall _)).trans (countFailure _ _)

theorem answerBlock (p : Port) (response : Long) (s : State) : s.spares (s.answerBlock p response) := by
  unfold State.answerBlock
  split
  case h_1 => exact deny _ _ _ s
  case h_2 =>
    split
    case h_1 => exact refl s
    case h_2 he =>
      split
      case h_1 => exact refl s
      case h_2 =>
        split_ifs
        · exact deny _ _ _ s
        · exact matchingAnswer he
        · exact mismatch he

theorem answerExpiry (x : ExtIx) (s : State) : s.spares (s.answerExpiry x) := by
  unfold State.answerExpiry
  split
  case h_1 => exact refl s
  case h_2 he =>
    split
    case h_1 => exact refl s
    case h_2 =>
      split
      case isTrue => exact mismatch he
      case isFalse => exact refl s

theorem checkInBlock (p : Port) (s : State) : s.spares (s.checkInBlock p) := by
  unfold State.checkInBlock
  split
  case h_1 => exact deny _ _ _ s
  case h_2 =>
    split
    case h_1 => exact deny _ _ _ s
    case h_2 he =>
      split
      case isTrue => exact rewrite he (by rfl)
      case isFalse => exact deny _ _ _ s

theorem refreshEnd (x : ExtIx) (s : State) : s.spares (s.refreshEnd x) := by
  unfold State.refreshEnd
  split
  case h_1 => exact refl s
  case h_2 he =>
    split
    case isTrue => exact (rewrite he (by rfl)).trans (lapse _ _ _)
    case isFalse => exact refl s

theorem lockEnd (x : ExtIx) (s : State) : s.spares (s.lockEnd x) := by
  unfold State.lockEnd
  split
  case h_1 => exact refl s
  case h_2 he =>
    split
    case isTrue => exact unlock he
    case isFalse => exact refl s

/-! ## Hooks and attempts that end (R85 to R90, R99, R101) -/

theorem offHookBlock (p : Port) (s : State) : s.spares (s.offHookBlock p) := by
  have off : s.spares (s.putPort p { s.port p with hook := .off }) := putPort (.of_eq rfl rfl)
  unfold State.offHookBlock
  dsimp only
  split
  case h_1 idle =>
    refine off.trans ?_
    unfold State.startDialling
    split
    case h_1 => exact deny _ _ _ _
    case h_2 =>
      split
      case h_1 =>
        refine putPort (.of_free rfl (DialState.free_iff.mpr (.inl ?_)) (DialState.free_iff.mpr (.inr (.inl rfl))))
        simp [idle]
      case h_2 => exact deny _ _ _ _
      case h_3 => exact deny _ _ _ _
  case h_2 alerted =>
    have answers : ∀ r : PortRec, r.dial = .alerted → r.spares { r with dial := .inCall } := by
      refine fun r hr => ⟨rfl, fun _ => .inr (.inl hr), fun k h => ?_⟩
      rw [hr] at h
      cases k <;> simp [CallState.dials] at h ⊢
    have answer : (s.putPort p { s.port p with hook := .off }).spares ((s.putPort p { s.port p with hook := .off }).putPort p
        { (s.putPort p { s.port p with hook := .off }).port p with dial := .inCall }) :=
      putPort (answers _ (by simp [alerted]))
    refine off.trans ?_
    unfold State.answerCall
    dsimp only
    split
    case h_1 => exact answer.trans (raise _ _)
    case h_2 => exact answer
  all_goals exact off

theorem hangUp (p : Port) (s : State) : s.spares (s.hangUp p) := by
  unfold State.hangUp
  split
  case h_1 => exact raise _ s
  case h_2 => exact refl s

theorem onHookBlock (p : Port) (s : State) : s.spares (s.onHookBlock p) := by
  have on : s.spares (s.putPort p { s.port p with hook := .on }) := putPort (.of_eq rfl rfl)
  unfold State.onHookBlock
  dsimp only
  split
  case h_1 dialling =>
    exact putPort (.of_free rfl (DialState.free_iff.mpr (.inr (.inl dialling))) (DialState.free_iff.mpr (.inl rfl)))
  case h_2 blocked =>
    exact putPort (.of_free rfl (DialState.free_iff.mpr (.inr (.inr blocked))) (DialState.free_iff.mpr (.inl rfl)))
  case h_3 => exact on.trans (hangUp _ _)
  case h_4 => exact on.trans (hangUp _ _)
  case h_5 => exact on
  case h_6 => exact on

/-- An attempt that ends BLOCKED with a notice (R90, R99, R101). -/
theorem blockDialling {p : Port} {s : State} (hp : (s.port p).dial = .dialling) (reason : NoticeReason) :
    s.spares ((s.offer p (.notice reason)).putPort p ((s.port p).ended .blocked)) := by
  refine (offer p _ s).trans (putPort ?_)
  rw [State.offer_port]
  exact .of_free rfl (DialState.free_iff.mpr (.inr (.inl hp))) (DialState.free_iff.mpr (.inr (.inr rfl)))

end State.spares

end Sys2Proof.Machine

/-!
PROOFS. The loops, the frames, the link and the requests on tables and keys spare the calls (O60).
-/

namespace Sys2Proof.Machine

theorem Call.spares.tick (c : Call) : c.spares c.tick := by
  unfold Call.tick
  split
  case isTrue => exact ⟨rfl, rfl, rfl, rfl, rfl, rfl, Option.isSome_map⟩
  case isFalse => exact .refl c

/-- A context whose sides have run or rested stays as it is otherwise. -/
theorem Context.spares.sides {x y : Context} (h : x.state = .active ∨ x.state = .held) (hs : y.state = x.state)
    (hc : y.call = x.call) (hg : y.config = x.config) (hk : y.keySource = x.keySource) (ht : y.tx.isSome = x.tx.isSome)
    (hr : y.rx.isSome = x.rx.isSome) : x.spares y where
  state := hs
  call := hc
  fields w := by
    refine ⟨fun hf => ?_, fun hn => hg ▸ w.config (hs ▸ hn), fun hw => ?_, fun _ => ?_⟩
    · rw [hs] at hf
      simp [hf] at h
    · rw [hs] at hw
      simp [hw] at h
    · rw [hk, ht, hr]
      exact w.keyed h

theorem Context.spares.resume (x : Context) : x.spares x.resume := by
  unfold Context.resume
  split
  case isTrue h => exact .sides h rfl rfl rfl rfl Option.isSome_map Option.isSome_map
  case isFalse => exact .refl x

theorem Context.spares.stepContext (s : State) (inputs : Table Byte 192) (c : CtxId) (x : Context) :
    x.spares (s.stepContext inputs c x).context := by
  unfold State.stepContext
  split
  case isFalse => exact .refl x
  case isTrue h =>
    split
    case h_2 => exact .refl x
    case h_1 ht hr _ _ => exact .sides h rfl rfl rfl rfl (by rw [ht]; rfl) (by rw [hr]; rfl)

namespace State.spares

variable {s t : State}

/-! ## Loops (R40 to R55) -/

theorem dropChallengeAt (p : Port) (s : State) : s.spares (s.dropChallengeAt p) := by
  unfold State.dropChallengeAt
  split
  case h_1 => exact modEntry _ Entry.revert_liveCall s
  case h_2 => exact refl s

theorem lapseAt (p : Port) (s : State) : s.spares (s.lapseAt p) := by
  unfold State.lapseAt
  split
  case h_1 => exact lapse _ _ s
  case h_2 => exact refl s

theorem goAbsent (p : Port) (s : State) : s.spares (s.goAbsent p) := by
  have absent : s.spares (s.putPort p { s.port p with presence := .absent }) := putPort (.of_eq rfl rfl)
  have procedure : ∀ t : State, t.spares (t.absenceProcedure p) := fun t =>
    (((putLoop _ _ t).trans (dropChallengeAt p _)).trans (putPort (.gone _))).trans (lapseAt p _)
  exact (absent.trans (raise _ _)).trans (procedure _)

theorem ensureAbsent (p : Port) (s : State) : s.spares (s.ensureAbsent p) := by
  unfold State.ensureAbsent
  split
  case h_1 => exact goAbsent p s
  case h_2 => exact refl s

theorem clearMiss (p : Port) (s : State) : s.spares (s.clearMiss p) := putPort (.of_eq rfl rfl)

theorem setLoop (l : LoopNo) (enable : Bool) (poll : Table Bool 32) (s : State) : s.spares (s.setLoop l enable poll) := by
  have remove : ∀ (t : State) st, t.spares (t.removeStation (portOf l st)) := fun t st =>
    ((ensureAbsent _ t).trans (putLoop _ _ _)).trans (clearMiss _ _)
  unfold State.setLoop
  split
  case h_1 => exact (putLoop l _ s).trans (foldl remove _ _)
  case h_2 =>
    exact ((putLoop l _ s).trans (foldl (fun t st => ensureAbsent (portOf l st) t) _ _)).trans
      (foldl (fun t st => clearMiss (portOf l st) t) _ _)
  case h_3 => exact putLoop l _ s
  case h_4 => exact putLoop l _ s

theorem setLoopAct (b : LoopBody) (s : State) : s.spares (setLoopAct b s).1 := by
  unfold Machine.setLoopAct
  split
  case h_1 => exact setLoop _ _ _ s
  case h_2 => exact refl s

theorem startAnswerTimer (p : Port) (n : Long) (s : State) : s.spares (s.startAnswerTimer p n) := by
  unfold State.startAnswerTimer
  split
  case h_1 => exact refl s
  case h_2 =>
    split
    case h_1 => exact refl s
    case h_2 he =>
      split
      case h_1 => exact refl s
      case h_2 =>
        split
        case isFalse => exact refl s
        case isTrue => exact rewrite he (by rfl)

theorem blockSent (l : LoopNo) (s : State) : s.spares (s.blockSent l) := by
  unfold State.blockSent State.noteSent
  split
  case h_2 => exact refl s
  case h_1 =>
    split
    case isFalse => exact refl s
    case isTrue =>
      split
      case h_1 => exact (putLoop _ _ s).trans (startAnswerTimer _ _ _)
      case h_2 => exact putLoop _ _ s

theorem miss (p : Port) (s : State) : s.spares (s.miss p) := by
  have counted : s.spares (s.putPort p { s.port p with miss := min 32 ((s.port p).miss + 1) }) := putPort (.of_eq rfl rfl)
  unfold State.miss
  dsimp only
  split
  case h_2 => exact counted
  case h_1 =>
    split
    case isFalse => exact counted
    case isTrue => exact counted.trans (goAbsent p _)

theorem windowTimeout (l : LoopNo) (s : State) : s.spares (s.windowTimeout l) := by
  unfold State.windowTimeout
  split
  case h_1 => exact (putLoop l _ s).trans (miss _ _)
  case h_2 => exact refl s

theorem stationReply (l : LoopNo) (chars : List LoopChar) (s : State) : s.spares (s.stationReply l chars) := by
  have present : ∀ (t : State) p, t.spares (t.present p) := by
    intro t p
    unfold State.present
    dsimp only
    split
    case h_1 => exact putPort (by exact .of_eq rfl rfl)
    case h_2 => exact (putPort (by exact .of_eq rfl rfl)).trans (raise _ _)
  have hand : ∀ (t : State) p b, t.spares (t.handOn p b) := by
    intro t p b
    unfold State.handOn
    split
    case h_2 => exact refl t
    case h_1 =>
      split
      case h_1 => exact of_eq rfl rfl rfl rfl rfl rfl rfl
      case h_2 => exact refl t
  unfold State.stationReply
  split
  case h_2 => exact refl s
  case h_1 =>
    dsimp only
    split
    case h_1 => exact ((putLoop l _ s).trans (present _ _)).trans (hand _ _ _)
    case h_2 => exact (putLoop l _ s).trans (miss _ _)

/-- Every entry changed by one function that leaves its live call. -/
theorem mapEntries {f : Entry → Entry} (hf : ∀ e : Entry, (f e).liveCall = e.liveCall)
    (hd : t.directory = s.directory.map (Option.map f)) (hp : t.ports = s.ports) (hc : t.calls = s.calls)
    (hx : t.contexts = s.contexts) (hw : t.waitQueue = s.waitQueue) (hs : t.supplier = s.supplier)
    (hm : t.connections = s.connections) : s.spares t := by
  refine of_entries (fun ix => ?_) (fun p => ?_) hc hx hw hs hm
  · simp only [State.live?, State.entry?, hd, Table.get_map]
    cases s.directory.get ix with
    | none => rfl
    | some e => exact hf e
  · simpa only [State.port, hp] using .refl _

theorem loopBreak (l : LoopNo) (s : State) : s.spares (s.loopBreak l) := by
  have abandon : ∀ t : State, t.spares (t.abandonLoop l) := by
    refine fun t => mapEntries (f := fun e => if e.challengedOn l then e.revert else e) (fun e => ?_) rfl rfl rfl rfl rfl
      rfl rfl
    split
    case isTrue => exact e.revert_liveCall
    case isFalse => rfl
  unfold State.loopBreak
  dsimp only
  split
  case h_1 => exact ((putLoop l _ s).trans (raise _ _)).trans (abandon _)
  case h_2 => exact refl s
  case h_3 => exact refl s

theorem loopRestore (l : LoopNo) (s : State) : s.spares (s.loopRestore l) := by
  unfold State.loopRestore
  dsimp only
  split
  case h_1 => exact (putLoop l _ s).trans (raise _ _)
  case h_2 => exact refl s
  case h_3 => exact refl s

/-! ## Frames and ticks (spec/06) -/

/-- A tick counts, and moves nothing (R107). -/
theorem millisecond (s : State) : s.spares s.millisecond where
  port p := by
    simp only [State.port, State.millisecond, Table.get_map]
    exact .of_eq rfl rfl
  live ix := by
    simp only [State.live?, State.entry?, State.millisecond, Table.get_map]
    cases s.directory.get ix <;> rfl
  call i := by
    simp only [State.millisecond, Table.get_map]
    exact rel_map Call.spares.tick _
  context x := .refl _
  queue := by
    simp only [State.millisecond, List.map_map]
    rfl
  supplier := id
  connections := rfl

theorem tick (s : State) : s.spares s.tick := by
  have second : ∀ e : Entry, e.second.liveCall = e.liveCall := fun e => (Entry.kin.second e).live
  unfold State.tick
  dsimp only
  split
  case isTrue => exact (millisecond s).trans (mapEntries second rfl rfl rfl rfl rfl rfl rfl)
  case isFalse => exact (millisecond s).trans (of_eq rfl rfl rfl rfl rfl rfl rfl)

theorem beginFrame (s : State) : s.spares s.beginFrame := by
  unfold State.beginFrame
  dsimp only
  split
  case isTrue =>
    have begun : s.spares { s with
        handling := s.handling.map HeldReply.seen, timeBase := { s.timeBase with tickDivider := 0 } } :=
      of_eq rfl rfl rfl rfl rfl rfl rfl
    exact begun.trans (tick _)
  case isFalse => exact of_eq rfl rfl rfl rfl rfl rfl rfl

/-- An update of the contexts, and of nothing else of the calls. -/
theorem of_contexts (hd : t.directory = s.directory) (hp : t.ports = s.ports) (hc : t.calls = s.calls)
    (hx : ∀ x, (s.context x).spares (t.context x)) (hw : t.waitQueue = s.waitQueue) (hs : t.supplier = s.supplier)
    (hm : t.connections = s.connections) : s.spares t where
  port p := by simpa only [State.port, hp] using .refl _
  live ix := by simp only [State.live?, State.entry?, hd]
  call i := by simpa only [hc] using rel_refl Call.spares.refl _
  context := hx
  queue := by rw [hw]
  supplier := by rw [hs]; exact id
  connections := hm

theorem serveFrame (inputs : Table Byte 192) (s : State) : s.spares (s.serveFrame inputs) := by
  have sides : s.spares { s with
      contexts := (s.frameSteps inputs).map CtxFrame.context
      outputs := Table.tabulate (fun d => some (s.slotOctet inputs (s.frameSteps inputs) d)) } := by
    refine of_contexts rfl rfl rfl (fun x => ?_) rfl rfl rfl
    simp only [State.context, State.frameSteps, Table.get_map, Table.get_imap]
    exact .stepContext s inputs x _
  exact sides.trans (foldl (fun s i => raise i s) _ _)

theorem highwayFrame (inputs : Table Byte 192) (s : State) : s.spares (s.highwayFrame inputs) :=
  (beginFrame s).trans (serveFrame inputs _)

theorem unservedFrame (s : State) : s.spares s.unservedFrame := by
  have idle : s.spares { s with outputs := Table.replicate 192 none } := of_eq rfl rfl rfl rfl rfl rfl rfl
  exact idle.trans (beginFrame _)

/-- The time base written. -/
theorem timeBase (b : TimeBase) (s : State) : s.spares { s with timeBase := b } := of_eq rfl rfl rfl rfl rfl rfl rfl

theorem acceptPulse (sinceFrame : Nat) (inputs : Table Byte 192) (s : State) : s.spares (s.acceptPulse sinceFrame inputs) := by
  unfold State.acceptPulse
  split
  case isFalse => exact refl s
  case isTrue => exact (timeBase _ s).trans (highwayFrame inputs _)

theorem restorePulse (sincePulse : Option Nat) (inputs : Table Byte 192) (s : State) :
    s.spares (s.restorePulse sincePulse inputs) := by
  unfold State.restorePulse
  dsimp only
  split
  case isFalse => exact timeBase _ s
  case isTrue =>
    have resumed : s.spares { s with
        timeBase := { s.timeBase with source := .highway, missCount := 0, restoreCount := 0 }
        contexts := s.contexts.map Context.resume } := by
      refine of_contexts rfl rfl rfl (fun x => ?_) rfl rfl rfl
      simp only [State.context, Table.get_map]
      exact .resume _
    exact (resumed.trans (raise _ _)).trans (highwayFrame inputs _)

theorem missPulse (inputs : Table Byte 192) (s : State) : s.spares (s.missPulse inputs) := by
  unfold State.missPulse
  split
  case isTrue => exact (timeBase _ s).trans (highwayFrame inputs _)
  case isFalse => exact ((timeBase _ s).trans (raise _ _)).trans (unservedFrame _)

/-! ## The link (R190 to R193) -/

theorem dropFrame (k : LinkErrorKind) (s : State) : s.spares (s.dropFrame k) := of_eq rfl rfl rfl rfl rfl rfl rfl

theorem receiveOctet (s : State) (o : Byte) : s.spares (s.receiveOctet o) := by
  have assembling : ∀ os, s.spares { s with assembling := os } := fun os => of_eq rfl rfl rfl rfl rfl rfl rfl
  have hold : ∀ (t : State) f, t.spares (t.hold f) := by
    intro t f
    unfold State.hold
    split_ifs
    · exact raise _ t
    · exact of_eq rfl rfl rfl rfl rfl rfl rfl
    · exact raise _ t
  unfold State.receiveOctet
  dsimp only
  split_ifs
  · exact assembling _
  · exact refl s
  · exact dropFrame _ s
  · unfold State.completeFrame
    split
    · exact (assembling []).trans (hold _ _)
    · exact dropFrame _ s
  · exact assembling _

theorem lineError (k : LinkErrorKind) (s : State) : s.spares (s.lineError k) := by
  unfold State.lineError
  split
  · exact refl s
  · exact dropFrame k s

theorem release (r : Reply) (s : State) : s.spares (s.release r) := of_eq rfl rfl rfl rfl rfl rfl rfl

theorem respond (f : Frame) (a : Answer) (s : State) : s.spares (s.respond f a) := by
  unfold State.respond
  dsimp only
  split
  · exact of_eq rfl rfl rfl rfl rfl rfl rfl
  · exact release _ s

theorem admitFrame (f : Frame) (s : State) : s.spares (s.admitFrame f) := of_eq rfl rfl rfl rfl rfl rfl rfl

/-! ## Requests on tables, keys and settings -/

theorem setClassAct (b : ClassBody) (s : State) : s.spares (setClassAct b s).1 := by
  unfold Machine.setClassAct
  split
  case h_1 => exact refl s
  case h_2 => exact of_eq rfl rfl rfl rfl rfl rfl rfl

theorem readClassAct (cls : Byte) (s : State) : s.spares (readClassAct cls s).1 := by
  unfold Machine.readClassAct
  split <;> exact refl s

theorem setScreenAct (b : ScreenBody) (s : State) : s.spares (setScreenAct b s).1 := by
  unfold Machine.setScreenAct
  split
  case h_1 => exact refl s
  case h_2 => exact of_eq rfl rfl rfl rfl rfl rfl rfl

theorem readScreenAct (screen : Byte) (s : State) : s.spares (readScreenAct screen s).1 := by
  unfold Machine.readScreenAct
  split <;> exact refl s

theorem sendToStationAct (port : Byte) (body : List Byte) (s : State) : s.spares (sendToStationAct port body s).1 := by
  unfold Machine.sendToStationAct
  dsimp only
  split_ifs
  · exact refl s
  · exact refl s
  · exact refl s
  · exact refl s
  · exact putLoop _ _ s

theorem setInterceptAct (member : Bool) (first last : Byte) (s : State) :
    s.spares (setInterceptAct member first last s).1 := by
  unfold Machine.setInterceptAct
  split_ifs
  · exact refl s
  · exact refl s
  · exact of_eq rfl rfl rfl rfl rfl rfl rfl

theorem depositKeysAct (b : DepositBody) (s : State) : s.spares (depositKeysAct b s).1 := by
  unfold Machine.depositKeysAct
  split_ifs
  · exact refl s
  · exact refl s
  · exact of_eq rfl rfl rfl rfl rfl rfl rfl

theorem holdKeyAct (slot : Byte) (key : Key) (s : State) : s.spares (holdKeyAct slot key s).1 := by
  unfold Machine.holdKeyAct
  split
  case h_1 => exact refl s
  case h_2 => exact of_eq rfl rfl rfl rfl rfl rfl rfl

theorem dropKeyAct (slot : Byte) (s : State) : s.spares (dropKeyAct slot s).1 := by
  unfold Machine.dropKeyAct
  split
  case h_1 => exact refl s
  case h_2 => exact of_eq rfl rfl rfl rfl rfl rfl rfl

theorem readContextAct (context : Byte) (s : State) : s.spares (readContextAct context s).1 := by
  unfold Machine.readContextAct
  split <;> exact refl s

theorem setDeviceAct (body : List Byte) (s : State) : s.spares (setDeviceAct body s).1 := by
  unfold Machine.setDeviceAct
  split
  case h_1 => exact refl s
  case h_2 => exact of_eq rfl rfl rfl rfl rfl rfl rfl

end State.spares

/-! ## Requests and blocks taken -/

/-- A request whose meaning keeps the agreement keeps it, taken or not (R193). -/
theorem State.callsWired.serve {s : State} (hw : s.wired) (h : s.callsWired) (i : Instr) {act : State → State × Answer}
    (ha : ∀ t : State, t.wired → t.callsWired → (act t).1.callsWired) : (s.serve i act).callsWired := by
  unfold State.serve
  split
  case h_2 => exact h
  case h_1 f _ =>
    unfold State.request
    split
    case isFalse => exact h
    case isTrue =>
      have wired : (s.admitFrame f).wired := State.kin.wired (s := s) (.of_eq rfl rfl rfl) hw
      exact (State.spares.respond f _ _).callsWired (ha _ wired ((State.spares.admitFrame f s).callsWired h))

/-- A block taken by its unit, which keeps the agreement (R49). -/
theorem State.callsWired.takeBlock {s : State} (hw : s.wired) (h : s.callsWired) (p : Port) (b : StationBlock)
    {act : State → State} (ha : ∀ t : State, t.wired → t.callsWired → (act t).callsWired) :
    (s.takeBlock p b act).callsWired := by
  have present : ∀ t : State, t.wired → t.callsWired → (t.atPresent p act).callsWired := by
    intro t hw ht
    unfold State.atPresent
    split
    case h_1 => exact ha t hw ht
    case h_2 => exact ht
  unfold State.takeBlock
  split
  case h_1 => exact present s hw h
  case h_2 =>
    split
    case isFalse => exact h
    case isTrue =>
      exact present _ (State.kin.wired (s := s) (.of_eq rfl rfl rfl) hw)
        (State.spares.callsWired (s := s) (.of_eq rfl rfl rfl rfl rfl rfl rfl) h)

end Sys2Proof.Machine

/-!
PROOFS. A call created leaves ports, calls, contexts and connection memory in agreement (O60; R100, R119, R122).
-/

namespace Sys2Proof.Machine

section Facts

variable {s : State}

theorem State.live?_entry {ix : ExtIx} {e : Entry} (he : s.entry? ix = some e) : s.live? ix = e.liveCall := by
  rw [State.live?, he]
  rfl

theorem State.live?_some {ix : ExtIx} {id : CallId} (h : s.live? ix = some id) :
    ∃ e, s.entry? ix = some e ∧ e.liveCall = some id := Option.bind_eq_some_iff.mp h

/-- A port outside a call's dial states has no call. -/
theorem State.callsWired.call_none (h : s.callsWired) {p : Port} (hp : ¬ (s.port p).dial.inCallStates) :
    (s.port p).call = none := by
  by_contra hc
  obtain ⟨id, hid⟩ := Option.ne_none_iff_exists'.mp hc
  obtain ⟨c, ht, -, rfl⟩ := h.portCall p id hid
  exact hp (h.callPort c ht).2.inCallStates

end Facts

/-- A call may be created in a free entry for a port and an extension without one. -/
theorem State.callsWired.create {s : State} (h : s.callsWired) {slot : Fin 128} {c : Call} {e : Entry} {r : PortRec}
    (free : s.calls.get slot = none) (he : s.entry? c.ext = some e) (hp : (s.port c.port).call = none)
    (hs : c.state = .requested ∨ c.state = .offered) (hpaths : c.paths = []) (hcontexts : c.contexts = [])
    (ht : c.connectedTime = none) (hr : r.call = some c.id) (hd : c.state.dials r.dial) :
    ((s.createCall slot c).putPort c.port r).callsWired := by
  have entries := State.entry_createCall_putPort he slot r
  have ports := s.port_createCall_putPort slot c r
  have calls : ∀ i, ((s.createCall slot c).putPort c.port r).calls.get i =
      if i = slot then some c else s.calls.get i := fun i => Table.get_set _ _ _ _
  have contexts : ∀ x, ((s.createCall slot c).putPort c.port r).context x = s.context x := fun _ => rfl
  have queue : ((s.createCall slot c).putPort c.port r).waitQueue = s.waitQueue := rfl
  have supplier : ((s.createCall slot c).putPort c.port r).supplier = s.supplier := rfl
  have connections : ((s.createCall slot c).putPort c.port r).connections = s.connections := rfl
  generalize (s.createCall slot c).putPort c.port r = t at entries ports calls contexts queue supplier connections
  have created : t.inTable c := ⟨slot, by rw [calls, if_pos rfl]⟩
  have after : ∀ {k}, s.inTable k → t.inTable k := by
    rintro k ⟨i, hk⟩
    refine ⟨i, ?_⟩
    rw [calls, if_neg ?_, hk]
    rintro rfl
    exact nomatch free.symm.trans hk
  have before : ∀ {k}, t.inTable k → k = c ∨ s.inTable k := by
    rintro k ⟨i, hk⟩
    rw [calls] at hk
    split at hk
    case isTrue => exact .inl (Option.some.inj hk).symm
    case isFalse => exact .inr ⟨i, hk⟩
  constructor
  case portCall =>
    intro p id hid
    rw [ports] at hid
    split at hid
    case isTrue hpc => exact ⟨c, created, Option.some.inj (hr.symm.trans hid), hpc.symm⟩
    case isFalse =>
      obtain ⟨k, hk, same⟩ := h.portCall p id hid
      exact ⟨k, after hk, same⟩
  case callPort =>
    intro k hk
    rw [ports]
    rcases before hk with rfl | hk
    · rw [if_pos rfl]
      exact ⟨hr, hd⟩
    · have other : k.port ≠ c.port := fun hkc => by simpa [hkc, hp] using (h.callPort k hk).1
      rw [if_neg other]
      exact h.callPort k hk
  case liveCall =>
    intro ix f id hf hl
    rw [entries] at hf
    split at hf
    case isTrue hx =>
      cases hf
      exact ⟨c, created, Option.some.inj hl, hx.symm⟩
    case isFalse =>
      obtain ⟨k, hk, same⟩ := h.liveCall ix f id hf hl
      exact ⟨k, after hk, same⟩
  case dialCall =>
    intro p hdial
    rw [ports] at hdial ⊢
    split at hdial
    case isTrue hpc => simp [hpc, hr]
    case isFalse hpc =>
      rw [if_neg hpc]
      exact h.dialCall p hdial
  case callFields =>
    intro k hk
    rcases before hk with rfl | hk
    · rcases hs with hs | hs <;> simp [hs, hpaths, hcontexts, ht]
    · exact h.callFields k hk
  case contextFields => exact fun x => contexts x ▸ h.contextFields x
  case contextCall =>
    intro x hx
    rw [contexts] at hx ⊢
    obtain ⟨k, hk, same⟩ := h.contextCall x hx
    exact ⟨k, after hk, same⟩
  case callContext =>
    intro k x hk hx
    rw [contexts]
    rcases before hk with rfl | hk
    · rw [hcontexts] at hx
      cases hx
    · exact h.callContext k x hk hx
  case oneWaits =>
    intro k hk
    simp only [contexts]
    rcases before hk with rfl | hk
    · rcases hs with hs | hs <;> simp [hs, hcontexts]
    · exact h.oneWaits k hk
  case queued => simpa only [contexts, queue] using h.queued
  case running => simpa only [supplier, queue] using h.running
  case pathOwner =>
    intro d p hdp
    obtain ⟨k, hk, same⟩ := h.pathOwner d p (connections ▸ hdp)
    exact ⟨k, after hk, same⟩
  case callPath =>
    intro k d hk hkd
    rcases before hk with rfl | hk
    · rw [hpaths] at hkd
      cases hkd
    · exact connections.symm ▸ h.callPath k d hk hkd
  case pathContext =>
    intro d p x hdp
    rw [contexts]
    exact h.pathContext d p x (connections ▸ hdp)
  case twoPaths =>
    intro x
    rw [contexts, connections]
    exact h.twoPaths x

/-! ## Dialling (R89, R90, R95 to R101) -/

section Dial

variable {s : State} {p : Port}

theorem State.callsWired.requestCall (h : s.callsWired) {ix : ExtIx} {e : Entry}
    (hp : (s.port p).dial = .dialling) (he : s.entry? ix = some e) (v : Verdict) (deciding : Option ScreenNo)
    (ds : List Digit) : (s.requestCall p ix v deciding ds).callsWired := by
  have free : ¬ (s.port p).dial.inCallStates := DialState.free_iff.mpr (.inr (.inl hp))
  unfold State.requestCall
  split
  case h_1 => exact ((State.spares.blockDialling hp _).trans (.raise _ _)).callsWired h
  case h_2 slot hslot =>
    refine (State.spares.raise _ _).callsWired (h.create (c := .fresh s.freshId .requested .station p ix ds v)
      (Option.isNone_iff_eq_none.mp (Table.find?_passes hslot)) he (h.call_none free) (.inl rfl) rfl rfl rfl ?_ rfl)
    exact congrArg PortRec.call (State.port_putPort_self _ _ _)

theorem State.callsWired.evaluate (hw : s.wired) (h : s.callsWired) (hp : (s.port p).dial = .dialling) (ds : List Digit) :
    (s.evaluate p ds).callsWired := by
  obtain ⟨ix, e, hb, he, -⟩ := hw.of_dialling hp
  rw [State.evaluate_eq hb he]
  split
  case isTrue => exact ((State.spares.blockDialling hp _).trans (.raise _ _)).callsWired h
  case isFalse => exact h.requestCall hp he _ _ _

theorem State.callsWired.digitsBlock (hw : s.wired) (h : s.callsWired) (p : Port) (endFlag : Bool) (codes : List Digit) :
    (s.digitsBlock p endFlag codes).callsWired := by
  unfold State.digitsBlock
  dsimp only
  split
  case isFalse => exact h
  case isTrue hp =>
    have kin : s.kin (s.putPort p { s.port p with
        buffer := collect (s.port p).buffer codes, interdigit := some s.interdigitLimit }) := .putPort ⟨rfl, id, id⟩
    have collected : (s.putPort p { s.port p with
        buffer := collect (s.port p).buffer codes, interdigit := some s.interdigitLimit }).callsWired :=
      State.spares.callsWired (s := s) (.putPort (by exact .of_eq rfl rfl)) h
    split
    case isTrue => exact collected.evaluate (kin.wired hw) (by simpa using hp) _
    case isFalse => exact collected

theorem State.callsWired.interdigitEnd (hw : s.wired) (h : s.callsWired) (p : Port) : (s.interdigitEnd p).callsWired := by
  unfold State.interdigitEnd
  dsimp only
  split
  case isFalse => exact h
  case isTrue hp =>
    split
    case isTrue => exact (State.spares.blockDialling hp.1 _).callsWired h
    case isFalse =>
      have kin : s.kin (s.putPort p { s.port p with interdigit := none }) := .putPort ⟨rfl, id, id⟩
      have stopped : (s.putPort p { s.port p with interdigit := none }).callsWired :=
        State.spares.callsWired (s := s) (.putPort (by exact .of_eq rfl rfl)) h
      exact stopped.evaluate (kin.wired hw) (by simpa using hp.1) _

end Dial

/-! ## OPEN CALL (R121, R122) -/

theorem State.callsWired.openTo {s : State} (h : s.callsWired) (ix : ExtIx) (v : Verdict) :
    (s.openTo ix v).1.callsWired := by
  unfold State.openTo
  split
  case h_1 => exact h
  case h_2 e he =>
    split
    case isTrue => exact h
    case isFalse =>
      split
      case h_2 => exact h
      case h_1 q _ _ =>
        split
        case isTrue => exact h
        case isFalse hq =>
          have idle : (s.port q).dial = .idle := not_not.mp hq
          split
          case h_1 => exact h
          case h_2 slot hslot =>
            refine (State.spares.offer _ _ _).callsWired (h.create (c := .fresh s.freshId .offered .trunk q ix [] v)
              (Option.isNone_iff_eq_none.mp (Table.find?_passes hslot)) he
              (h.call_none (DialState.free_iff.mpr (.inl idle))) (.inr rfl) rfl rfl rfl ?_ (.inl rfl))
            exact congrArg PortRec.call (State.port_putPort_self _ _ _)

theorem State.callsWired.openCallAct {s : State} (h : s.callsWired) (index : Word) (v : Byte) :
    (openCallAct index v s).1.callsWired := by
  unfold Machine.openCallAct
  split
  case h_2 => exact h
  case h_1 =>
    split
    case isTrue => exact h
    case isFalse => exact h.openTo _ _

end Sys2Proof.Machine

/-!
PROOFS. The end of a call leaves ports, calls, contexts and connection memory in agreement (O60; R131, R135 to R137).
-/

namespace Sys2Proof.Machine

/-! ## The calls of the table -/

/-- Ids are distinct in the call table (R118). -/
theorem State.wired.inTable_unique {s : State} (h : s.wired) {c d : Call} (hc : s.inTable c) (hd : s.inTable d)
    (hid : c.id = d.id) : c = d := by
  obtain ⟨i, hi⟩ := hc
  obtain ⟨j, hj⟩ := hd
  obtain rfl := h.idDistinct i j c d hi hj hid
  exact Option.some.inj (hi.symm.trans hj)

/-- A context belongs to one call. -/
theorem State.callsWired.same_call {s : State} (hw : s.wired) (h : s.callsWired) {c d : Call} (hc : s.inTable c)
    (hd : s.inTable d) {x : CtxId} (hxc : x ∈ c.contexts) (hxd : x ∈ d.contexts) : c = d :=
  hw.inTable_unique hc hd (Option.some.inj ((h.callContext c x hc hxc).1.symm.trans (h.callContext d x hd hxd).1))

theorem CallState.not_holds_free {k : CallState} : ¬ k.holds .free := by
  cases k <;> simp [CallState.holds]

/-- A call's context is not FREE. -/
theorem State.callsWired.notFree {s : State} (h : s.callsWired) {c : Call} (hc : s.inTable c) {x : CtxId}
    (hx : x ∈ c.contexts) : (s.context x).state ≠ .free := fun hf =>
  CallState.not_holds_free (hf ▸ (h.callContext c x hc hx).2)

theorem Context.free_fieldsWell : Context.free.fieldsWell := ⟨fun _ => rfl, fun h => absurd rfl h, nofun, nofun⟩

/-! ## The end of a call (R137) -/

section End

variable {s : State} {i : Fin 128} {c : Call} {e : Entry}

theorem State.live?_ended (s : State) (i : Fin 128) (c : Call) (e : Entry) (ix : ExtIx) :
    (s.ended i c e).live? ix = if ix = c.ext then none else s.live? ix := State.spares.live?_putEntry _ _ _ _

/-- The port of a call that has ended (R137, step 3). -/
theorem State.port_ended (s : State) (i : Fin 128) (c : Call) (e : Entry) (p : Port) : (s.ended i c e).port p =
    if p = c.port then (s.port p).callEnded else s.port p := by
  refine (State.port_putPort _ _ _ _).trans ?_
  split
  case isTrue h => rw [h, PortRec.callEnded_eq]
  case isFalse => rfl

theorem State.inTable_ended (h : s.wired) (hc : s.calls.get i = some c) (e : Entry) (d : Call) :
    (s.ended i c e).inTable d ↔ s.inTable d ∧ d.id ≠ c.id := by
  have calls : ∀ j, (s.ended i c e).calls.get j = if j = i then none else s.calls.get j := fun j => Table.get_set _ _ _ _
  unfold State.inTable
  simp only [calls]
  constructor
  · rintro ⟨j, hj⟩
    split at hj
    case isTrue => cases hj
    case isFalse hji => exact ⟨⟨j, hj⟩, fun hid => hji (h.idDistinct j i d c hj hc hid)⟩
  · rintro ⟨⟨j, hj⟩, hid⟩
    refine ⟨j, ?_⟩
    rw [if_neg ?_, hj]
    rintro rfl
    exact hid (congrArg Call.id (Option.some.inj (hj.symm.trans hc)))

theorem State.context_ended (s : State) (i : Fin 128) (c : Call) (e : Entry) (x : CtxId) : (s.ended i c e).context x =
    if x ∈ c.contexts then Context.free else s.context x := Table.get_tabulate _ _

theorem State.connections_ended (s : State) (i : Fin 128) (c : Call) (e : Entry) (d : SlotNo) (p : Path) :
    (s.ended i c e).connections.get d = some p ↔ s.connections.get d = some p ∧ p.owner ≠ c.id := by
  have get : (s.ended i c e).connections.get d = (s.connections.get d).filter (fun p => decide (p.owner ≠ c.id)) :=
    Table.get_map _ _ _
  rw [get, Option.filter_eq_some_iff]
  simp

theorem State.queue_ended (s : State) (i : Fin 128) (c : Call) (e : Entry) : (s.ended i c e).waitQueue =
    s.waitQueue.filter (fun w => decide (w.ctx ∉ c.contexts)) := rfl

/-- Of a call that has ended nothing is left. -/
theorem State.callsWired.ended (hw : s.wired) (h : s.callsWired) (hc : s.calls.get i = some c) (e : Entry) :
    (s.ended i c e).callsWired := by
  have table := State.inTable_ended hw hc e
  have contexts := s.context_ended i c e
  have connections := s.connections_ended i c e
  have ports := s.port_ended i c e
  have live := s.live?_ended i c e
  have queue := s.queue_ended i c e
  have supplier : (s.ended i c e).supplier = s.supplier := rfl
  generalize s.ended i c e = t at table contexts connections ports live queue supplier
  have found : s.inTable c := ⟨i, hc⟩
  obtain ⟨portCall, -⟩ := h.callPort c found
  have notOurs : ∀ {d : Call} {x}, t.inTable d → x ∈ d.contexts → x ∉ c.contexts := fun hd hxd hxc =>
    ((table _).mp hd).2 (congrArg Call.id (h.same_call hw ((table _).mp hd).1 found hxd hxc))
  have used : ∀ {x}, (t.context x).state ≠ .free → x ∉ c.contexts ∧ t.context x = s.context x := by
    intro x hx
    rw [contexts] at hx ⊢
    split at hx
    case isTrue => exact absurd rfl hx
    case isFalse hxc => exact ⟨hxc, if_neg hxc⟩
  have owner : ∀ {x}, (t.context x).state ≠ .free → ∃ d, t.inTable d ∧ (s.context x).call = some d.id ∧ x ∈ d.contexts := by
    intro x hx
    obtain ⟨hxc, same⟩ := used hx
    obtain ⟨d, hd, hcall, hxd⟩ := h.contextCall x (same ▸ hx)
    exact ⟨d, (table d).mpr ⟨hd, fun hid => hxc (hw.inTable_unique hd found hid ▸ hxd)⟩, hcall, hxd⟩
  constructor
  case portCall =>
    intro p id hid
    rw [ports] at hid
    split at hid
    case isTrue =>
      rw [PortRec.callEnded_eq] at hid
      cases hid
    case isFalse hp =>
      obtain ⟨d, hd, hdid, hdp⟩ := h.portCall p id hid
      exact ⟨d, (table d).mpr ⟨hd, fun hdc => hp (hdp.symm.trans (congrArg Call.port (hw.inTable_unique hd found hdc)))⟩,
        hdid, hdp⟩
  case callPort =>
    intro d hd
    obtain ⟨hd, hid⟩ := (table d).mp hd
    have call := h.callPort d hd
    rw [ports, if_neg fun hp => hid ?_]
    · exact call
    · exact Option.some.inj (call.1.symm.trans (hp ▸ portCall))
  case liveCall =>
    intro ix f id hf hl
    have hlive := live ix
    rw [State.live?_entry hf, hl] at hlive
    split at hlive
    case isTrue => cases hlive
    case isFalse hx =>
      obtain ⟨g, hg, hgl⟩ := State.live?_some hlive.symm
      obtain ⟨d, hd, hdid, hdx⟩ := h.liveCall ix g id hg hgl
      exact ⟨d, (table d).mpr ⟨hd, fun hdc => hx (hdx.symm.trans (congrArg Call.ext (hw.inTable_unique hd found hdc)))⟩,
        hdid, hdx⟩
  case dialCall =>
    intro p hp
    rw [ports] at hp ⊢
    split at hp
    case isTrue =>
      rw [PortRec.callEnded_eq] at hp
      cases hook : (s.port p).hook <;> simp [hook, DialState.inCallStates] at hp
    case isFalse hpc =>
      rw [if_neg hpc]
      exact h.dialCall p hp
  case callFields => exact fun d hd => h.callFields d ((table d).mp hd).1
  case contextFields =>
    intro x
    rw [contexts]
    split
    case isTrue => exact Context.free_fieldsWell
    case isFalse => exact h.contextFields x
  case contextCall =>
    intro x hx
    rw [(used hx).2]
    exact owner hx
  case callContext =>
    intro d x hd hx
    rw [contexts, if_neg (notOurs hd hx)]
    exact h.callContext d x ((table d).mp hd).1 hx
  case oneWaits =>
    intro d hd
    obtain ⟨waits, one⟩ := h.oneWaits d ((table d).mp hd).1
    have same : ∀ x ∈ d.contexts, t.context x = s.context x := fun x hx => by rw [contexts, if_neg (notOurs hd hx)]
    refine ⟨fun hs => ?_, fun x y hx hy => ?_⟩
    · obtain ⟨x, hx, hxw⟩ := waits hs
      exact ⟨x, hx, same x hx ▸ hxw⟩
    · rw [same x hx, same y hy]
      exact one x y hx hy
  case queued =>
    rw [queue]
    refine ⟨fun x => ?_, (h.queued.2.sublist ((List.filter_sublist).map _))⟩
    have waits := h.queued.1 x
    rw [contexts]
    split
    case isTrue hx =>
      simp only [List.mem_filter, decide_eq_true_eq, Context.free, reduceCtorEq, iff_false]
      rintro ⟨w, ⟨-, hw⟩, rfl⟩
      exact hw hx
    case isFalse hx =>
      rw [← waits]
      simp only [List.mem_filter, decide_eq_true_eq]
      exact exists_congr fun w => ⟨fun ⟨⟨hw, _⟩, hwx⟩ => ⟨hw, hwx⟩, fun ⟨hw, hwx⟩ => ⟨⟨hw, hwx ▸ hx⟩, hwx⟩⟩
  case running =>
    intro hr
    rw [queue, h.running (supplier ▸ hr)]
    rfl
  case pathOwner =>
    intro d p hp
    obtain ⟨hp, ho⟩ := (connections d p).mp hp
    obtain ⟨k, hk, hid, hd⟩ := h.pathOwner d p hp
    exact ⟨k, (table k).mpr ⟨hk, hid ▸ ho⟩, hid, hd⟩
  case callPath =>
    intro k d hk hd
    obtain ⟨hk, hid⟩ := (table k).mp hk
    obtain ⟨p, hp, ho⟩ := h.callPath k d hk hd
    exact ⟨p, (connections d p).mpr ⟨hp, ho ▸ hid⟩, ho⟩
  case pathContext =>
    intro d p x hp ht
    obtain ⟨hp, ho⟩ := (connections d p).mp hp
    have call := h.pathContext d p x hp ht
    rw [contexts, if_neg fun hx => ho ?_]
    · exact call
    · exact Option.some.inj (call.symm.trans (h.callContext c x found hx).1)
  case twoPaths =>
    intro x hx
    obtain ⟨k, hk, call, -⟩ := owner hx
    have kept : ∀ {d p}, s.connections.get d = some p → p.transform = .scramble x ∨ p.transform = .descramble x →
        t.connections.get d = some p := by
      intro d p hp ht
      refine (connections d p).mpr ⟨hp, fun ho => ((table k).mp hk).2 ?_⟩
      exact (Option.some.inj (call.symm.trans (h.pathContext d p x hp ht))).trans ho
    obtain ⟨⟨d, p, hp, htp, onlyP⟩, f, q, hq, htq, onlyQ⟩ := h.twoPaths x ((used hx).2 ▸ hx)
    exact ⟨⟨d, p, kept hp (.inl htp), htp, fun g r hr => onlyP g r ((connections g r).mp hr).1⟩,
      f, q, kept hq (.inr htq), htq, fun g r hr => onlyQ g r ((connections g r).mp hr).1⟩

end End

namespace State.spares

theorem endNotice (p : Port) (n : Option NoticeReason) (s : State) : s.spares (s.endNotice p n) := by
  cases n with
  | none => exact refl s
  | some _ => exact offer p _ s

theorem deferredLapse (ix : ExtIx) (s : State) : s.spares (s.deferredLapse ix) := by
  unfold State.deferredLapse
  split
  case h_2 => exact refl s
  case h_1 =>
    split
    case h_1 => exact lapse ix _ s
    case h_2 => exact refl s

end State.spares

section Ends

variable {s : State} {i : Fin 128} {c : Call}

theorem State.callsWired.endCall (hw : s.wired) (h : s.callsWired) (hc : s.calls.get i = some c)
    (notice : Option NoticeReason) : (s.endCall c notice).callsWired := by
  obtain ⟨e, he, -, -⟩ := hw.callEntry i c hc
  rw [hw.endCall_eq hc he]
  exact ((State.spares.endNotice _ _ _).trans (.deferredLapse _ _)).callsWired (h.ended hw hc e)

theorem State.callsWired.refuseCallAct (hw : s.wired) (h : s.callsWired) (hc : s.calls.get i = some c) :
    (refuseCallAct c s).1.callsWired := by
  unfold Machine.refuseCallAct
  split
  case isTrue => exact h.endCall hw hc _
  case isFalse => exact h

/-- A call fails with its waiting context already out of the queue (R131, R151). -/
theorem State.callsWired.failCall (hw : s.wired) (h : s.callsWired) (hc : s.calls.get i = some c) {x : CtxId}
    (hx : x ∈ c.contexts) : ((s.leaveQueue x).failCall c).callsWired := by
  obtain ⟨e, he, -, -⟩ := hw.callEntry i c hc
  have left : ((s.leaveQueue x).raise (.callFailed c.id c.port c.ext)).wired :=
    State.kin.wired (s := s) (.of_eq rfl rfl rfl) hw
  have queue : (s.leaveQueue x).waitQueue.filter (fun w => decide (w.ctx ∉ c.contexts)) =
      s.waitQueue.filter (fun w => decide (w.ctx ∉ c.contexts)) := by
    refine (List.filter_filter ..).trans (List.filter_congr fun w _ => ?_)
    by_cases hwx : w.ctx = x <;> simp [hwx, hx]
  have same : ((s.leaveQueue x).raise (.callFailed c.id c.port c.ext)).ended i c e =
      (s.ended i c e).raise (.callFailed c.id c.port c.ext) := by
    rw [State.ended, State.ended, ← queue]
    rfl
  rw [State.failCall, left.endCall_eq hc he, same]
  exact (((State.spares.raise _ _).trans (.endNotice _ _ _)).trans (.deferredLapse _ _)).callsWired (h.ended hw hc e)

end Ends

end Sys2Proof.Machine

/-!
PROOFS. Calls held, retrieved, served and fallen back to clear leave ports, calls, contexts and connection memory in
agreement (O60; R129, R130, R133, R134, R144).
-/

namespace Sys2Proof.Machine

/-! ## Calls and contexts that change their states

`s.restates t`: ports, paths and the contexts of each call stand; calls have become CONNECTED or HELD, and contexts ACTIVE or
HELD. -/

/-- The call `c` has become CONNECTED or HELD, as `d`. -/
structure Call.becomes (c d : Call) : Prop where
  id : d.id = c.id
  port : d.port = c.port
  ext : d.ext = c.ext
  paths : d.paths = c.paths
  contexts : d.contexts = c.contexts
  early : ¬ (c.state = .requested ∨ c.state = .offered)
  state : d.state = .connected ∨ d.state = .held
  time : d.connectedTime.isSome

/-- The context `x` has become ACTIVE or HELD, as `y`. -/
structure Context.becomes (x y : Context) : Prop where
  call : y.call = x.call
  used : x.state ≠ .free
  state : y.state = .active ∨ y.state = .held
  fields : y.fieldsWell

/-- The update from `s` to `t` changes states of calls and contexts alone. -/
structure State.restates (s t : State) : Prop where
  ports : t.ports = s.ports
  live : ∀ ix, t.live? ix = s.live? ix
  call : ∀ i, Option.Rel (fun c d => d = c ∨ c.becomes d) (s.calls.get i) (t.calls.get i)
  context : ∀ x, t.context x = s.context x ∨ (s.context x).becomes (t.context x)
  connections : t.connections = s.connections

/-- The states of each call and its contexts fit one another, and the wait queue. -/
structure State.statesFit (t : State) : Prop where
  holds : ∀ d x, t.inTable d → x ∈ d.contexts → d.state.holds (t.context x).state
  waits : ∀ d, t.inTable d → d.state = .connecting → ∃ x, x ∈ d.contexts ∧ (t.context x).state = .keyWait
  queued : (∀ x, (∃ w ∈ t.waitQueue, w.ctx = x) ↔ (t.context x).state = .keyWait) ∧ (t.waitQueue.map WaitItem.ctx).Nodup
  running : t.supplier = .running → t.waitQueue = []

namespace State.restates

variable {s t : State} (k : s.restates t)
include k

theorem port (p : Port) : t.port p = s.port p := congrArg (Table.get · p) k.ports

theorem after {c : Call} (hc : s.inTable c) : ∃ d, t.inTable d ∧ (d = c ∨ c.becomes d) := by
  obtain ⟨i, hi⟩ := hc
  obtain ⟨d, hd, same⟩ := rel_after (k.call i) hi
  exact ⟨d, ⟨i, hd⟩, same⟩

theorem before {d : Call} (hd : t.inTable d) : ∃ c, s.inTable c ∧ (d = c ∨ c.becomes d) := by
  obtain ⟨i, hi⟩ := hd
  obtain ⟨c, hc, same⟩ := rel_before (k.call i) hi
  exact ⟨c, ⟨i, hc⟩, same⟩

omit k in
theorem wires {c d : Call} (h : d = c ∨ c.becomes d) :
    d.id = c.id ∧ d.port = c.port ∧ d.ext = c.ext ∧ d.paths = c.paths ∧ d.contexts = c.contexts := by
  rcases h with rfl | h
  · exact ⟨rfl, rfl, rfl, rfl, rfl⟩
  · exact ⟨h.id, h.port, h.ext, h.paths, h.contexts⟩

theorem context_call (x : CtxId) : (t.context x).call = (s.context x).call := by
  rcases k.context x with h | h
  · rw [h]
  · exact h.call

theorem notFree {x : CtxId} (hx : (t.context x).state ≠ .free) : (s.context x).state ≠ .free := by
  rcases k.context x with h | h
  · exact h ▸ hx
  · exact h.used

theorem keyWait {x : CtxId} (hx : (t.context x).state = .keyWait) : (s.context x).state = .keyWait := by
  rcases k.context x with h | h
  · exact h ▸ hx
  · rcases h.state with hs | hs <;> rw [hs] at hx <;> cases hx

/-- Changed states that fit one another leave everything else in agreement. -/
theorem callsWired (h : s.callsWired) (fit : t.statesFit) : t.callsWired where
  portCall p id hp := by
    obtain ⟨c, hc, rfl, hcp⟩ := h.portCall p id (k.port p ▸ hp)
    obtain ⟨d, hd, same⟩ := k.after hc
    obtain ⟨did, port, -⟩ := wires same
    exact ⟨d, hd, did, port.trans hcp⟩
  callPort d hd := by
    obtain ⟨c, hc, same⟩ := k.before hd
    obtain ⟨id, port, -⟩ := wires same
    obtain ⟨call, dials⟩ := h.callPort c hc
    rw [id, port, k.port]
    refine ⟨call, ?_⟩
    rcases same with rfl | same
    · exact dials
    · have inCall : (s.port c.port).dial = .inCall := by
        cases hs : c.state with
        | requested => exact absurd (.inl hs) same.early
        | offered => exact absurd (.inr hs) same.early
        | connecting | connected | held => rw [hs] at dials; exact dials
      rcases same.state with hs | hs <;> rw [hs] <;> exact inCall
  liveCall ix e id he hl := by
    have live : s.live? ix = some id := by rw [← k.live, State.live?_entry he, hl]
    obtain ⟨e', he', hl'⟩ := State.live?_some live
    obtain ⟨c, hc, rfl, hx⟩ := h.liveCall ix e' id he' hl'
    obtain ⟨d, hd, same⟩ := k.after hc
    obtain ⟨did, -, ext, -⟩ := wires same
    exact ⟨d, hd, did, ext.trans hx⟩
  dialCall p := by
    rw [k.port]
    exact h.dialCall p
  callFields d hd := by
    obtain ⟨c, hc, same⟩ := k.before hd
    obtain ⟨early, lists, time⟩ := h.callFields c hc
    rcases same with rfl | same
    · exact ⟨early, lists, time⟩
    · rw [same.paths, same.contexts]
      refine ⟨fun hs => ?_, lists, iff_of_true same.time same.state⟩
      rcases same.state with hd | hd <;> simp [hd] at hs
  contextFields x := by
    rcases k.context x with hx | hx
    · exact hx ▸ h.contextFields x
    · exact hx.fields
  contextCall x hx := by
    obtain ⟨c, hc, call, hxc⟩ := h.contextCall x (k.notFree hx)
    obtain ⟨d, hd, same⟩ := k.after hc
    obtain ⟨id, -, -, -, contexts⟩ := wires same
    exact ⟨d, hd, (k.context_call x).trans (id.symm ▸ call), contexts.symm ▸ hxc⟩
  callContext d x hd hx := by
    obtain ⟨c, hc, same⟩ := k.before hd
    obtain ⟨id, -, -, -, contexts⟩ := wires same
    exact ⟨(k.context_call x).trans (id.symm ▸ (h.callContext c x hc (contexts ▸ hx)).1), fit.holds d x hd hx⟩
  oneWaits d hd := by
    obtain ⟨c, hc, same⟩ := k.before hd
    obtain ⟨-, -, -, -, contexts⟩ := wires same
    refine ⟨fit.waits d hd, fun x y hx hy hxw hyw => ?_⟩
    exact (h.oneWaits c hc).2 x y (contexts ▸ hx) (contexts ▸ hy) (k.keyWait hxw) (k.keyWait hyw)
  queued := fit.queued
  running := fit.running
  pathOwner d p hp := by
    obtain ⟨c, hc, id, hd⟩ := h.pathOwner d p (k.connections ▸ hp)
    obtain ⟨f, hf, same⟩ := k.after hc
    obtain ⟨fid, -, -, paths, -⟩ := wires same
    exact ⟨f, hf, fid.trans id, paths.symm ▸ hd⟩
  callPath f d hf hd := by
    obtain ⟨c, hc, same⟩ := k.before hf
    obtain ⟨id, -, -, paths, -⟩ := wires same
    rw [k.connections, id]
    exact h.callPath c d hc (paths ▸ hd)
  pathContext d p x hp := by
    rw [k.context_call]
    exact h.pathContext d p x (k.connections ▸ hp)
  twoPaths x hx := by
    rw [k.connections]
    exact h.twoPaths x (k.notFree hx)

end State.restates

/-! ## HOLD CALL and RETRIEVE CALL (R133, R134) -/

section Moved

variable {s : State} {i : Fin 128} {c : Call}

theorem State.inTable_moved {state : CallState} {ctxState : CtxState} {d : Call}
    (hd : (s.moved i c state ctxState).inTable d) :
    d = { c with state := state } ∨ ∃ j, j ≠ i ∧ s.calls.get j = some d := by
  obtain ⟨j, hj⟩ := hd
  have calls : (s.moved i c state ctxState).calls.get j = if j = i then some { c with state := state } else s.calls.get j :=
    Table.get_set _ _ _ _
  rw [calls] at hj
  split at hj
  case isTrue => exact .inl (Option.some.inj hj).symm
  case isFalse hji => exact .inr ⟨j, hji, hj⟩

/-- A CONNECTED or HELD call moves to HELD or CONNECTED with its contexts. -/
theorem State.callsWired.moved (hw : s.wired) (h : s.callsWired) (hc : s.calls.get i = some c)
    (hs : c.state = .connected ∨ c.state = .held) {state : CallState} {ctxState : CtxState}
    (new : state = .held ∧ ctxState = .held ∨ state = .connected ∧ ctxState = .active) :
    (s.moved i c state ctxState).callsWired := by
  have found : s.inTable c := ⟨i, hc⟩
  have contexts : ∀ x, (s.moved i c state ctxState).context x =
      if x ∈ c.contexts then { s.context x with state := ctxState } else s.context x := s.context_moved i c state ctxState
  have runs : ∀ x ∈ c.contexts, (s.context x).state = .active ∨ (s.context x).state = .held := by
    intro x hx
    have holds := (h.callContext c x found hx).2
    rcases hs with hs | hs <;> rw [hs] at holds
    · exact .inl holds
    · exact .inr holds
  have fits : ctxState = .active ∨ ctxState = .held := new.symm.imp And.right And.right
  have other : ∀ {j d x}, j ≠ i → s.calls.get j = some d → x ∈ d.contexts → x ∉ c.contexts := by
    intro j d x hji hd hxd hxc
    exact hji (hw.idDistinct j i d c hd hc (congrArg Call.id (h.same_call hw ⟨j, hd⟩ found hxd hxc)))
  have waiting : ∀ x, ((s.moved i c state ctxState).context x).state = .keyWait ↔ (s.context x).state = .keyWait := by
    intro x
    rw [contexts]
    split
    case isFalse => rfl
    case isTrue hx =>
      refine iff_of_false (fun hw => ?_) fun hw => ?_
      · rcases fits with hf | hf <;> simp [hf] at hw
      · rcases runs x hx with hr | hr <;> simp [hr] at hw
  refine State.restates.callsWired (s := s) ⟨rfl, fun _ => rfl, fun j => ?call, fun x => ?context, rfl⟩ h
    ⟨fun d x hd hx => ?holds, fun d hd hs => ?waits, ?queued, h.running⟩
  case call =>
    show Option.Rel _ _ (Table.get (Table.set _ _ _) j)
    rw [Table.get_set]
    split
    case isFalse => exact rel_refl (fun _ => .inl rfl) _
    case isTrue hj =>
      rw [hj, hc]
      refine .some (.inr ⟨rfl, rfl, rfl, rfl, rfl, ?_, new.symm.imp And.left And.left, ?_⟩)
      · rcases hs with hs | hs <;> simp [hs]
      · exact (h.callFields c found).2.2.mpr hs
  case context =>
    rw [contexts]
    split
    case isFalse => exact .inl rfl
    case isTrue hx =>
      have used := h.notFree found hx
      have fields := h.contextFields x
      refine .inr ⟨rfl, used, fits, fun hf => ?_, fun _ => fields.config used, fun hk => ?_, fun _ => fields.keyed (runs x hx)⟩
      · rcases fits with hs | hs <;> simp [hs] at hf
      · rcases fits with hs | hs <;> simp [hs] at hk
  case holds =>
    rw [contexts]
    rcases State.inTable_moved hd with rfl | ⟨j, hji, hd⟩
    · rw [if_pos hx]
      rcases new with ⟨rfl, rfl⟩ | ⟨rfl, rfl⟩ <;> rfl
    · rw [if_neg (other hji hd hx)]
      exact (h.callContext d x ⟨j, hd⟩ hx).2
  case waits =>
    rcases State.inTable_moved hd with rfl | ⟨j, -, hd⟩
    · rcases new with ⟨rfl, -⟩ | ⟨rfl, -⟩ <;> cases hs
    · obtain ⟨x, hx, hxw⟩ := (h.oneWaits d ⟨j, hd⟩).1 hs
      exact ⟨x, hx, (waiting x).mpr hxw⟩
  case queued =>
    simp only [waiting]
    exact h.queued

theorem State.callsWired.moveCall (hw : s.wired) (h : s.callsWired) (hc : s.calls.get i = some c)
    (hs : c.state = .connected ∨ c.state = .held) {state : CallState} {ctxState : CtxState}
    (new : state = .held ∧ ctxState = .held ∨ state = .connected ∧ ctxState = .active) :
    (s.moveCall c state ctxState).callsWired := by
  rw [State.moveCall_eq (hw.findCall hc) hc]
  exact h.moved hw hc hs new

theorem State.callsWired.holdCallAct (hw : s.wired) (h : s.callsWired) (hc : s.calls.get i = some c) :
    (holdCallAct c s).1.callsWired := by
  unfold Machine.holdCallAct
  split
  case isTrue hs => exact h.moveCall hw hc (.inl hs) (.inl ⟨rfl, rfl⟩)
  case isFalse => exact h

theorem State.callsWired.retrieveCallAct (hw : s.wired) (h : s.callsWired) (hc : s.calls.get i = some c) :
    (retrieveCallAct c s).1.callsWired := by
  unfold Machine.retrieveCallAct
  split
  case isTrue hs => exact h.moveCall hw hc (.inr hs) (.inr ⟨rfl, rfl⟩)
  case isFalse => exact h

end Moved

/-! ## Serving passes (R129, R144) -/

/-- The call of a context that waits is CONNECTING. -/
theorem State.callsWired.connecting {s : State} (h : s.callsWired) {c : Call} (hc : s.inTable c) {x : CtxId}
    (hx : x ∈ c.contexts) (hw : (s.context x).state = .keyWait) : c.state = .connecting := by
  have holds := (h.callContext c x hc hx).2
  rw [hw] at holds
  cases hs : c.state <;> simp [hs, CallState.holds] at holds ⊢

theorem Context.keyed_becomes {x : Context} (used : x.state ≠ .free) (h : x.fieldsWell) (source : KeySource) (key : Key) :
    x.becomes (x.keyed source key) :=
  ⟨rfl, used, .inl rfl, nofun, fun _ => h.config used, nofun, fun _ => ⟨rfl, rfl, rfl⟩⟩

section Pass

variable {s t : State} {done : List CtxId}

/-- Contexts of the head of the wait queue served, their calls completed, leave the rest in agreement. -/
theorem State.callsWired.passed (hw : s.wired) (h : s.callsWired) (p : State.passed none done s t)
    (live : ∀ ix, t.live? ix = s.live? ix)
    (queue : s.waitQueue.map WaitItem.ctx = done ++ t.waitQueue.map WaitItem.ctx)
    (running : t.supplier = .running → t.waitQueue = []) : t.callsWired := by
  have mem : ∀ x, (s.context x).state = .keyWait ↔ x ∈ done ∨ x ∈ t.waitQueue.map WaitItem.ctx := fun x => by
    rw [← h.queued.1, State.mem_queue_iff, queue, List.mem_append]
  have distinct : (done ++ t.waitQueue.map WaitItem.ctx).Nodup := queue ▸ h.queued.2
  have waiting : ∀ {x}, x ∈ done → (s.context x).state = .keyWait := fun hx => (mem _).mpr (.inl hx)
  have used : ∀ {x}, x ∈ done → (s.context x).state ≠ .free := fun hx => by rw [waiting hx]; nofun
  have owner : ∀ {x}, x ∈ done → ∃ c, s.inTable c ∧ (s.context x).call = some c.id ∧ x ∈ c.contexts :=
    fun hx => h.contextCall _ (used hx)
  have served : ∀ {x}, x ∈ done → ∃ source key, t.context x = (s.context x).keyed source key := fun hx =>
    p.keyed _ hx (by obtain ⟨c, hc, call, -⟩ := owner hx; exact ⟨c, hc, call⟩)
  have active : ∀ {x}, x ∈ done → (t.context x).state = .active := by
    intro x hx
    obtain ⟨source, key, eq⟩ := served hx
    rw [eq]
    rfl
  have completes : ∀ {c}, s.inTable c → (s.completes none done c.id = true ↔ ∃ x ∈ done, x ∈ c.contexts) := by
    intro c hc
    rw [State.completes_iff]
    refine exists_congr fun x => and_congr_right fun hx =>
      ⟨fun ⟨_, call⟩ => ?_, fun hxc => ⟨nofun, (h.callContext c x hc hxc).1⟩⟩
    obtain ⟨d, hd, dcall, hxd⟩ := owner hx
    exact hw.inTable_unique hd hc (Option.some.inj (dcall.symm.trans call)) ▸ hxd
  have before : ∀ {d}, t.inTable d →
      (∃ c x, s.inTable c ∧ x ∈ done ∧ x ∈ c.contexts ∧ d = c.completed) ∨ s.inTable d ∧ ∀ x ∈ d.contexts, x ∉ done := by
    rintro d ⟨i, hd⟩
    obtain ⟨c, hc, rfl⟩ := p.call_from hd
    split
    case isTrue hcs =>
      obtain ⟨x, hx, hxc⟩ := (completes ⟨i, hc⟩).mp hcs
      exact .inl ⟨c, x, ⟨i, hc⟩, hx, hxc, rfl⟩
    case isFalse hcs => exact .inr ⟨⟨i, hc⟩, fun x hxc hx => hcs ((completes ⟨i, hc⟩).mpr ⟨x, hx, hxc⟩)⟩
  refine State.restates.callsWired (s := s) ⟨p.ports, live, fun i => ?call, fun x => ?context, p.connections⟩ h
    ⟨fun d x hd hx => ?holds, fun d hd hs => ?waits, ⟨fun x => ?queued, distinct.of_append_right⟩, running⟩
  case call =>
    rw [p.calls]
    cases hc : s.calls.get i with
    | none => exact .none
    | some c =>
      refine .some ?_
      dsimp only
      split
      case isFalse => exact .inl rfl
      case isTrue hcs =>
        obtain ⟨x, hx, hxc⟩ := (completes ⟨i, hc⟩).mp hcs
        exact .inr ⟨rfl, rfl, rfl, rfl, rfl, by simp [h.connecting ⟨i, hc⟩ hxc (waiting hx)], .inl rfl, rfl⟩
  case context =>
    by_cases hx : x ∈ done
    · obtain ⟨source, key, eq⟩ := served hx
      exact .inr (eq ▸ Context.keyed_becomes (used hx) (h.contextFields x) source key)
    · exact .inl (p.same x hx)
  case holds =>
    rcases before hd with ⟨c, y, hc, hy, hyc, rfl⟩ | ⟨hd, notDone⟩
    · by_cases hxd : x ∈ done
      · exact active hxd
      · have holds := (h.callContext c x hc hx).2
        rw [h.connecting hc hyc (waiting hy)] at holds
        rw [p.same x hxd]
        refine holds.resolve_right fun hxw => hxd ?_
        exact (h.oneWaits c hc).2 x y hx hyc hxw (waiting hy) ▸ hy
    · rw [p.same x (notDone x hx)]
      exact (h.callContext d x hd hx).2
  case waits =>
    rcases before hd with ⟨c, y, hc, hy, hyc, rfl⟩ | ⟨hd, notDone⟩
    · cases hs
    · obtain ⟨x, hx, hxw⟩ := (h.oneWaits d hd).1 hs
      exact ⟨x, hx, by rw [p.same x (notDone x hx), hxw]⟩
  case queued =>
    rw [State.mem_queue_iff]
    by_cases hx : x ∈ done
    · refine iff_of_false (List.disjoint_of_nodup_append distinct hx) ?_
      rw [active hx]
      nofun
    · rw [p.same x hx, mem, or_iff_right hx]

theorem State.kin.live? (k : s.kin t) (ix : ExtIx) : t.live? ix = s.live? ix := by
  have entry := k.entry ix
  unfold State.live?
  cases hs : s.entry? ix with
  | none =>
    rw [hs] at entry
    cases ht : t.entry? ix with
    | none => rfl
    | some d => rw [ht] at entry; cases entry
  | some e =>
    obtain ⟨d, hd, same⟩ := rel_after entry hs
    rw [hd]
    exact same.live

/-- A serving pass whatever state the supplier was in (R144, R146). -/
theorem State.callsWired.servingPass (hw : s.wired) (h : (s.putSupplier .suspended).callsWired) :
    (s.servingPass none).callsWired := by
  obtain ⟨done, queue, running, p⟩ := hw.passed_servingPass none
  have wired : (s.putSupplier .suspended).wired := State.kin.wired (s := s) (.of_eq rfl rfl rfl) hw
  exact h.passed wired (t := s.servingPass none) ⟨p.ports, p.connections, p.same, p.keyed, p.unkeyed, p.calls⟩
    (State.kin.servingPass none s).live? queue running

/-- A supplier that is not RUNNING asks nothing of the wait queue. -/
theorem State.callsWired.putSupplier {v : Supplier} (h : s.callsWired) (hv : v ≠ .running) :
    (s.putSupplier v).callsWired := by
  have k : s.restates (s.putSupplier v) :=
    ⟨rfl, fun _ => rfl, fun _ => rel_refl (fun _ => .inl rfl) _, fun _ => .inl rfl, rfl⟩
  exact k.callsWired h ⟨fun d x hd hx => (h.callContext d x hd hx).2, fun d hd => (h.oneWaits d hd).1, h.queued,
    fun hr => absurd hr hv⟩

theorem State.callsWired.startDrawAct (hw : s.wired) (h : s.callsWired) : (startDrawAct s).1.callsWired := by
  have suspended := h.putSupplier (v := .suspended) nofun
  unfold Machine.startDrawAct
  cases s.supplier with
  | stopped =>
    exact State.callsWired.servingPass (s := s.putSupplier .running) (State.kin.wired (s := s) (.of_eq rfl rfl rfl) hw)
      suspended
  | running | suspended => exact State.callsWired.servingPass hw suspended

theorem State.callsWired.resumeDrawAct (hw : s.wired) (h : s.callsWired) : (resumeDrawAct s).1.callsWired := by
  have suspended := h.putSupplier (v := .suspended) nofun
  unfold Machine.resumeDrawAct
  cases s.supplier with
  | stopped => exact h
  | running | suspended => exact State.callsWired.servingPass hw suspended

end Pass

/-! ## The fall back to clear (R110, R130) -/

theorem Path.clearOf_owner (x : CtxId) (p : Path) : (Path.clearOf x p).owner = p.owner := by
  unfold Path.clearOf
  split <;> rfl

theorem Path.clearOf_scrambles {x y : CtxId} {p : Path} :
    (Path.clearOf x p).transform = .scramble y ↔ p.transform = .scramble y ∧ y ≠ x := by
  rw [Path.clearOf_eq]
  split
  case isTrue h => rcases h with h | h <;> simp [h, eq_comm]
  case isFalse h =>
    refine ⟨fun hp => ⟨hp, ?_⟩, And.left⟩
    rintro rfl
    exact h (.inl hp)

theorem Path.clearOf_descrambles {x y : CtxId} {p : Path} :
    (Path.clearOf x p).transform = .descramble y ↔ p.transform = .descramble y ∧ y ≠ x := by
  rw [Path.clearOf_eq]
  split
  case isTrue h => rcases h with h | h <;> simp [h, eq_comm]
  case isFalse h =>
    refine ⟨fun hp => ⟨hp, ?_⟩, And.left⟩
    rintro rfl
    exact h (.inr hp)

section Fallen

variable {s : State} {x : CtxId} {i : Fin 128} {c : Call}

/-- The call after its fall back (R130). -/
def Call.fallen (x : CtxId) (c : Call) : Call :=
  { c with contexts := c.contexts.filter (fun y => decide (y ≠ x)), state := .connected, connectedTime := some 0 }

theorem State.calls_clearFallen (j : Fin 128) : (s.clearFallen x i c).calls.get j =
    if j = i then some (c.fallen x) else s.calls.get j := Table.get_set _ _ _ _

theorem State.context_clearFallen (y : CtxId) : (s.clearFallen x i c).context y =
    if y = x then Context.free else s.context y := State.context_putContext _ _ _ _

theorem State.connections_clearFallen (d : SlotNo) :
    (s.clearFallen x i c).connections.get d = (s.connections.get d).map (Path.clearOf x) := by
  refine (Table.get_map _ _ _).trans (congrArg (Option.map · _) (funext fun p => ?_))
  exact (Path.clearOf_eq x p).symm

/-- A waiting context's call goes on in clear without it. -/
theorem State.callsWired.clearFallen (hw : s.wired) (h : s.callsWired) (hc : s.calls.get i = some c)
    (hx : x ∈ c.contexts) (hxw : (s.context x).state = .keyWait) : (s.clearFallen x i c).callsWired := by
  have calls := s.calls_clearFallen (x := x) (i := i) (c := c)
  have contexts := s.context_clearFallen (x := x) (i := i) (c := c)
  have connections := s.connections_clearFallen (x := x) (i := i) (c := c)
  have ports : ∀ p, (s.clearFallen x i c).port p = s.port p := fun _ => rfl
  have entries : ∀ ix, (s.clearFallen x i c).entry? ix = s.entry? ix := fun _ => rfl
  have queue : (s.clearFallen x i c).waitQueue = s.waitQueue.filter (fun w => decide (w.ctx ≠ x)) := rfl
  have supplier : (s.clearFallen x i c).supplier = s.supplier := rfl
  generalize s.clearFallen x i c = t at calls contexts connections ports entries queue supplier
  have found : s.inTable c := ⟨i, hc⟩
  have state : c.state = .connecting := h.connecting found hx hxw
  have fallen : t.inTable (c.fallen x) := ⟨i, by rw [calls, if_pos rfl]⟩
  have after : ∀ {d}, s.inTable d → ∃ k, t.inTable k ∧ k.id = d.id ∧ k.port = d.port ∧ k.ext = d.ext ∧ k.paths = d.paths ∧
      ∀ y ∈ d.contexts, y ≠ x → y ∈ k.contexts := by
    rintro d ⟨j, hd⟩
    by_cases hj : j = i
    · obtain rfl := Option.some.inj (hd.symm.trans (hj ▸ hc))
      exact ⟨_, fallen, rfl, rfl, rfl, rfl, fun y hy hyx => List.mem_filter.mpr ⟨hy, decide_eq_true hyx⟩⟩
    · exact ⟨d, ⟨j, by rw [calls, if_neg hj, hd]⟩, rfl, rfl, rfl, rfl, fun y hy _ => hy⟩
  have before : ∀ {k}, t.inTable k → k = c.fallen x ∨ s.inTable k ∧ x ∉ k.contexts := by
    rintro k ⟨j, hk⟩
    rw [calls] at hk
    split at hk
    case isTrue => exact .inl (Option.some.inj hk).symm
    case isFalse hj =>
      refine .inr ⟨⟨j, hk⟩, fun hxk => hj ?_⟩
      exact hw.idDistinct j i k c hk hc (congrArg Call.id (h.same_call hw ⟨j, hk⟩ found hxk hx))
  have members : ∀ {y}, y ∈ (c.fallen x).contexts ↔ y ∈ c.contexts ∧ y ≠ x := by simp [Call.fallen]
  have used : ∀ {y}, (t.context y).state ≠ .free → y ≠ x ∧ t.context y = s.context y := by
    intro y hy
    rw [contexts] at hy ⊢
    split at hy
    case isTrue => exact absurd rfl hy
    case isFalse hyx => exact ⟨hyx, if_neg hyx⟩
  have path : ∀ {d q}, t.connections.get d = some q → ∃ p, s.connections.get d = some p ∧ q = Path.clearOf x p := by
    intro d q hq
    rw [connections, Option.map_eq_some_iff] at hq
    obtain ⟨p, hp, rfl⟩ := hq
    exact ⟨p, hp, rfl⟩
  have cleared : ∀ {d p}, s.connections.get d = some p → t.connections.get d = some (Path.clearOf x p) := fun hp => by
    rw [connections, hp]
    rfl
  constructor
  case portCall =>
    intro p id hp
    obtain ⟨d, hd, rfl, hdp⟩ := h.portCall p id (ports p ▸ hp)
    obtain ⟨k, hk, hid, port, -⟩ := after hd
    exact ⟨k, hk, hid, port.trans hdp⟩
  case callPort =>
    intro k hk
    rw [ports]
    rcases before hk with rfl | ⟨hk, -⟩
    · obtain ⟨call, dials⟩ := h.callPort c found
      rw [state] at dials
      exact ⟨call, dials⟩
    · exact h.callPort k hk
  case liveCall =>
    intro ix e id he hl
    obtain ⟨d, hd, rfl, hdx⟩ := h.liveCall ix e id (entries ix ▸ he) hl
    obtain ⟨k, hk, hid, -, ext, -⟩ := after hd
    exact ⟨k, hk, hid, ext.trans hdx⟩
  case dialCall => exact fun p => ports p ▸ h.dialCall p
  case callFields =>
    intro k hk
    rcases before hk with rfl | ⟨hk, -⟩
    · obtain ⟨-, ⟨distinct, few, paths⟩, -⟩ := h.callFields c found
      exact ⟨by simp [Call.fallen], ⟨distinct.filter _, (List.length_filter_le _ _).trans few, paths⟩, by simp [Call.fallen]⟩
    · exact h.callFields k hk
  case contextFields =>
    intro y
    rw [contexts]
    split
    case isTrue => exact Context.free_fieldsWell
    case isFalse => exact h.contextFields y
  case contextCall =>
    intro y hy
    obtain ⟨hyx, same⟩ := used hy
    obtain ⟨d, hd, call, hyd⟩ := h.contextCall y (same ▸ hy)
    obtain ⟨k, hk, hid, -, -, -, kept⟩ := after hd
    exact ⟨k, hk, by rw [same, call, hid], kept y hyd hyx⟩
  case callContext =>
    intro k y hk hy
    rcases before hk with rfl | ⟨hk, hxk⟩
    · obtain ⟨hyc, hyx⟩ := members.mp hy
      rw [contexts, if_neg hyx]
      obtain ⟨call, holds⟩ := h.callContext c y found hyc
      rw [state] at holds
      exact ⟨call, holds.resolve_right fun hyw => hyx ((h.oneWaits c found).2 y x hyc hx hyw hxw)⟩
    · rw [contexts, if_neg fun hyx : y = x => hxk (hyx ▸ hy)]
      exact h.callContext k y hk hy
  case oneWaits =>
    intro k hk
    rcases before hk with rfl | ⟨hk, hxk⟩
    · refine ⟨nofun, fun y z hy hz hyw hzw => ?_⟩
      obtain ⟨hyc, hyx⟩ := members.mp hy
      obtain ⟨hzc, hzx⟩ := members.mp hz
      rw [contexts, if_neg hyx] at hyw
      rw [contexts, if_neg hzx] at hzw
      exact (h.oneWaits c found).2 y z hyc hzc hyw hzw
    · have same : ∀ y ∈ k.contexts, t.context y = s.context y := fun y hy =>
        (contexts y).trans (if_neg fun hyx : y = x => hxk (hyx ▸ hy))
      obtain ⟨waits, one⟩ := h.oneWaits k hk
      refine ⟨fun hs => ?_, fun y z hy hz => ?_⟩
      · obtain ⟨y, hy, hyw⟩ := waits hs
        exact ⟨y, hy, same y hy ▸ hyw⟩
      · rw [same y hy, same z hz]
        exact one y z hy hz
  case queued =>
    rw [queue]
    refine ⟨fun y => ?_, h.queued.2.sublist (List.filter_sublist.map _)⟩
    have waits := h.queued.1 y
    rw [contexts]
    split
    case isTrue hy =>
      simp only [List.mem_filter, decide_eq_true_eq, Context.free, reduceCtorEq, iff_false]
      rintro ⟨w, ⟨-, hw⟩, hwy⟩
      exact hw (hwy.trans hy)
    case isFalse hy =>
      rw [← waits]
      simp only [List.mem_filter, decide_eq_true_eq]
      exact exists_congr fun w => ⟨fun ⟨⟨hw, _⟩, hwy⟩ => ⟨hw, hwy⟩, fun ⟨hw, hwy⟩ => ⟨⟨hw, hwy ▸ hy⟩, hwy⟩⟩
  case running =>
    intro hr
    rw [queue, h.running (supplier ▸ hr)]
    rfl
  case pathOwner =>
    intro d q hq
    obtain ⟨p, hp, rfl⟩ := path hq
    obtain ⟨e, he, hid, hd⟩ := h.pathOwner d p hp
    obtain ⟨k, hk, hke, -, -, paths, -⟩ := after he
    exact ⟨k, hk, by rw [hke, hid, Path.clearOf_owner], paths.symm ▸ hd⟩
  case callPath =>
    intro k d hk hd
    have old : ∃ p, s.connections.get d = some p ∧ p.owner = k.id := by
      rcases before hk with rfl | ⟨hk, -⟩
      · exact h.callPath c d found hd
      · exact h.callPath k d hk hd
    obtain ⟨p, hp, ho⟩ := old
    exact ⟨_, cleared hp, (Path.clearOf_owner x p).trans ho⟩
  case pathContext =>
    intro d q y hq ht
    obtain ⟨p, hp, rfl⟩ := path hq
    rw [Path.clearOf_scrambles, Path.clearOf_descrambles, ← or_and_right] at ht
    rw [contexts, if_neg ht.2, Path.clearOf_owner]
    exact h.pathContext d p y hp ht.1
  case twoPaths =>
    intro y hy
    obtain ⟨hyx, same⟩ := used hy
    obtain ⟨⟨d, p, hp, htp, onlyP⟩, f, q, hq, htq, onlyQ⟩ := h.twoPaths y (same ▸ hy)
    refine ⟨⟨d, _, cleared hp, Path.clearOf_scrambles.mpr ⟨htp, hyx⟩, fun e r hr htr => ?_⟩,
      f, _, cleared hq, Path.clearOf_descrambles.mpr ⟨htq, hyx⟩, fun e r hr htr => ?_⟩
    · obtain ⟨old, hold, rfl⟩ := path hr
      exact onlyP e old hold (Path.clearOf_scrambles.mp htr).1
    · obtain ⟨old, hold, rfl⟩ := path hr
      exact onlyQ e old hold (Path.clearOf_descrambles.mp htr).1

end Fallen

/-- A key wait that runs out falls back to clear or fails the call (R130, R131, R151). -/
theorem State.callsWired.keyWaitExpiry {s : State} (hw : s.wired) (h : s.callsWired) (x : CtxId) :
    ∃ t, exec (.keyWaitExpiry x) s = .next t ∧ t.callsWired := by
  by_cases due : s.keyWaitDue x = true
  case neg => exact ⟨s, congrArg Host.Outcome.next (if_neg due), h⟩
  case pos =>
    obtain ⟨w, hmem, hwx⟩ := List.any_eq_true.mp due
    obtain ⟨hwx, h0⟩ : w.ctx = x ∧ w.remaining = 0 := by simpa using hwx
    have waits : (s.context x).state = .keyWait := (h.queued.1 x).mp ⟨w, hmem, hwx⟩
    obtain ⟨c, ⟨i, hc⟩, call, hx⟩ := h.contextCall x (by rw [waits]; nofun)
    obtain ⟨e, he, -, -⟩ := hw.callEntry i c hc
    refine ⟨_, exec_keyWaitExpiry_due hw hmem hwx h0 call hc he, ?_⟩
    split
    case isTrue =>
      rw [State.fallBack_eq (hw.findCall hc) hc]
      exact (State.spares.raise _ _).callsWired (h.clearFallen hw hc hx waits)
    case isFalse => exact h.failCall hw hc hx

end Sys2Proof.Machine

/-!
PROOFS. A call on the point of being connected: its paths, its contexts and its wait for a key agree (O60; R124 to R128).
-/

namespace Sys2Proof.Machine

/-! ## What is laid down -/

/-- A context set up for its plan waits if it is a STATION one, and is ACTIVE otherwise. -/
theorem Context.planned_state (held : Table (Option Key) 32) (id : CallId) (plan : CtxPlan) :
    (Context.planned held id plan).state = if plan.far = .station then .keyWait else .active := by
  unfold Context.planned
  cases plan.far <;> rfl

theorem Context.planned_fieldsWell (held : Table (Option Key) 32) (id : CallId) (plan : CtxPlan) :
    (Context.planned held id plan).fieldsWell := by
  unfold Context.planned
  cases plan.far with
  | station => exact ⟨nofun, fun _ => rfl, fun _ => ⟨rfl, rfl, rfl⟩, nofun⟩
  | trunk => exact ⟨nofun, fun _ => rfl, nofun, fun _ => ⟨rfl, rfl, rfl⟩⟩

/-- A test that one item of a list passes. -/
theorem exists_only_of_countP_one {α : Type} {test : α → Bool} {as : List α} (h : as.countP test = 1) :
    ∃ a ∈ as, test a = true ∧ ∀ b ∈ as, test b = true → b = a := by
  rw [List.countP_eq_length_filter, List.length_eq_one_iff] at h
  obtain ⟨a, ha⟩ := h
  have mem : ∀ b, b ∈ as ∧ test b = true ↔ b = a := fun b => by rw [← List.mem_filter, ha, List.mem_singleton]
  exact ⟨a, ((mem a).mpr rfl).1, ((mem a).mpr rfl).2, fun b hb ht => (mem b).mp ⟨hb, ht⟩⟩

section Laid

variable {s : State} {i : Fin 128} {c : Call} {paths : List PathPlan} {ctxs : List CtxPlan}

/-- The context is one taken for a STATION plan. -/
def State.takesStation (s : State) (ctxs : List CtxPlan) (x : CtxId) : Prop :=
  ∃ plan, (x, plan) ∈ s.freeIds.zip ctxs ∧ plan.far = .station

theorem State.takesStation_mem {x : CtxId} (h : s.takesStation ctxs x) : x ∈ s.takenIds ctxs := by
  obtain ⟨plan, hp, -⟩ := h
  rw [State.takenIds, ← map_fst_zip_eq_take]
  exact List.mem_map.mpr ⟨_, hp, rfl⟩

/-- At most one context is taken for a STATION plan (R125, step 3). -/
theorem State.accepts.oneStation (a : s.accepts i c paths ctxs) {x y : CtxId} (hx : s.takesStation ctxs x)
    (hy : s.takesStation ctxs y) : x = y := by
  obtain ⟨p, hp, hps⟩ := hx
  obtain ⟨q, hq, hqs⟩ := hy
  obtain ⟨-, stations, -⟩ := plansAgree_iff.mp a.agree
  have few := (countP_isStation_zip_le s.freeIds ctxs).trans stations
  have some_one : 0 < (s.freeIds.zip ctxs).countP fun r => r.2.isStation :=
    List.countP_pos_iff.mpr ⟨_, hp, decide_eq_true hps⟩
  obtain ⟨r, -, -, only⟩ := exists_only_of_countP_one (Nat.le_antisymm few some_one)
  exact congrArg Prod.fst ((only _ hp (decide_eq_true hps)).trans (only _ hq (decide_eq_true hqs)).symm)

/-- A taken context waits when it is a STATION one, and is ACTIVE otherwise (R126, R127). -/
theorem State.laid_context_state {x : CtxId} (hx : x ∈ s.takenIds ctxs) :
    (s.takesStation ctxs x → ((s.laid i c paths ctxs).context x).state = .keyWait) ∧
      (¬ s.takesStation ctxs x → ((s.laid i c paths ctxs).context x).state = .active) := by
  constructor
  · rintro ⟨plan, hp, hs⟩
    rw [State.laid_context hp, Context.planned_state, if_pos hs]
  · obtain ⟨plan, hp⟩ := State.exists_plan hx
    intro hn
    rw [State.laid_context hp, Context.planned_state, if_neg fun hs => hn ⟨plan, hp, hs⟩]

theorem State.laid_context_call {x : CtxId} (hx : x ∈ s.takenIds ctxs) :
    ((s.laid i c paths ctxs).context x).call = some c.id := by
  obtain ⟨plan, hp⟩ := State.exists_plan hx
  rw [State.laid_context hp]
  exact (Context.planned_fields _ _ _).1

/-- A path of connection memory is one of the plans', or stood there before and no plan is for its destination (R127). -/
theorem State.accepts.laid_path (a : s.accepts i c paths ctxs) {d : SlotNo} {q : Path}
    (hq : (s.laid i c paths ctxs).connections.get d = some q) :
    (∃ p ∈ paths, p.dest = d ∧ q = ⟨p.source, p.transform.install (s.takenIds ctxs), c.id⟩) ∨
      s.connections.get d = some q := by
  by_cases hd : ∀ p ∈ paths, p.dest ≠ d
  · exact .inr (State.laid_connections_ne hd ▸ hq)
  · push Not at hd
    obtain ⟨p, hp, rfl⟩ := hd
    exact .inl ⟨p, hp, rfl, Option.some.inj (hq.symm.trans (a.laid_connections hp))⟩

/-- A transform over a context is that of a plan naming the context's specification (R124). -/
theorem State.accepts.install_scrambles (a : s.accepts i c paths ctxs) {p : PathPlan} (hp : p ∈ paths) {x : CtxId} :
    p.transform.install (s.takenIds ctxs) = .scramble x ↔
      ∃ j, p.transform = .scramble j ∧ (s.takenIds ctxs)[j]? = some x := by
  obtain ⟨pass, mute, scrambles, descrambles⟩ := a.install hp
  cases ht : p.transform with
  | pass => simp [TransformSpec.install]
  | mute => simp [TransformSpec.install]
  | scramble j =>
    obtain ⟨y, hy, hi⟩ := scrambles j ht
    rw [← ht, hi]
    simp [ht, hy]
  | descramble j =>
    obtain ⟨y, hy, hi⟩ := descrambles j ht
    rw [← ht, hi]
    simp [ht]

theorem State.accepts.install_descrambles (a : s.accepts i c paths ctxs) {p : PathPlan} (hp : p ∈ paths) {x : CtxId} :
    p.transform.install (s.takenIds ctxs) = .descramble x ↔
      ∃ j, p.transform = .descramble j ∧ (s.takenIds ctxs)[j]? = some x := by
  obtain ⟨pass, mute, scrambles, descrambles⟩ := a.install hp
  cases ht : p.transform with
  | pass => simp [TransformSpec.install]
  | mute => simp [TransformSpec.install]
  | scramble j =>
    obtain ⟨y, hy, hi⟩ := scrambles j ht
    rw [← ht, hi]
    simp [ht]
  | descramble j =>
    obtain ⟨y, hy, hi⟩ := descrambles j ht
    rw [← ht, hi]
    simp [ht, hy]

/-- Exactly one path of connection memory has the transform. -/
def State.onePath (s : State) (f : Transform) : Prop :=
  ∃ d p, s.connections.get d = some p ∧ p.transform = f ∧ ∀ e q, s.connections.get e = some q → q.transform = f → e = d

/-- The one plan that names a specification is the one path over its context; `spec` and `ofCtx` are SCRAMBLE or
DESCRAMBLE. -/
theorem State.accepts.laid_only (a : s.accepts i c paths ctxs) {spec : Nat → TransformSpec} {ofCtx : CtxId → Transform}
    (install : ∀ p ∈ paths, ∀ x, p.transform.install (s.takenIds ctxs) = ofCtx x ↔
      ∃ j, p.transform = spec j ∧ (s.takenIds ctxs)[j]? = some x)
    (one : ∀ j, j < ctxs.length → paths.countP (fun p => decide (p.transform = spec j)) = 1) {x : CtxId}
    (old : ∀ d q, s.connections.get d = some q → q.transform ≠ ofCtx x) (hx : x ∈ s.takenIds ctxs) :
    (s.laid i c paths ctxs).onePath (ofCtx x) := by
  obtain ⟨j, hj⟩ := List.mem_iff_getElem?.mp hx
  have lt : j < (s.takenIds ctxs).length := (List.getElem?_eq_some_iff.mp hj).1
  obtain ⟨p, hp, hps, only⟩ := exists_only_of_countP_one (one j (a.takenIds_length ▸ lt))
  refine ⟨p.dest, _, a.laid_connections hp, (install p hp x).mpr ⟨j, of_decide_eq_true hps, hj⟩, fun e r hr hrx => ?_⟩
  rcases a.laid_path hr with ⟨q, hq, rfl, rfl⟩ | hr
  · obtain ⟨k, hqk, hk⟩ := (install q hq x).mp hrx
    have distinct : (s.takenIds ctxs).Nodup := s.freeIds_nodup.sublist (List.take_sublist _ _)
    obtain rfl : j = k := (List.getElem?_inj lt distinct).mp (hj.trans hk.symm)
    rw [only q hq (decide_eq_true hqk)]
  · exact absurd hrx (old e r hr)

end Laid

/-! ## The call begun -/

section Begun

variable {s : State} {i : Fin 128} {c : Call} {paths : List PathPlan} {ctxs : List CtxPlan} {items : List WaitItem}
  {v : Supplier}

/-- The call with its paths and contexts, CONNECTING if a context waits (R127, R128). -/
def State.begunCall (s : State) (c : Call) (paths : List PathPlan) (ctxs : List CtxPlan) (waits : Bool) : Call :=
  Call.settled { c with
    contexts := s.takenIds ctxs, paths := paths.map PathPlan.dest, requested := ctxs.length } waits

/-- The state laid down with the call settled, its port in the call, and contexts that wait at the tail of the queue. -/
def State.begun (s : State) (i : Fin 128) (c : Call) (paths : List PathPlan) (ctxs : List CtxPlan)
    (items : List WaitItem) (v : Supplier) : State :=
  State.putPort c.port { s.port c.port with dial := .inCall }
    (State.putCall i (some (s.begunCall c paths ctxs (!items.isEmpty)))
      { s.laid i c paths ctxs with waitQueue := s.waitQueue ++ items, supplier := v })

theorem State.calls_begun (j : Fin 128) : (s.begun i c paths ctxs items v).calls.get j =
    if j = i then some (s.begunCall c paths ctxs (!items.isEmpty)) else s.calls.get j := by
  refine (Table.get_set _ _ _ _).trans ?_
  split
  case isTrue => rfl
  case isFalse h => exact (Table.get_set _ _ _ _).trans (if_neg h)

theorem State.port_begun (p : Port) : (s.begun i c paths ctxs items v).port p =
    if p = c.port then { s.port c.port with dial := .inCall } else s.port p := State.port_putPort _ _ _ _

theorem State.begunCall_state (waits : Bool) :
    (s.begunCall c paths ctxs waits).state = if waits then .connecting else .connected := by
  cases waits <;> rfl

theorem State.begunCall_wires (waits : Bool) : (s.begunCall c paths ctxs waits).id = c.id ∧
    (s.begunCall c paths ctxs waits).port = c.port ∧ (s.begunCall c paths ctxs waits).ext = c.ext ∧
    (s.begunCall c paths ctxs waits).paths = paths.map PathPlan.dest ∧
    (s.begunCall c paths ctxs waits).contexts = s.takenIds ctxs := by
  cases waits <;> exact ⟨rfl, rfl, rfl, rfl, rfl⟩

/-- The contexts that join the wait queue are those taken for STATION plans, and the supplier then leaves none waiting if
it is RUNNING. -/
structure State.joins (s : State) (ctxs : List CtxPlan) (items : List WaitItem) (v : Supplier) : Prop where
  stations : ∀ x, x ∈ items.map WaitItem.ctx ↔ s.takesStation ctxs x
  distinct : (items.map WaitItem.ctx).Nodup
  running : v = .running → s.waitQueue ++ items = []

theorem State.begunCall_fields (ht : c.connectedTime = none) (waits : Bool) :
    ¬ ((s.begunCall c paths ctxs waits).state = .requested ∨ (s.begunCall c paths ctxs waits).state = .offered) ∧
      ((s.begunCall c paths ctxs waits).connectedTime.isSome ↔
        (s.begunCall c paths ctxs waits).state = .connected ∨ (s.begunCall c paths ctxs waits).state = .held) := by
  cases waits <;> simp [State.begunCall, Call.settled, Call.completed, ht]

theorem State.context_begun (x : CtxId) :
    (s.begun i c paths ctxs items v).context x = (s.laid i c paths ctxs).context x := rfl

theorem State.connections_begun :
    (s.begun i c paths ctxs items v).connections = (s.laid i c paths ctxs).connections := rfl

/-- A call not yet connected has neither paths nor contexts nor a time. -/
theorem State.callsWired.early (h : s.callsWired) (hc : s.inTable c) (hs : c.state = .requested ∨ c.state = .offered) :
    c.paths = [] ∧ c.contexts = [] ∧ c.connectedTime = none := by
  obtain ⟨early, -, time⟩ := h.callFields c hc
  obtain ⟨noPaths, noContexts⟩ := early hs
  refine ⟨noPaths, noContexts, ?_⟩
  rw [← Option.not_isSome_iff_eq_none, time]
  rcases hs with hs | hs <;> simp [hs]

/-! ### The table -/

/-- The call begun stands in its entry. -/
theorem State.begun_inTable :
    (s.begun i c paths ctxs items v).inTable (s.begunCall c paths ctxs (!items.isEmpty)) :=
  ⟨i, by rw [State.calls_begun, if_pos rfl]⟩

/-- A context taken names the call begun. -/
theorem State.begun_context_call {x : CtxId} (hx : x ∈ s.takenIds ctxs) : ((s.begun i c paths ctxs items v).context x).call =
    some (s.begunCall c paths ctxs (!items.isEmpty)).id := by
  obtain ⟨id, -⟩ := State.begunCall_wires (s := s) (c := c) (paths := paths) (ctxs := ctxs) (!items.isEmpty)
  rw [State.context_begun, State.laid_context_call hx, id]

/-! ### Before and after -/

/-- A context in use before stands: it is not taken. -/
theorem State.begun_context {x : CtxId} (hx : (s.context x).state ≠ .free) :
    (s.begun i c paths ctxs items v).context x = s.context x := by
  rw [State.context_begun, State.laid_context_ne fun ht => hx (State.mem_takenIds ht)]

/-- No path stood over a context taken. -/
theorem State.callsWired.taken_unnamed (h : s.callsWired) {x : CtxId} (hx : x ∈ s.takenIds ctxs) {d : SlotNo} {q : Path}
    (hq : s.connections.get d = some q) : ¬ (q.transform = .scramble x ∨ q.transform = .descramble x) := by
  intro ht
  have call := h.pathContext d q x hq ht
  rw [(h.contextFields x).free (State.mem_takenIds hx)] at call
  cases call

/-! ### What waits -/

/-- The contexts of the call begun fit its state: CONNECTING with the STATION one waiting, or CONNECTED (R127, R128). -/
theorem State.joins.begun_holds (j : s.joins ctxs items v) {x : CtxId} (hx : x ∈ s.takenIds ctxs) :
    (s.begunCall c paths ctxs (!items.isEmpty)).state.holds ((s.begun i c paths ctxs items v).context x).state := by
  obtain ⟨waits, runs⟩ := State.laid_context_state (i := i) (c := c) (paths := paths) hx
  rw [State.begunCall_state, State.context_begun]
  by_cases hst : s.takesStation ctxs x
  · have joined := (j.stations x).mpr hst
    rw [waits hst]
    cases items with
    | nil => cases joined
    | cons => exact .inr rfl
  · rw [runs hst]
    cases (!items.isEmpty)
    · rfl
    · exact .inl rfl

/-- One context of the call begun waits while it is CONNECTING, and no other (R125, R128). -/
theorem State.accepts.begun_oneWaits (a : s.accepts i c paths ctxs) (j : s.joins ctxs items v) :
    ((s.begunCall c paths ctxs (!items.isEmpty)).state = .connecting →
      ∃ x, x ∈ s.takenIds ctxs ∧ ((s.begun i c paths ctxs items v).context x).state = .keyWait) ∧
    ∀ x y, x ∈ s.takenIds ctxs → y ∈ s.takenIds ctxs → ((s.begun i c paths ctxs items v).context x).state = .keyWait →
      ((s.begun i c paths ctxs items v).context y).state = .keyWait → x = y := by
  have station : ∀ {z}, z ∈ s.takenIds ctxs → ((s.begun i c paths ctxs items v).context z).state = .keyWait →
      s.takesStation ctxs z := by
    intro z hz hzw
    by_contra hn
    rw [State.context_begun, (State.laid_context_state hz).2 hn] at hzw
    cases hzw
  refine ⟨fun hw => ?_, fun x y hx hy hxw hyw => a.oneStation (station hx hxw) (station hy hyw)⟩
  rw [State.begunCall_state] at hw
  cases items with
  | nil => cases hw
  | cons w ws =>
    have stationOf := (j.stations w.ctx).mp List.mem_cons_self
    have taken := State.takesStation_mem stationOf
    refine ⟨w.ctx, taken, ?_⟩
    rw [State.context_begun, (State.laid_context_state taken).1 stationOf]

/-- The wait queue holds the contexts in KEY_WAIT, those that join it with them (R150). -/
theorem State.callsWired.begun_queued (h : s.callsWired) (j : s.joins ctxs items v) :
    (∀ x, (∃ w ∈ (s.begun i c paths ctxs items v).waitQueue, w.ctx = x) ↔
        ((s.begun i c paths ctxs items v).context x).state = .keyWait) ∧
      ((s.begun i c paths ctxs items v).waitQueue.map WaitItem.ctx).Nodup := by
  have queue : (s.begun i c paths ctxs items v).waitQueue.map WaitItem.ctx =
      s.waitQueue.map WaitItem.ctx ++ items.map WaitItem.ctx := List.map_append
  have old : ∀ x, x ∈ s.waitQueue.map WaitItem.ctx ↔ (s.context x).state = .keyWait := fun x =>
    State.mem_queue_iff.symm.trans (h.queued.1 x)
  have joined : ∀ x, (∃ w ∈ (s.begun i c paths ctxs items v).waitQueue, w.ctx = x) ↔
      (s.context x).state = .keyWait ∨ s.takesStation ctxs x := fun x => by
    rw [State.mem_queue_iff, queue, List.mem_append, old, j.stations]
  refine ⟨fun x => (joined x).trans ?_, ?_⟩
  · rw [State.context_begun]
    by_cases hx : x ∈ s.takenIds ctxs
    · obtain ⟨waits, runs⟩ := State.laid_context_state (i := i) (c := c) (paths := paths) hx
      rw [State.mem_takenIds hx]
      by_cases hst : s.takesStation ctxs x
      · exact iff_of_true (.inr hst) (waits hst)
      · rw [runs hst]
        simp [hst]
    · rw [State.laid_context_ne hx, or_iff_left fun hst => hx (State.takesStation_mem hst)]
  · rw [queue]
    refine h.queued.2.append j.distinct fun x hx hi => ?_
    have waits := (old x).mp hx
    rw [State.mem_takenIds (State.takesStation_mem ((j.stations x).mp hi))] at waits
    cases waits

/-! ### The table and connection memory of an accepted request -/

section Accepted

variable (a : s.accepts i c paths ctxs)
include a

/-- A call of the table is the call begun, or another that stands as it did. -/
theorem State.accepts.begun_before {d : Call} (hd : (s.begun i c paths ctxs items v).inTable d) :
    d = s.begunCall c paths ctxs (!items.isEmpty) ∨ s.inTable d ∧ d.id ≠ c.id := by
  obtain ⟨n, hd⟩ := hd
  rw [State.calls_begun] at hd
  split at hd
  case isTrue => exact .inl (Option.some.inj hd).symm
  case isFalse hn => exact .inr ⟨⟨n, hd⟩, fun hid => hn (a.wired.idDistinct n i d c hd a.call hid)⟩

/-- A destination is that of a plan, or what it held stands (R127). -/
theorem State.accepts.begun_path {d : SlotNo} {q : Path} (hq : (s.begun i c paths ctxs items v).connections.get d = some q) :
    (∃ p ∈ paths, p.dest = d ∧ q = ⟨p.source, p.transform.install (s.takenIds ctxs), c.id⟩) ∨
      s.connections.get d = some q := a.laid_path hq

/-- A path over a context not taken stood before. -/
theorem State.accepts.begun_path_old {x : CtxId} (hx : x ∉ s.takenIds ctxs) {d : SlotNo} {q : Path}
    (hq : (s.begun i c paths ctxs items v).connections.get d = some q)
    (ht : q.transform = .scramble x ∨ q.transform = .descramble x) : s.connections.get d = some q := by
  rcases a.begun_path hq with ⟨p, hp, rfl, rfl⟩ | hq
  · rw [a.install_scrambles hp, a.install_descrambles hp] at ht
    rcases ht with ⟨n, -, hn⟩ | ⟨n, -, hn⟩ <;> exact absurd (List.mem_of_getElem? hn) hx
  · exact hq

variable (h : s.callsWired) (hs : c.state = .requested ∨ c.state = .offered)
include h hs

/-- A call of before stands, or is the call begun. -/
theorem State.accepts.begun_after {d : Call} (hd : s.inTable d) : ∃ f, (s.begun i c paths ctxs items v).inTable f ∧
    f.id = d.id ∧ f.port = d.port ∧ f.ext = d.ext ∧ (∀ e ∈ d.paths, e ∈ f.paths) ∧ ∀ x ∈ d.contexts, x ∈ f.contexts := by
  obtain ⟨n, hd⟩ := hd
  by_cases hn : n = i
  · obtain rfl := Option.some.inj (hd.symm.trans (hn ▸ a.call))
    obtain ⟨noPaths, noContexts, -⟩ := h.early ⟨n, hd⟩ hs
    obtain ⟨id, port, ext, -⟩ := State.begunCall_wires (s := s) (c := d) (paths := paths) (ctxs := ctxs) (!items.isEmpty)
    exact ⟨_, State.begun_inTable, id, port, ext, by simp [noPaths], by simp [noContexts]⟩
  · exact ⟨d, ⟨n, by rw [State.calls_begun, if_neg hn, hd]⟩, rfl, rfl, rfl, fun _ => id, fun _ => id⟩

/-- The destinations asked for were unconnected: a call not yet connected owns no path (R125, step 7). -/
theorem State.accepts.unconnected {p : PathPlan} (hp : p ∈ paths) : s.connections.get p.dest = none := by
  by_contra hn
  obtain ⟨q, hq⟩ := Option.ne_none_iff_exists'.mp hn
  obtain ⟨-, -, slots, -⟩ := State.connectRefusal_none a.passes
  rw [State.slotTaken_iff, not_or] at slots
  have own : q.owner = c.id := by_contra fun ho => slots.2 ⟨p, hp, q, hq, ho⟩
  obtain ⟨d, hd, hid, hmem⟩ := h.pathOwner _ q hq
  obtain rfl := a.wired.inTable_unique hd ⟨i, a.call⟩ (hid.trans own)
  simp [(h.early hd hs).1] at hmem

/-- A path of before stands. -/
theorem State.accepts.begun_path_kept {d : SlotNo} {q : Path} (hq : s.connections.get d = some q) :
    (s.begun i c paths ctxs items v).connections.get d = some q := by
  rw [State.connections_begun, State.laid_connections_ne, hq]
  rintro p hp rfl
  exact nomatch (a.unconnected h hs hp).symm.trans hq

/-- Every context in use has one SCRAMBLE path and one DESCRAMBLE path (R125, step 3; R127). -/
theorem State.accepts.begun_twoPaths (x : CtxId) (hx : ((s.begun i c paths ctxs items v).context x).state ≠ .free) :
    (s.begun i c paths ctxs items v).onePath (.scramble x) ∧ (s.begun i c paths ctxs items v).onePath (.descramble x) := by
  by_cases hxt : x ∈ s.takenIds ctxs
  · obtain ⟨-, -, named⟩ := plansAgree_iff.mp a.agree
    have unnamed := fun d q => h.taken_unnamed (d := d) (q := q) hxt
    exact ⟨a.laid_only (fun p hp x => a.install_scrambles hp) (fun n hn => (named n hn).1)
        (fun d q hq ht => unnamed d q hq (.inl ht)) hxt,
      a.laid_only (fun p hp x => a.install_descrambles hp) (fun n hn => (named n hn).2)
        (fun d q hq ht => unnamed d q hq (.inr ht)) hxt⟩
  · rw [State.context_begun, State.laid_context_ne hxt] at hx
    obtain ⟨⟨d, p, hp, htp, onlyP⟩, f, q, hq, htq, onlyQ⟩ := h.twoPaths x hx
    exact ⟨⟨d, p, a.begun_path_kept h hs hp, htp, fun e r hr ht => onlyP e r (a.begun_path_old hxt hr (.inl ht)) ht⟩,
      f, q, a.begun_path_kept h hs hq, htq, fun e r hr ht => onlyQ e r (a.begun_path_old hxt hr (.inr ht)) ht⟩

end Accepted

/-- An accepted CONNECT CALL leaves paths, contexts and calls in agreement, before the serving pass. -/
theorem State.callsWired.begun (h : s.callsWired) (a : s.accepts i c paths ctxs) (few : ctxs.length ≤ 2)
    (hs : c.state = .requested ∨ c.state = .offered) (j : s.joins ctxs items v) :
    (s.begun i c paths ctxs items v).callsWired := by
  have found : s.inTable c := ⟨i, a.call⟩
  obtain ⟨-, -, noTime⟩ := h.early found hs
  obtain ⟨kid, kport, kext, kpaths, kcontexts⟩ :=
    State.begunCall_wires (s := s) (c := c) (paths := paths) (ctxs := ctxs) (!items.isEmpty)
  constructor
  case portCall =>
    intro p id hp
    have call : (s.port p).call = some id := by
      rw [State.port_begun] at hp
      split at hp
      case isTrue hpc => exact hpc ▸ hp
      case isFalse => exact hp
    obtain ⟨d, hd, rfl, hdp⟩ := h.portCall p id call
    obtain ⟨f, hf, fid, port, -⟩ := a.begun_after h hs hd
    exact ⟨f, hf, fid, port.trans hdp⟩
  case callPort =>
    intro d hd
    rw [State.port_begun]
    rcases a.begun_before hd with rfl | ⟨hd, hid⟩
    · rw [kport, if_pos rfl, kid, State.begunCall_state]
      refine ⟨(h.callPort c found).1, ?_⟩
      cases (!items.isEmpty) <;> rfl
    · have call := h.callPort d hd
      rw [if_neg fun hp => hid ?_]
      · exact call
      · exact Option.some.inj (call.1.symm.trans (hp ▸ (h.callPort c found).1))
  case liveCall =>
    intro ix e id he hl
    obtain ⟨d, hd, rfl, hdx⟩ := h.liveCall ix e id he hl
    obtain ⟨f, hf, fid, -, ext, -⟩ := a.begun_after h hs hd
    exact ⟨f, hf, fid, ext.trans hdx⟩
  case dialCall =>
    intro p hp
    rw [State.port_begun] at hp ⊢
    split at hp
    case isTrue hpc =>
      rw [if_pos hpc]
      exact Option.isSome_iff_exists.mpr ⟨_, (h.callPort c found).1⟩
    case isFalse hpc =>
      rw [if_neg hpc]
      exact h.dialCall p hp
  case callFields =>
    intro d hd
    rcases a.begun_before hd with rfl | ⟨hd, -⟩
    · obtain ⟨late, time⟩ := State.begunCall_fields (s := s) (paths := paths) (ctxs := ctxs) noTime (!items.isEmpty)
      obtain ⟨-, -, slots, -⟩ := State.connectRefusal_none a.passes
      rw [State.slotTaken_iff, not_or, not_not] at slots
      rw [kpaths, kcontexts, a.takenIds_length]
      exact ⟨fun hl => absurd hl late, ⟨s.freeIds_nodup.sublist (List.take_sublist _ _), few, slots.1⟩, time⟩
    · exact h.callFields d hd
  case contextFields =>
    intro x
    rw [State.context_begun]
    by_cases hx : x ∈ s.takenIds ctxs
    · obtain ⟨plan, hp⟩ := State.exists_plan hx
      exact State.laid_context hp ▸ Context.planned_fieldsWell _ _ _
    · exact State.laid_context_ne hx ▸ h.contextFields x
  case contextCall =>
    intro x hx
    by_cases hxt : x ∈ s.takenIds ctxs
    · exact ⟨_, State.begun_inTable, State.begun_context_call hxt, kcontexts ▸ hxt⟩
    · rw [State.context_begun, State.laid_context_ne hxt] at hx ⊢
      obtain ⟨d, hd, call, hxd⟩ := h.contextCall x hx
      obtain ⟨f, hf, fid, -, -, -, more⟩ := a.begun_after h hs hd
      exact ⟨f, hf, fid.symm ▸ call, more x hxd⟩
  case callContext =>
    intro d x hd hx
    rcases a.begun_before hd with rfl | ⟨hd, -⟩
    · rw [kcontexts] at hx
      exact ⟨State.begun_context_call hx, j.begun_holds hx⟩
    · rw [State.begun_context (h.notFree hd hx)]
      exact h.callContext d x hd hx
  case oneWaits =>
    intro d hd
    rcases a.begun_before hd with rfl | ⟨hd, -⟩
    · rw [kcontexts]
      exact a.begun_oneWaits j
    · have same : ∀ x ∈ d.contexts, (s.begun i c paths ctxs items v).context x = s.context x := fun x hx =>
        State.begun_context (h.notFree hd hx)
      obtain ⟨waits, one⟩ := h.oneWaits d hd
      refine ⟨fun hw => ?_, fun x y hx hy => ?_⟩
      · obtain ⟨x, hx, hxw⟩ := waits hw
        exact ⟨x, hx, same x hx ▸ hxw⟩
      · rw [same x hx, same y hy]
        exact one x y hx hy
  case queued => exact h.begun_queued j
  case running => exact j.running
  case pathOwner =>
    intro d q hq
    rcases a.begun_path hq with ⟨p, hp, rfl, rfl⟩ | hq
    · exact ⟨_, State.begun_inTable, kid, kpaths ▸ List.mem_map_of_mem hp⟩
    · obtain ⟨e, he, hid, hd⟩ := h.pathOwner d q hq
      obtain ⟨f, hf, fid, -, -, more, -⟩ := a.begun_after h hs he
      exact ⟨f, hf, fid.trans hid, more d hd⟩
  case callPath =>
    intro d e hd he
    rcases a.begun_before hd with rfl | ⟨hd, -⟩
    · rw [kpaths] at he
      obtain ⟨p, hp, rfl⟩ := List.mem_map.mp he
      exact ⟨_, a.laid_connections hp, kid.symm⟩
    · obtain ⟨q, hq, own⟩ := h.callPath d e hd he
      exact ⟨q, a.begun_path_kept h hs hq, own⟩
  case pathContext =>
    intro d q x hq ht
    by_cases hx : x ∈ s.takenIds ctxs
    · rcases a.begun_path hq with ⟨p, hp, rfl, rfl⟩ | hq
      · rw [State.context_begun, State.laid_context_call hx]
      · exact absurd ht (h.taken_unnamed hx hq)
    · rw [State.context_begun, State.laid_context_ne hx]
      exact h.pathContext d q x (a.begun_path_old hx hq ht) ht
  case twoPaths => exact a.begun_twoPaths h hs

end Begun

end Sys2Proof.Machine

/-!
PROOFS. CONNECT CALL leaves ports, calls, contexts and connection memory in agreement (O60; R125 to R128, R144, R145).
-/

namespace Sys2Proof.Machine

section Connect

variable {s : State} {i : Fin 128} {c : Call} {paths : List PathPlan} {ctxs : List CtxPlan}

/-- Whether a context's call stands depends on the ids of the table alone. -/
theorem State.hasCall_congr {s t : State} {x : CtxId} (hx : (t.context x).call = (s.context x).call)
    (hk : ∀ j, (t.calls.get j).map Call.id = (s.calls.get j).map Call.id) : t.hasCall x ↔ s.hasCall x := by
  have ids : ∀ u : State, u.hasCall x ↔ ∃ j id, (u.calls.get j).map Call.id = some id ∧ (u.context x).call = some id := by
    intro u
    constructor
    · rintro ⟨d, ⟨j, hd⟩, call⟩
      exact ⟨j, d.id, by rw [hd]; rfl, call⟩
    · rintro ⟨j, id, hid, call⟩
      obtain ⟨d, hd, rfl⟩ := Option.map_eq_some_iff.mp hid
      exact ⟨d, ⟨j, hd⟩, call⟩
  simp only [ids, hx, hk]

theorem State.kin.begun (a : s.accepts i c paths ctxs) (items : List WaitItem) (v : Supplier) :
    s.kin (s.begun i c paths ctxs items v) where
  entry ix := rel_refl Entry.kin.refl _
  port p := by
    rw [State.port_begun]
    split
    case isTrue hp => exact hp ▸ ⟨rfl, nofun, fun _ => .inr (.inr rfl)⟩
    case isFalse => exact .refl _
  call j := by
    rw [State.calls_begun]
    split
    case isTrue hj =>
      obtain ⟨id, port, ext, -⟩ :=
        State.begunCall_wires (s := s) (c := c) (paths := paths) (ctxs := ctxs) (!items.isEmpty)
      rw [hj, a.call]
      exact .some ⟨id, ext, port⟩
    case isFalse => exact rel_refl Call.kin.refl _

/-- With no STATION plan none of the taken contexts waits. -/
theorem State.laid_none_waits (hn : ∀ plan ∈ ctxs, plan.far ≠ .station) :
    (s.takenIds ctxs).any (s.laid i c paths ctxs).waiting = false := by
  refine List.any_eq_false.mpr fun x hx => ?_
  have active := (State.laid_context_state (i := i) (c := c) (paths := paths) hx).2 fun ⟨plan, hp, hs⟩ =>
    hn plan (List.of_mem_zip hp).2 hs
  simp [State.waiting, active]

section Station

variable (a : s.accepts i c paths ctxs) (h : s.callsWired) (hs : c.state = .requested ∨ c.state = .offered) {x : CtxId}
  (limit : Nat) {done : List CtxId} {t : State} (hd : ∀ y ∈ done, y = x ∨ (s.context y).state = .keyWait)
  (p : State.passed (some x) done ((s.laid i c paths ctxs).joined x limit) t)
include a h hs hd

/-- Of the contexts a pass has served only the STATION one is of the call. -/
theorem State.accepts.done_of_call {y : CtxId} (hy : y ∈ done)
    (call : ((s.laid i c paths ctxs).context y).call = some c.id) : y = x := by
  refine (hd y hy).resolve_right fun waits => ?_
  have used : (s.context y).state ≠ .free := by rw [waits]; nofun
  rw [State.laid_context_ne fun hyt => used (State.mem_takenIds hyt)] at call
  obtain ⟨d, hdt, dcall, hyd⟩ := h.contextCall y used
  obtain rfl := a.wired.inTable_unique hdt ⟨i, a.call⟩ (Option.some.inj (dcall.symm.trans call))
  have waiting := h.connecting hdt hyd waits
  rcases hs with hs | hs <;> rw [hs] at waiting <;> cases waiting

include p

/-- The pass leaves the call to its request. -/
theorem State.accepts.passed_call : t.calls.get i = some { c with
    contexts := s.takenIds ctxs, paths := paths.map PathPlan.dest, requested := ctxs.length } := by
  refine (p.call_of State.laid_call).trans (congrArg some (if_neg fun completes => ?_))
  obtain ⟨y, hy, own, call⟩ := State.completes_iff.mp completes
  exact own (congrArg some (a.done_of_call h hs hd hy call).symm)

variable (hx : s.takesStation ctxs x)
include hx

omit h hs hd in
/-- The call waits after the pass exactly when its STATION context has not been served. -/
theorem State.accepts.waits_iff : (s.takenIds ctxs).any t.waiting = decide (x ∉ done) := by
  have taken := State.takesStation_mem hx
  have station : ((s.laid i c paths ctxs).context x).state = .keyWait := (State.laid_context_state taken).1 hx
  rw [Bool.eq_iff_iff, List.any_eq_true, decide_eq_true_iff]
  constructor
  · rintro ⟨y, hy, hw⟩ hxd
    have waits : (t.context y).state = .keyWait := of_decide_eq_true hw
    rcases p.context_eq y with same | ⟨-, _, _, keyed⟩
    · by_cases hyx : y = x
      · have call : ((s.laid i c paths ctxs).context x).call = some c.id := State.laid_context_call taken
        obtain ⟨_, _, keyed⟩ := p.keyed x hxd ⟨_, ⟨i, State.laid_call⟩, call⟩
        rw [hyx, keyed] at waits
        cases waits
      · rw [same] at waits
        have active : ((s.laid i c paths ctxs).context y).state = .active :=
          (State.laid_context_state hy).2 fun hst => hyx (a.oneStation hst hx)
        cases active.symm.trans waits
    · rw [keyed] at waits
      cases waits
  · intro hxd
    refine ⟨x, taken, decide_eq_true ?_⟩
    rw [p.same x hxd]
    exact station

/-- The call is settled as a serving pass would complete it. -/
theorem State.accepts.passed_begun :
    State.passed none done (s.begun i c paths ctxs [⟨x, limit⟩] .suspended)
      ((t.putCall i (some (s.begunCall c paths ctxs ((s.takenIds ctxs).any t.waiting)))).putPort c.port
        { t.port c.port with dial := .inCall }) := by
  have calls : ∀ j, (s.begun i c paths ctxs [⟨x, limit⟩] .suspended).calls.get j =
      if j = i then some (s.begunCall c paths ctxs true) else s.calls.get j := fun j => State.calls_begun j
  have laidCalls : ∀ {j}, j ≠ i → ((s.laid i c paths ctxs).joined x limit).calls.get j = s.calls.get j := fun hj =>
    (Table.get_set _ _ _ _).trans (if_neg hj)
  have call : ((s.laid i c paths ctxs).context x).call = some c.id := State.laid_context_call (State.takesStation_mem hx)
  have stands : ∀ y, (s.begun i c paths ctxs [⟨x, limit⟩] .suspended).hasCall y ↔
      ((s.laid i c paths ctxs).joined x limit).hasCall y := by
    refine fun y => State.hasCall_congr rfl fun j => ?_
    rw [calls]
    split
    case isTrue hj => exact hj ▸ (congrArg (Option.map Call.id) State.laid_call).symm
    case isFalse hj => rw [laidCalls hj]
  refine ⟨?ports, p.connections, fun y hy => p.same y hy, fun y hy hc => p.keyed y hy ((stands y).mp hc),
    fun y hc => p.unkeyed y (mt (stands y).mpr hc), fun j => ?calls⟩
  case ports =>
    have port : t.port c.port = s.port c.port := congrArg (Table.get · c.port) p.ports
    show t.ports.set c.port _ = s.ports.set c.port _
    rw [port, p.ports]
    rfl
  case calls =>
    rw [calls]
    refine (State.putCall_get _ _ _).trans ?_
    split
    case isTrue hj =>
      obtain ⟨id, -⟩ := State.begunCall_wires (s := s) (c := c) (paths := paths) (ctxs := ctxs) true
      rw [a.waits_iff limit p hx, Option.map_some, id]
      have completes : (s.begun i c paths ctxs [⟨x, limit⟩] .suspended).completes none done c.id = true ↔ x ∈ done := by
        rw [State.completes_iff]
        constructor
        · rintro ⟨y, hy, -, call⟩
          exact a.done_of_call h hs hd hy call ▸ hy
        · exact fun hxd => ⟨x, hxd, nofun, call⟩
      by_cases hxd : x ∈ done
      · rw [if_pos (completes.mpr hxd), decide_eq_false (not_not.mpr hxd)]
        rfl
      · rw [if_neg (mt completes.mp hxd), decide_eq_true hxd]
    case isFalse hj =>
      rw [p.calls, laidCalls hj]
      cases hdj : s.calls.get j with
      | none => rfl
      | some d =>
        have other : d.id ≠ c.id := fun hid => hj (a.wired.idDistinct j i d c hdj a.call hid)
        have completes : ((s.laid i c paths ctxs).joined x limit).completes (some x) done d.id =
            (s.begun i c paths ctxs [⟨x, limit⟩] .suspended).completes none done d.id := by
          rw [Bool.eq_iff_iff, State.completes_iff, State.completes_iff]
          refine exists_congr fun y => and_congr_right fun hy => ⟨fun ⟨_, hyc⟩ => ⟨nofun, hyc⟩, fun ⟨_, hyc⟩ => ⟨?_, hyc⟩⟩
          rintro ⟨⟩
          exact other (Option.some.inj (hyc.symm.trans call))
        rw [Option.map_some, Option.map_some, completes]

end Station

/-- CONNECT CALL, its serving pass and the settlement of the call (R127, R128). -/
theorem State.callsWired.connect (h : s.callsWired) (a : s.accepts i c paths ctxs) (few : ctxs.length ≤ 2)
    (hs : c.state = .requested ∨ c.state = .offered) : (s.connect c paths ctxs).callsWired := by
  by_cases stations : ∀ plan ∈ ctxs, plan.far ≠ .station
  case pos =>
    have joins : s.joins ctxs [] s.supplier := by
      refine ⟨fun x => ?_, List.nodup_nil, fun hr => by rw [h.running hr]; rfl⟩
      refine iff_of_false List.not_mem_nil ?_
      rintro ⟨plan, hp, hf⟩
      exact stations plan (List.of_mem_zip hp).2 hf
    have laid := State.demanded_none (s := s) (i := i) (c := c) (paths := paths) stations
    rw [a.connect_eq (laid ▸ State.laid_call), laid, State.laid_none_waits stations]
    have begun := h.begun a few hs joins
    rw [State.begun, List.append_nil] at begun
    exact begun
  case neg =>
    push Not at stations
    obtain ⟨plan, hp, hf⟩ := stations
    obtain ⟨x, hxp⟩ := State.mem_plans_of_mem a hp
    have hx : s.takesStation ctxs x := ⟨plan, hxp, hf⟩
    have joins : ∀ limit v, v ≠ .running → s.joins ctxs [⟨x, limit⟩] v := fun limit v hv =>
      ⟨fun y => List.mem_singleton.trans ⟨fun hy => hy ▸ hx, fun hy => a.oneStation hy hx⟩, List.nodup_singleton x,
        fun hr => absurd hr hv⟩
    obtain ⟨e, he, -⟩ := a.wired.callEntry i c a.call
    have demanded := a.demanded_station he hxp hf
    generalize (s.classes.get e.cls).keyWaitLimit = limit at demanded
    split at demanded
    case isTrue stopped =>
      have station : ((s.laid i c paths ctxs).context x).state = .keyWait :=
        (State.laid_context_state (State.takesStation_mem hx)).1 hx
      have waits : (s.takenIds ctxs).any ((s.laid i c paths ctxs).joined x limit).waiting = true :=
        List.any_eq_true.mpr ⟨x, State.takesStation_mem hx, decide_eq_true station⟩
      rw [a.connect_eq ((congrArg (fun t : State => t.calls.get i) demanded).trans State.laid_call), demanded, waits]
      have begun := h.begun a few hs (joins limit .stopped nofun)
      rw [State.begun, ← stopped] at begun
      exact begun
    case isFalse =>
      have wired : ((s.laid i c paths ctxs).joined x limit).wired :=
        State.kin.wired (s := s.laid i c paths ctxs) (.of_eq rfl rfl rfl) ((State.kin.laid a.call).wired a.wired)
      obtain ⟨done, queue, running, p⟩ := wired.passed_servingPass (some x)
      rw [← demanded] at queue running p
      have joined : ∀ y ∈ done, y = x ∨ (s.context y).state = .keyWait := by
        intro y hy
        have mem : y ∈ (s.waitQueue ++ [WaitItem.mk x limit]).map WaitItem.ctx := queue ▸ List.mem_append_left _ hy
        rw [List.map_append, List.mem_append] at mem
        exact mem.symm.imp List.mem_singleton.mp fun hq => (h.queued.1 y).mp (State.mem_queue_iff.mpr hq)
      rw [a.connect_eq (a.passed_call h hs limit joined p)]
      refine (h.begun a few hs (joins limit .suspended nofun)).passed ((State.kin.begun a _ _).wired a.wired)
        (a.passed_begun h hs limit joined p hx) (fun ix => ?_) queue running
      exact State.kin.demanded.live? ix

end Connect

end Sys2Proof.Machine

/-!
PROOFS. Every command keeps ports, calls, contexts, wait queue, supplier and connection memory in agreement (O60).
-/

namespace Sys2Proof.Machine

section Requests

variable {s : State}

theorem State.callsWired.connectCallAct (hw : s.wired) (h : s.callsWired) (b : ConnectBody) :
    (connectCallAct b s).1.callsWired := by
  cases hc : s.call? b.call with
  | none => rw [connectCallAct_noSuch hc]; exact h
  | some c =>
    by_cases hs : c.state = .requested ∨ c.state = .offered
    case neg =>
      rw [not_or] at hs
      rw [connectCallAct_state hc hs.1 hs.2]
      exact h
    case pos =>
      cases hb : connectPlans? b with
      | none => rw [connectCallAct_badRequest hc hs hb]; exact h
      | some plans =>
        obtain ⟨paths, ctxs⟩ := plans
        cases hr : s.connectRefusal c paths ctxs with
        | some code => rw [connectCallAct_refused hc hs hb hr]; exact h
        | none =>
          obtain ⟨-, i, -, hi⟩ := State.call?_id hc
          obtain ⟨⟨-, -, few⟩, -, hx, -⟩ := connectPlans?_eq_some_iff.mp hb
          rw [connectCallAct_accepted hc hs hb hr]
          exact h.connect (.of_plans hw hi hb hr) (hx.length_eq ▸ few) hs

theorem State.callsWired.onCall (h : s.callsWired) (id : CallId) {act : Call → State → State × Answer}
    (ha : ∀ i c, s.calls.get i = some c → (act c s).1.callsWired) : (s.onCall id act).1.callsWired := by
  unfold State.onCall
  split
  case h_1 => exact h
  case h_2 c hc =>
    obtain ⟨i, hi⟩ := State.call?_some hc
    exact ha i c hi

theorem State.callsWired.onEntry (h : s.callsWired) (index : Word) {act : ExtIx → Entry → State → State × Answer}
    (ha : ∀ ix e, s.entry? ix = some e → s.spares (act ix e s).1) : (s.onEntry index act).1.callsWired :=
  (State.spares.onEntry index ha).callsWired h

/-- A supplier STOPPED asks nothing of the wait queue (R147). -/
theorem State.callsWired.stopDrawAct (h : s.callsWired) : (stopDrawAct s).1.callsWired :=
  h.putSupplier (v := .stopped) nofun

/-- A warm restart leaves no call (R19, R20, R118, R156). -/
theorem State.callsWired.warmBlocks (s : State) : s.warmBlocks.callsWired := by
  refine .of_none (fun p => ?_) (fun ix d hd => ?_) (fun i => Table.get_replicate _ _) (fun x => Table.get_replicate _ _) rfl
    fun d => Table.get_replicate _ _
  · rw [State.port_warmBlocks]
    exact ⟨rfl, rfl⟩
  · rw [State.entry_warmBlocks, Option.map_eq_some_iff] at hd
    obtain ⟨e, -, rfl⟩ := hd
    exact e.warm_liveCall _

end Requests

/-- The commands keep the agreement: those that create, connect, move, serve or end a call by a rule each, a restart because
it leaves no call, and the others because they spare the calls. -/
theorem exec_callsWired (i : Instr) {s : State} (hw : s.wired) (h : s.callsWired) :
    ∃ t, exec i s = .next t ∧ t.callsWired := by
  have same : ∀ {t}, s.spares t → t.callsWired := fun k => k.callsWired h
  cases i with
  | powerUp => exact ⟨_, rfl, .cold rfl rfl rfl rfl rfl rfl⟩
  | resetLine => exact ⟨_, rfl, .cold rfl rfl rfl rfl rfl rfl⟩
  | controlFrameReceived octets => exact ⟨_, rfl, same (.foldl State.spares.receiveOctet octets s)⟩
  | linkGap => exact ⟨_, rfl, same (.lineError _ s)⟩
  | unknownRequestKind kind tag body =>
    refine ⟨_, rfl, ?_⟩
    split
    case isTrue => exact h.serve hw _ fun _ _ ht => ht
    case isFalse => exact h
  | replyReleased =>
    refine ⟨_, rfl, ?_⟩
    split
    case h_2 => exact h
    case h_1 =>
      split
      case isTrue => exact same (.release _ s)
      case isFalse => exact h
  | transmitterFree => exact ⟨_, rfl, same (.of_eq rfl rfl rfl rfl rfl rfl rfl)⟩
  | enterExtension tag body => exact ⟨_, rfl, h.serve hw _ fun t _ ht => (State.spares.enterAct body t).callsWired ht⟩
  | eraseExtension tag index =>
    exact ⟨_, rfl, h.serve hw _ fun _ _ ht => ht.onEntry index fun _ _ he => .eraseEntry he⟩
  | unlockExtension tag index =>
    exact ⟨_, rfl, h.serve hw _ fun _ _ ht => ht.onEntry index fun _ _ he => .unlockEntry he⟩
  | readExtension tag index =>
    exact ⟨_, rfl, h.serve hw _ fun _ _ ht => ht.onEntry index fun _ _ _ => .of_eq rfl rfl rfl rfl rfl rfl rfl⟩
  | setClass tag body => exact ⟨_, rfl, h.serve hw _ fun t _ ht => (State.spares.setClassAct body t).callsWired ht⟩
  | readClass tag cls => exact ⟨_, rfl, h.serve hw _ fun t _ ht => (State.spares.readClassAct cls t).callsWired ht⟩
  | readPort tag port => exact ⟨_, rfl, h.serve hw _ fun _ _ ht => ht⟩
  | setScreen tag body => exact ⟨_, rfl, h.serve hw _ fun t _ ht => (State.spares.setScreenAct body t).callsWired ht⟩
  | readScreen tag screen => exact ⟨_, rfl, h.serve hw _ fun t _ ht => (State.spares.readScreenAct screen t).callsWired ht⟩
  | setLoop tag body => exact ⟨_, rfl, h.serve hw _ fun t _ ht => (State.spares.setLoopAct body t).callsWired ht⟩
  | sendToStation tag port body =>
    exact ⟨_, rfl, h.serve hw _ fun t _ ht => (State.spares.sendToStationAct port body t).callsWired ht⟩
  | setInterceptSet tag first last =>
    exact ⟨_, rfl, h.serve hw _ fun t _ ht => (State.spares.setInterceptAct true first last t).callsWired ht⟩
  | setInterceptClear tag first last =>
    exact ⟨_, rfl, h.serve hw _ fun t _ ht => (State.spares.setInterceptAct false first last t).callsWired ht⟩
  | openCall tag index verdict => exact ⟨_, rfl, h.serve hw _ fun _ _ ht => ht.openCallAct index verdict⟩
  | connectCall tag body => exact ⟨_, rfl, h.serve hw _ fun _ tw ht => ht.connectCallAct tw body⟩
  | holdCall tag call => exact ⟨_, rfl, h.serve hw _ fun _ tw ht => ht.onCall call fun _ _ => ht.holdCallAct tw⟩
  | retrieveCall tag call => exact ⟨_, rfl, h.serve hw _ fun _ tw ht => ht.onCall call fun _ _ => ht.retrieveCallAct tw⟩
  | refuseCall tag call => exact ⟨_, rfl, h.serve hw _ fun _ tw ht => ht.onCall call fun _ _ => ht.refuseCallAct tw⟩
  | clearCall tag call => exact ⟨_, rfl, h.serve hw _ fun _ tw ht => ht.onCall call fun _ _ hc => ht.endCall tw hc none⟩
  | readCall tag call => exact ⟨_, rfl, h.serve hw _ fun _ _ ht => ht.onCall call fun _ _ _ => ht⟩
  | depositKeys tag body => exact ⟨_, rfl, h.serve hw _ fun t _ ht => (State.spares.depositKeysAct body t).callsWired ht⟩
  | startDraw tag => exact ⟨_, rfl, h.serve hw _ fun _ tw ht => ht.startDrawAct tw⟩
  | stopDraw tag => exact ⟨_, rfl, h.serve hw _ fun _ _ ht => ht.stopDrawAct⟩
  | resumeDraw tag => exact ⟨_, rfl, h.serve hw _ fun _ tw ht => ht.resumeDrawAct tw⟩
  | holdKey tag slot key => exact ⟨_, rfl, h.serve hw _ fun t _ ht => (State.spares.holdKeyAct slot key t).callsWired ht⟩
  | dropKey tag slot => exact ⟨_, rfl, h.serve hw _ fun t _ ht => (State.spares.dropKeyAct slot t).callsWired ht⟩
  | readKeys tag => exact ⟨_, rfl, h.serve hw _ fun _ _ ht => ht⟩
  | readContext tag context =>
    exact ⟨_, rfl, h.serve hw _ fun t _ ht => (State.spares.readContextAct context t).callsWired ht⟩
  | setDevice tag body => exact ⟨_, rfl, h.serve hw _ fun t _ ht => (State.spares.setDeviceAct body t).callsWired ht⟩
  | readDevice tag => exact ⟨_, rfl, h.serve hw _ fun _ _ ht => ht⟩
  | restartCold tag => exact ⟨_, rfl, h.serve hw _ fun _ _ _ => .cold rfl rfl rfl rfl rfl rfl⟩
  | restartWarm tag =>
    exact ⟨_, rfl, h.serve hw _ fun t _ _ => State.spares.callsWired (s := t.warmBlocks) (.of_eq rfl rfl rfl rfl rfl rfl rfl)
      (.warmBlocks t)⟩
  | loopTurnStart loop => exact ⟨_, rfl, same (.putLoop loop _ s)⟩
  | blockSent loop => exact ⟨_, rfl, same (.blockSent loop s)⟩
  | replyWindowTimeout loop => exact ⟨_, rfl, same (.windowTimeout loop s)⟩
  | stationReply loop chars =>
    refine ⟨_, rfl, ?_⟩
    split
    case isTrue => exact h
    case isFalse => exact same (.stationReply loop chars s)
  | loopBreak loop => exact ⟨_, rfl, same (.loopBreak loop s)⟩
  | loopRestore loop => exact ⟨_, rfl, same (.loopRestore loop s)⟩
  | feature port body => exact ⟨_, rfl, h.takeBlock hw port _ fun t _ ht => (State.spares.raise _ t).callsWired ht⟩
  | register port number =>
    exact ⟨_, rfl, h.takeBlock hw port _ fun t _ ht => (State.spares.registerBlock port number t).callsWired ht⟩
  | answer port response =>
    exact ⟨_, rfl, h.takeBlock hw port _ fun t _ ht => (State.spares.answerBlock port response t).callsWired ht⟩
  | checkIn port => exact ⟨_, rfl, h.takeBlock hw port _ fun t _ ht => (State.spares.checkInBlock port t).callsWired ht⟩
  | answerTimeExpiry index => exact ⟨_, rfl, same (.answerExpiry index s)⟩
  | refreshExpiry index => exact ⟨_, rfl, same (.refreshEnd index s)⟩
  | lockExpiry index => exact ⟨_, rfl, same (.lockEnd index s)⟩
  | offHook port => exact ⟨_, rfl, h.takeBlock hw port _ fun t _ ht => (State.spares.offHookBlock port t).callsWired ht⟩
  | onHook port => exact ⟨_, rfl, h.takeBlock hw port _ fun t _ ht => (State.spares.onHookBlock port t).callsWired ht⟩
  | digits port endFlag codes => exact ⟨_, rfl, h.takeBlock hw port _ fun _ tw ht => ht.digitsBlock tw port endFlag codes⟩
  | interdigitExpiry port => exact ⟨_, rfl, h.interdigitEnd hw port⟩
  | keyWaitExpiry context => exact h.keyWaitExpiry hw context
  | framePulse sinceFrame sincePulse inputs =>
    refine ⟨_, rfl, ?_⟩
    split
    case h_1 => exact same (.acceptPulse sinceFrame inputs s)
    case h_2 => exact same (.restorePulse sincePulse inputs s)
  | pulseMissing inputs =>
    refine ⟨_, rfl, ?_⟩
    split
    case h_1 => exact same (.missPulse inputs s)
    case h_2 => exact h
  | holdoverFrame =>
    refine ⟨_, rfl, ?_⟩
    split
    case h_1 => exact same (.unservedFrame s)
    case h_2 => exact h
  | restoreRunTimeout =>
    refine ⟨_, rfl, ?_⟩
    split
    case h_1 => exact same (.timeBase _ s)
    case h_2 => exact h
  | linkFramingError => exact ⟨_, rfl, same (.lineError _ s)⟩
  | linkLengthError octet =>
    refine ⟨_, rfl, ?_⟩
    split
    case isTrue => exact same (.dropFrame _ s)
    case isFalse => exact h

/-- Settles O60: every command keeps the agreement beside the wiring, those that spare the calls all by one rule, and a call
created, connected, held or retrieved, served, fallen back to clear or ended by a rule each. -/
theorem callsContextsAndPathsStayWired : Obligations.CallsContextsAndPathsStayWired := by
  rintro s t ⟨hw, h⟩ ht
  refine ⟨bindingsAndCallsStayWired s t hw ht, ?_⟩
  unfold step at ht
  split at ht
  case h_1 => cases ht; exact h
  case h_2 c rest _ =>
    obtain ⟨u, hu, huw⟩ := exec_callsWired c
      (State.kin.wired (s := s) (t := { s with pending := rest }) (.of_eq rfl rfl rfl) hw)
      (State.spares.callsWired (s := s) (.of_eq rfl rfl rfl rfl rfl rfl rfl) h)
    cases hu.symm.trans ht
    exact huw

end Sys2Proof.Machine

/-!
PROOFS. The requests that write the key store: DEPOSIT KEYS, HOLD KEY and DROP KEY (O51; R142, R153, R154).
-/

namespace Sys2Proof.Machine

/-! ## The slots of a deposit (R142) -/

section Deposit

variable {position : Byte} {keys : List Key} {p : RingPos}

/-- The targets of a deposit: each key with the slot its place in the list is ahead of the position. -/
theorem mem_depositTargets (hp : p.val = position.toNat) {t : RingPos × Key} :
    t ∈ depositTargets position keys ↔ ∃ k, keys[k]? = some t.2 ∧ ringAhead p k = t.1 := by
  simp only [depositTargets, ← hp, List.mem_map, List.mem_zipIdx_iff_getElem?, Prod.exists]
  constructor
  · rintro ⟨key, k, hk, rfl⟩
    exact ⟨k, hk, rfl⟩
  · rintro ⟨k, hk, hslot⟩
    exact ⟨t.2, k, hk, Prod.ext hslot rfl⟩

/-- At most 128 keys have distinct slots, past the wrap at 127 too. -/
theorem depositTargets_distinct (few : keys.length ≤ 128) : ((depositTargets position keys).map Prod.fst).Nodup := by
  rw [depositTargets, List.map_map, List.Nodup, List.pairwise_map]
  have indices : keys.zipIdx.Pairwise fun a b => a.2 < b.2 := by
    rw [← List.pairwise_map (f := Prod.snd) (R := (· < ·)), List.zipIdx_map_snd]
    exact List.pairwise_lt_range'
  refine indices.imp_of_mem fun {a b} ha hb hab same => ?_
  have inList := (List.getElem?_eq_some_iff.mp (List.mem_zipIdx_iff_getElem?.mp hb)).1
  have slots : (position.toNat + a.2) % 128 = (position.toNat + b.2) % 128 := congrArg Fin.val same
  omega

/-- A target is DEVICE-owned when the slot of one of the keys is. -/
theorem any_fresh_depositTargets (hp : p.val = position.toNat) (ring : Table RingSlot 128) :
    (depositTargets position keys).any (fun t => (ring.get t.1).fresh) = true ↔
      ∃ k, k < keys.length ∧ (ring.get (ringAhead p k)).owner = .device := by
  simp only [List.any_eq_true, mem_depositTargets hp, RingSlot.fresh, decide_eq_true_eq]
  constructor
  · rintro ⟨t, ⟨k, hk, hslot⟩, fresh⟩
    exact ⟨k, (List.getElem?_eq_some_iff.mp hk).1, hslot ▸ fresh⟩
  · rintro ⟨k, hk, fresh⟩
    exact ⟨(ringAhead p k, keys[k]), ⟨k, List.getElem?_eq_getElem hk, rfl⟩, fresh⟩

/-- Each key of a deposit stands in its slot, DEVICE-owned. -/
theorem State.deposit_get (s : State) (hp : p.val = position.toNat) (few : keys.length ≤ 128) {k : Nat} {key : Key}
    (hk : keys[k]? = some key) :
    (s.deposit (depositTargets position keys)).ring.get (ringAhead p k) = ⟨.device, key⟩ :=
  Table.get_foldl_set_mem (f := Prod.fst) (g := fun t : RingPos × Key => RingSlot.mk .device t.2)
    (depositTargets_distinct few) ((mem_depositTargets (t := (ringAhead p k, key)) hp).mpr ⟨k, hk, rfl⟩) s.ring

/-- A deposit leaves every slot that is not a key's. -/
theorem State.deposit_get_ne (s : State) (hp : p.val = position.toNat) {i : RingPos}
    (other : ∀ k, k < keys.length → i ≠ ringAhead p k) :
    (s.deposit (depositTargets position keys)).ring.get i = s.ring.get i := by
  refine Table.get_foldl_set_ne (f := Prod.fst) (fun t ht same => ?_) s.ring
  obtain ⟨k, hk, hslot⟩ := (mem_depositTargets hp).mp ht
  exact other k (List.getElem?_eq_some_iff.mp hk).1 (hslot.trans same).symm

end Deposit

section Requests

variable {b : DepositBody} {slot : Byte}

theorem depositKeysAct_badRequest (bad : 127 < b.position.toNat ∨ b.keys.length = 0 ∨ 8 < b.keys.length) (s : State) :
    depositKeysAct b s = s.refuse .badRequest :=
  if_pos (bad.imp_right fun h => h.imp_left fun empty => by omega)

/-- A deposit of a good form is refused or carried out by its targets' owners. -/
theorem depositKeysAct_eq (hp : b.position.toNat ≤ 127) (one : 1 ≤ b.keys.length) (few : b.keys.length ≤ 8) (s : State) :
    depositKeysAct b s = if (depositTargets b.position b.keys).any (fun t => (s.ring.get t.1).fresh)
      then s.refuse .occupied else (s.deposit (depositTargets b.position b.keys)).done :=
  if_neg (by omega)

theorem holdKeyAct_badRequest (h : 31 < slot.toNat) (key : Key) (s : State) :
    holdKeyAct slot key s = s.refuse .badRequest := by
  rw [holdKeyAct, below_none h]

theorem holdKeyAct_eq {i : HeldSlot} (hi : i.val = slot.toNat) (key : Key) (s : State) :
    holdKeyAct slot key s = { s with heldKeys := s.heldKeys.set i (some key) }.done := by
  rw [holdKeyAct, below_eq hi]

theorem dropKeyAct_badRequest (h : 31 < slot.toNat) (s : State) : dropKeyAct slot s = s.refuse .badRequest := by
  rw [dropKeyAct, below_none h]

theorem dropKeyAct_eq {i : HeldSlot} (hi : i.val = slot.toNat) (s : State) :
    dropKeyAct slot s = { s with heldKeys := s.heldKeys.set i none }.done := by
  rw [dropKeyAct, below_eq hi]

end Requests

/-- Settles O51: the deposit by its form and by the owners of its slots, the held slots by their number. -/
theorem keyRequestsWriteTheStore : Obligations.KeyRequestsWriteTheStore := by
  refine ⟨fun tag b s ht => ⟨fun bad => ?badDeposit, fun hp one few => ⟨fun taken => ?occupied, fun free => ?deposits⟩⟩,
    fun tag slot key s ht => ⟨fun bad => ?badHold, fun i hi => ?holds⟩,
    fun tag slot s ht => ⟨fun bad => ?badDrop, fun i hi => ?drops⟩⟩
  case badDeposit => exact congrArg Host.Outcome.next (State.serve_refused rfl ht (depositKeysAct_badRequest bad _))
  case occupied =>
    refine congrArg Host.Outcome.next (State.serve_refused rfl ht ?_)
    rw [depositKeysAct_eq hp one few]
    exact if_pos ((any_fresh_depositTargets (p := ⟨b.position.toNat, by omega⟩) rfl s.ring).mpr taken)
  case deposits =>
    refine ⟨(s.deposit (depositTargets b.position b.keys)).ring,
      fun k key hk => s.deposit_get (p := ⟨b.position.toNat, by omega⟩) rfl (by omega) hk,
      fun i other => s.deposit_get_ne (p := ⟨b.position.toNat, by omega⟩) rfl fun k hk same =>
        other k hk (congrArg Fin.val same), ?_⟩
    refine congrArg Host.Outcome.next
      (State.serve_replied (t := s.deposit (depositTargets b.position b.keys)) rfl ht ?_)
    rw [depositKeysAct_eq hp one few]
    refine if_neg fun taken => ?_
    obtain ⟨k, hk, device⟩ := (any_fresh_depositTargets (p := ⟨b.position.toNat, by omega⟩) rfl s.ring).mp taken
    exact absurd ((free k hk).symm.trans device) (by decide)
  case badHold => exact congrArg Host.Outcome.next (State.serve_refused rfl ht (holdKeyAct_badRequest bad key _))
  case holds =>
    exact congrArg Host.Outcome.next (State.serve_replied (t := { s with heldKeys := s.heldKeys.set i (some key) }) rfl ht
      (holdKeyAct_eq hi key _))
  case badDrop => exact congrArg Host.Outcome.next (State.serve_refused rfl ht (dropKeyAct_badRequest bad _))
  case drops =>
    exact congrArg Host.Outcome.next (State.serve_replied (t := { s with heldKeys := s.heldKeys.set i none }) rfl ht
      (dropKeyAct_eq hi _))

end Sys2Proof.Machine

/-!
PROOFS. The serving pass in equations, and the requests that steer the supplier (O50; R129, R144, R146 to R149, R160).
-/

namespace Sys2Proof.Machine

section Pass

variable {s : State}

/-! ## What a pass does at the head of the wait queue (R144, R149) -/

/-- With an empty queue the supplier is RUNNING and nothing else changes. -/
theorem State.servingPass_nil (hw : s.waitQueue = []) (own : Option CtxId) :
    s.servingPass own = s.putSupplier .running := by
  rw [State.servingPass, hw, State.serveQueue, State.endPass_running hw]

/-- Without a key at the draw pointer everyone waits on, and the supplier is SUSPENDED with KEYS SHORT. -/
theorem State.servingPass_keyless (hw : s.waitQueue ≠ []) (hr : (s.ring.get s.pointer).owner = .host)
    (own : Option CtxId) : s.servingPass own =
      (s.putSupplier .suspended).raise (.keysShort s.waitQueue.length s.pointer s.freshCount) := by
  have stale : ¬ (s.ring.get s.pointer).fresh = true := by simp [RingSlot.fresh, hr]
  have idle : s.serveQueue own s.waitQueue = s := by
    cases hq : s.waitQueue with
    | nil => exact absurd hq hw
    | cons w rest => exact if_neg stale
  rw [State.servingPass, idle]
  exact if_neg (mt List.isEmpty_iff.mp hw)

/-- With a key at the draw pointer the head is delivered and the pass goes on. -/
theorem State.servingPass_cons {w : WaitItem} {rest : List WaitItem} (hw : s.waitQueue = w :: rest)
    (hr : (s.ring.get s.pointer).owner = .device) (own : Option CtxId) :
    s.servingPass own = (s.deliver own w.ctx rest).servingPass own := by
  have fresh : (s.ring.get s.pointer).fresh = true := decide_eq_true hr
  rw [State.servingPass, State.servingPass, State.deliver_waitQueue, hw, State.serveQueue, if_pos fresh]

/-- A pass leaves the call of its own request to the request. -/
theorem State.deliver_own (x : CtxId) (rest : List WaitItem) (s : State) :
    s.deliver (some x) x rest = (s.drewKey rest).keyStation x (s.ring.get s.pointer).key := if_pos rfl

/-- A delivery to any other context completes its call. -/
theorem State.deliver_other {own : Option CtxId} {x : CtxId} (h : own ≠ some x) (rest : List WaitItem) (s : State) :
    s.deliver own x rest = ((s.drewKey rest).keyStation x (s.ring.get s.pointer).key).completeServed x := if_neg h

/-! ## The call of a context served (R129) -/

/-- In a wired state the call of a context served is the one CONNECTED, with CALL CONNECTED. -/
theorem State.wired.completeServed_eq (h : s.wired) {x : CtxId} {i : Fin 128} {c : Call} (hc : s.calls.get i = some c)
    (hx : (s.context x).call = some c.id) :
    s.completeServed x = (s.putCall i (some c.completed)).raise (.callConnected c.id false 0) := by
  simp only [State.completeServed, hx, State.modCall_found (h.findCall hc) hc]
  rfl

/-- A context keyed and its call completed, in one: the call is CONNECTED beside the CALL KEY offered. -/
theorem State.wired.completeServed_keyStation (h : s.wired) {x : CtxId} {i : Fin 128} {c : Call} {e : Entry}
    (hc : s.calls.get i = some c) (he : s.entry? c.ext = some e) (hx : (s.context x).call = some c.id) (k : Key) :
    (s.keyStation x k).completeServed x =
      (((s.spendNonce.putContext x ((s.context x).keyed (.drawn s.nonce) k)).putCall i (some c.completed)).offer c.port
        (.callKey s.nonce (wrapKey s.nonce e.secret k))).raise (.callConnected c.id false 0) := by
  have wired : (s.keyStation x k).wired := (State.kin.keyStation x k s).wired h
  have call : ((s.keyStation x k).context x).call = some c.id := ((h.passed_keyStation x k).context_call x).trans hx
  have keyed := h.keyStation_eq hc he hx k
  have stands : (s.keyStation x k).calls.get i = some c := by
    rw [keyed, State.offer_calls]
    exact hc
  rw [wired.completeServed_eq stands call, keyed, ← (Beside.putCall i (some c.completed)).offer]

theorem State.wired.drewKey (h : s.wired) (rest : List WaitItem) : (s.drewKey rest).wired :=
  State.kin.wired (s := s) (.of_eq rfl rfl rfl) h

end Pass

/-! ## The requests (R146 to R148) -/

/-- START DRAW starts a STOPPED supplier, and serves the queue in every case. -/
theorem startDrawAct_eq (s : State) : startDrawAct s =
    ((s.putSupplier (if s.supplier = .stopped then .running else s.supplier)).servingPass none).done := by
  unfold startDrawAct
  split
  case h_1 stopped => rw [if_pos stopped]; rfl
  case h_2 running => rw [if_neg (by simp [running])]; rfl
  case h_3 suspended => rw [if_neg (by simp [suspended])]; rfl

theorem resumeDrawAct_stopped {s : State} (h : s.supplier = .stopped) : resumeDrawAct s = s.refuse .state := by
  simp only [resumeDrawAct, h]

theorem resumeDrawAct_eq {s : State} (h : s.supplier ≠ .stopped) : resumeDrawAct s = (s.servingPass none).done := by
  unfold resumeDrawAct
  split
  case h_1 stopped => exact absurd stopped h
  case h_2 | h_3 => rfl

/-- Settles O50: a pass by the head of the queue and the slot at the pointer, a delivery by whose request it is, and the
requests by the supplier. -/
theorem servingPassesAndDrawRequests : Obligations.ServingPassesAndDrawRequests := by
  refine ⟨⟨fun s own hw => State.servingPass_nil hw own, fun s own hw hr => State.servingPass_keyless hw hr own, ?other⟩,
    ?own, fun tag s ht => ?start, fun tag s ht => ?stop, fun tag s ht => ⟨fun stopped => ?refused, fun going => ?resume⟩⟩
  case other =>
    rintro s w rest drawn c i e nk m own hw hr wired hx hc he rfl rfl hown
    rw [State.servingPass_cons hw (by rw [hr]), State.deliver_other hown, hr,
      (wired.drewKey rest).completeServed_keyStation hc he hx drawn]
    rfl
  case own =>
    rintro s w rest drawn c i e nk m hw hr wired hx hc he rfl rfl
    rw [State.servingPass_cons hw (by rw [hr]), State.deliver_own, hr, (wired.drewKey rest).keyStation_eq hc he hx drawn]
    rfl
  case start =>
    refine congrArg Host.Outcome.next (State.serve_replied (t := State.servingPass none (s.putSupplier _)) rfl ht ?_)
    rw [startDrawAct_eq]
    exact congrArg State.done (State.servingPass_admitFrame _ (s.putSupplier _) none)
  case stop => exact congrArg Host.Outcome.next (State.serve_replied (t := s.putSupplier .stopped) rfl ht rfl)
  case refused => exact congrArg Host.Outcome.next (State.serve_refused rfl ht (resumeDrawAct_stopped stopped))
  case resume =>
    refine congrArg Host.Outcome.next (State.serve_replied (t := s.servingPass none) rfl ht ?_)
    rw [resumeDrawAct_eq (s := s.admitFrame _) going, State.servingPass_admitFrame]
    rfl

end Sys2Proof.Machine

/-!
PROOFS. The transmit side of a scramble context (O56; R31, R33 to R35, R37, R163 to R168).
-/

namespace Sys2Proof.Machine

/-! ## The octet emitted (R163 to R166, R168) -/

/-- The table of R163, from interval position 0 on. -/
theorem getElem?_beaconOctets (idle q info : Byte) {pos : Nat} (hp : pos < 8) :
    [150, 105, q, info, beaconCheck q info, idle, idle, idle][pos]? = some (beaconOctet idle q info pos) := by
  interval_cases pos <;> rfl

/-- The check of R37 in numbers: 255 less a remainder, which is never more. -/
theorem beaconCheck_eq (q info : Byte) :
    beaconCheck q info = BitVec.ofNat 8 (255 - (q.toNat + info.toNat) % 256) := by
  apply BitVec.eq_of_toNat_eq
  simp only [beaconCheck, BitVec.toNat_sub, BitVec.toNat_ofNat, BitVec.reduceToNat]
  omega

theorem infoOctet_parity (epoch : Word) (mode : Mode) : infoOctet (parity epoch) mode.isShuffle =
    BitVec.ofNat 8 (epoch.toNat % 2 + if mode = .shuffle then 2 else 0) := by
  cases mode <;> rfl

section Output

variable {t : TxPart} {b : Interval}

theorem TxPart.output_beacon (hp : t.n % b.frames < 8) (mode : Mode) (held : Bool) (idle input : Byte) :
    t.output b mode held idle input = beaconOctet idle (BitVec.ofNat 8 (t.n / b.frames))
      (infoOctet (parity t.epoch) mode.isShuffle) (t.n % b.frames) :=
  if_pos hp

theorem TxPart.output_voice (hp : 8 ≤ t.n % b.frames) (mode : Mode) (held : Bool) (idle input : Byte) :
    t.output b mode held idle input = t.voice mode held idle input :=
  if_neg (Nat.not_lt.mpr hp)

/-- Hold fill outside the beacon blocks (R168). -/
theorem TxPart.output_held (hp : 8 ≤ t.n % b.frames) (mode : Mode) (idle input : Byte) :
    t.output b mode true idle input = idle :=
  TxPart.output_voice hp mode true idle input

/-- SHUFFLE mode without an Emitting Block (R166). -/
theorem TxPart.output_shuffle_idle (hp : 8 ≤ t.n % b.frames) (he : t.emitting = none) (idle input : Byte) :
    t.output b .shuffle false idle input = idle := by
  rw [TxPart.output_voice hp]
  simp [TxPart.voice, he]

end Output

/-! ## The blocks and the counter (R165, R167) -/

/-- Gathering touches the two blocks only. -/
theorem TxPart.gather_keeps (t : TxPart) (b : Interval) (mode : Mode) (held : Bool) (input : Byte) :
    (t.gather b mode held input).n = t.n ∧ (t.gather b mode held input).epoch = t.epoch ∧
      (t.gather b mode held input).key = t.key := by
  unfold TxPart.gather
  split
  case h_1 => exact ⟨rfl, rfl, rfl⟩
  case h_2 => split_ifs <;> exact ⟨rfl, rfl, rfl⟩

theorem TxPart.handOver_midBlock {t : TxPart} (h : t.n % 8 ≠ 7) (b : Interval) : t.handOver b = t :=
  if_neg (by simpa [endsBlock] using h)

theorem TxPart.handOver_endBlock {t : TxPart} (h : t.n % 8 = 7) (b : Interval) : t.handOver b =
    { t with collected := [], emitting := if (t.n + 1) % b.frames = 0 then none else fullBlock t.collected } := by
  simp [TxPart.handOver, endsBlock, h, beaconNext]

/-- The hand-over touches the two blocks only. -/
theorem TxPart.handOver_keeps (t : TxPart) (b : Interval) :
    (t.handOver b).n = t.n ∧ (t.handOver b).epoch = t.epoch ∧ (t.handOver b).key = t.key := by
  unfold TxPart.handOver
  split <;> exact ⟨rfl, rfl, rfl⟩

theorem TxPart.advance_within {b : Interval} {t : TxPart} (h : t.n + 1 < 256 * b.frames) :
    t.advance b = { t with n := t.n + 1 } :=
  if_pos ((lt_lastFrame_iff b t.n).mpr h)

theorem TxPart.advance_wrap {b : Interval} {t : TxPart} (h : t.n + 1 = 256 * b.frames) :
    t.advance b = { t with n := 0, epoch := t.epoch + 1, key := nextKey t.key } :=
  if_neg (by rw [lt_lastFrame_iff]; omega)

/-- The counter's advance leaves the two blocks. -/
theorem TxPart.advance_keeps (b : Interval) (t : TxPart) :
    (t.advance b).collected = t.collected ∧ (t.advance b).emitting = t.emitting := by
  unfold TxPart.advance
  split <;> exact ⟨rfl, rfl⟩

section Shuffle

variable {t : TxPart} {b : Interval}

theorem TxPart.gather_beacon (hp : t.n % b.frames < 8) (held : Bool) (input : Byte) :
    t.gather b .shuffle held input = t :=
  if_pos hp

theorem TxPart.gather_held (hp : 8 ≤ t.n % b.frames) (input : Byte) :
    t.gather b .shuffle true input = { t with collected := [], emitting := none } :=
  if_neg (Nat.not_lt.mpr hp)

theorem TxPart.gather_active (hp : 8 ≤ t.n % b.frames) (input : Byte) :
    t.gather b .shuffle false input = { t with collected := t.collected ++ [input] } :=
  if_neg (Nat.not_lt.mpr hp)

/-- A block with a frame that collects nothing, or with a frame missed before, does not fill up. -/
theorem TxPart.length_gather_lt {held : Bool} (room : t.collected.length < 8)
    (h : held = true ∨ t.n % b.frames < 8 ∨ t.collected.length < 7) (input : Byte) :
    (t.gather b .shuffle held input).collected.length < 8 := by
  by_cases hp : t.n % b.frames < 8
  · rwa [TxPart.gather_beacon hp]
  · cases held with
    | true => simp [TxPart.gather_held (Nat.not_lt.mp hp)]
    | false =>
      have short : t.collected.length < 7 := by simpa [hp] using h
      simp only [TxPart.gather_active (Nat.not_lt.mp hp), List.length_append, List.length_singleton]
      omega

end Shuffle

theorem fullBlock_short {octets : List Byte} (h : octets.length < 8) : fullBlock octets = none :=
  dif_neg h.ne

theorem fullBlock_cells (block : Table Byte 8) : fullBlock block.cells = some block :=
  dif_pos block.size

/-! ## A served frame (R162) -/

section Step

variable {t : TxPart} {b : Interval} (mode : Mode) (held : Bool) (input : Byte)

theorem TxPart.step_within (h : t.n + 1 < 256 * b.frames) : (t.step b mode held input).n = t.n + 1 ∧
    (t.step b mode held input).epoch = t.epoch ∧ (t.step b mode held input).key = t.key := by
  obtain ⟨n, epoch, key⟩ := t.gather_keeps b mode held input
  obtain ⟨n', epoch', key'⟩ := (t.gather b mode held input).handOver_keeps b
  rw [TxPart.step, TxPart.advance_within (by rw [n', n]; exact h)]
  exact ⟨congrArg (· + 1) (n'.trans n), epoch'.trans epoch, key'.trans key⟩

theorem TxPart.step_wrap (h : t.n + 1 = 256 * b.frames) : (t.step b mode held input).n = 0 ∧
    (t.step b mode held input).epoch = t.epoch + 1 ∧ (t.step b mode held input).key = nextKey t.key := by
  obtain ⟨n, epoch, key⟩ := t.gather_keeps b mode held input
  obtain ⟨n', epoch', key'⟩ := (t.gather b mode held input).handOver_keeps b
  rw [TxPart.step, TxPart.advance_wrap (by rw [n', n]; exact h)]
  exact ⟨rfl, congrArg (· + 1) (epoch'.trans epoch), congrArg nextKey (key'.trans key)⟩

/-- Within a block a frame does to the two blocks what gathering does. -/
theorem TxPart.step_midBlock (h : t.n % 8 ≠ 7) :
    (t.step b mode held input).collected = (t.gather b mode held input).collected ∧
      (t.step b mode held input).emitting = (t.gather b mode held input).emitting := by
  obtain ⟨n, _, _⟩ := t.gather_keeps b mode held input
  rw [TxPart.step, TxPart.handOver_midBlock (by rwa [n])]
  exact TxPart.advance_keeps b _

/-- At the end of a block what has been gathered is handed over, and the Collected Block is emptied. -/
theorem TxPart.step_endBlock (h : t.n % 8 = 7) : (t.step b mode held input).collected = [] ∧
    (t.step b mode held input).emitting =
      if (t.n + 1) % b.frames = 0 then none else fullBlock (t.gather b mode held input).collected := by
  obtain ⟨n, _, _⟩ := t.gather_keeps b mode held input
  rw [TxPart.step, TxPart.handOver_endBlock (by rwa [n]), n]
  exact TxPart.advance_keeps b _

end Step

/-- Settles O56: the octet emitted by position, mode and hold, the counter, and the blocks within a block and at its
end. -/
theorem transmitSideEmits : Obligations.TransmitSideEmits := by
  refine ⟨?emits, ?gathers⟩
  case emits =>
    rintro t b mode held idle input q info rfl rfl
    refine ⟨fun hp => ?_, ?_, ?_, ?_, ?_, TxPart.step_within mode held input, TxPart.step_wrap mode held input⟩
    · rw [TxPart.output_beacon hp, infoOctet_parity, ← beaconCheck_eq]
      exact getElem?_beaconOctets idle _ _ hp
    · rintro hp rfl
      exact TxPart.output_held hp mode idle input
    · rintro hp rfl rfl
      exact TxPart.output_mask hp idle input
    · rintro hp rfl rfl he
      exact TxPart.output_shuffle_idle hp he idle input
    · rintro block w hp rfl rfl he rfl
      exact TxPart.output_shuffle hp he idle input
  case gathers =>
    rintro t u b held input room rfl
    refine ⟨fun mid => ?_, fun last => ?_⟩
    · obtain ⟨collected, emitting⟩ := TxPart.step_midBlock (b := b) .shuffle held input mid
      rw [collected, emitting]
      refine ⟨fun hp => ?_, ?_, ?_⟩
      · rw [TxPart.gather_beacon hp]
        exact ⟨rfl, rfl⟩
      · rintro hp rfl
        rw [TxPart.gather_held hp]
        exact ⟨rfl, rfl⟩
      · rintro hp rfl
        rw [TxPart.gather_active hp]
        exact ⟨rfl, rfl⟩
    · obtain ⟨collected, emitting⟩ := TxPart.step_endBlock (b := b) .shuffle held input last
      rw [collected, emitting]
      refine ⟨rfl, fun short => ?_, ?_⟩
      · split_ifs with beacon
        · rfl
        · exact fullBlock_short (TxPart.length_gather_lt (by omega) (short.resolve_left beacon) input)
      · rintro block beacon rfl hp cells
        rw [if_neg beacon, TxPart.gather_active hp, ← cells]
        exact fullBlock_cells block

end Sys2Proof.Machine

/-!
PROOFS. The receive side's alignment (O58, O59; R176 to R181, R185): each step of the frame in equations, then the search
from HUNT and the judgement of a side that has locked before.
-/

namespace Sys2Proof.Machine

/-! ## A good beacon of a mode (R37) -/

/-- A beacon of a mode with a correct check, in numbers. -/
def GoodBeacon (mode : Mode) (q info check : Byte) : Prop :=
  info.toNat < 4 ∧ check.toNat = 255 - (q.toNat + info.toNat) % 256 ∧ (mode = .mask ↔ info.toNat < 2)

theorem toNat_beaconCheck (q info : Byte) : (beaconCheck q info).toNat = 255 - (q.toNat + info.toNat) % 256 := by
  rw [beaconCheck_eq, BitVec.toNat_ofNat]
  omega

theorem infoMode_eq_iff (info : Byte) (mode : Mode) : infoMode info = mode ↔ (mode = .mask ↔ info.toNat < 2) := by
  unfold infoMode
  cases mode <;> split <;> simp_all

theorem goodBeacon_iff {mode : Mode} {q info check : Byte} :
    GoodBeacon mode q info check ↔ goodCheck q info check = true ∧ infoMode info = mode := by
  simp only [GoodBeacon, goodCheck, Bool.and_eq_true, decide_eq_true_eq, infoMode_eq_iff, ← BitVec.toNat_inj,
    toNat_beaconCheck, and_assoc]

/-- What refuses a candidate: its info octet, its check or its mode. -/
theorem not_goodBeacon_iff {mode : Mode} {q info check : Byte} : ¬ GoodBeacon mode q info check ↔
    info.toNat ≥ 4 ∨ check.toNat ≠ 255 - (q.toNat + info.toNat) % 256 ∨ (mode = .shuffle ↔ info.toNat < 2) := by
  have otherMode : ¬ (mode = .mask ↔ info.toNat < 2) ↔ (mode = .shuffle ↔ info.toNat < 2) := by
    cases mode <;> simp
  rw [GoodBeacon, not_and_or, not_and_or, otherMode, not_lt]

/-! ## The counter and the blocks of a frame (R176, R184) -/

@[simp] theorem RxPart.advance_state (b : Interval) (r : RxPart) : (r.advance b).state = r.state :=
  (r.advance_keeps b).1

@[simp] theorem RxPart.advance_miss (b : Interval) (r : RxPart) : (r.advance b).miss = r.miss :=
  (r.advance_keeps b).2.1

@[simp] theorem RxPart.advance_virgin (b : Interval) (r : RxPart) : (r.advance b).virgin = r.virgin := by
  unfold RxPart.advance
  split <;> rfl

@[simp] theorem RxPart.advance_parse (b : Interval) (r : RxPart) : (r.advance b).parse = r.parse := by
  unfold RxPart.advance
  split <;> rfl

@[simp] theorem RxPart.advance_window (b : Interval) (r : RxPart) : (r.advance b).window = r.window := by
  unfold RxPart.advance
  split <;> rfl

/-- Counter, epoch and keys after the advance, within the epoch and at its end. -/
theorem RxPart.advance_counter (b : Interval) (r : RxPart) :
    (r.n + 1 < 256 * b.frames → (r.advance b).n = r.n + 1 ∧ (r.advance b).epoch = r.epoch ∧
      (r.advance b).key = r.key ∧ (r.advance b).previous = r.previous) ∧
    (r.n + 1 = 256 * b.frames → (r.advance b).n = 0 ∧ (r.advance b).epoch = r.epoch + 1 ∧
      (r.advance b).key = nextKey r.key ∧ (r.advance b).previous = some r.key) := by
  refine ⟨fun h => ?_, fun h => ?_⟩
  · rw [RxPart.advance_within h]
    exact ⟨rfl, rfl, rfl, rfl⟩
  · rw [RxPart.advance_wrap h]
    exact ⟨rfl, rfl, rfl, rfl⟩

/-- A check frame neither ends a block nor the epoch. -/
theorem RxPart.frameEnd_check {b : Interval} {r : RxPart} {n : Nat} (h : r.n = n) (hn : n < 256 * b.frames)
    (hc : n % b.frames = 4) : (r.handOver b).advance b = { r with n := n + 1 } := by
  subst h
  have midBlock : r.n % 8 ≠ 7 ∧ r.n + 1 < 256 * b.frames := by
    cases b <;> simp only [Interval.frames] at hn hc ⊢ <;> omega
  rw [RxPart.handOver_midBlock midBlock.1, RxPart.advance_within midBlock.2]

/-- A side without blocks has none to hand over. -/
theorem RxPart.handOver_clearBlocks {r : RxPart} (h : r.clearBlocks = r) (b : Interval) : r.handOver b = r := by
  by_cases last : r.n % 8 = 7
  · have unfilled : filledBlock emptyRebuild = none := by decide
    have rebuild : r.rebuild = emptyRebuild := (congrArg RxPart.rebuild h).symm
    rw [RxPart.handOver_endBlock last, rebuild, unfilled, ite_self]
    exact h
  · exact RxPart.handOver_midBlock last b

theorem RxPart.place_idle {r : RxPart} (hs : r.state = .hunt ∨ r.state = .failed) (b : Interval) (mode : Mode)
    (octet : Byte) : r.place b mode octet = r := by
  unfold RxPart.place
  rcases hs with hs | hs <;> rw [hs] <;> cases mode <;> rfl

theorem RxPart.place_beacon {b : Interval} {r : RxPart} (hp : r.n % b.frames < 16) (mode : Mode) (octet : Byte) :
    r.place b mode octet = r := by
  unfold RxPart.place
  split
  · exact if_pos hp
  · exact if_pos hp
  · rfl

/-! ## A frame by its examination (R176) -/

section Step

variable {b : Interval} {mode : Mode} {loss : Nat} {key0 : Key} {octet : Byte} {r : RxPart}

/-- A frame that finds nothing goes on to the hand-over and the counter's advance. -/
theorem RxPart.step_unexamined {x : RxPart}
    (hx : ({ r with stepped := true }.place b mode octet).examine b mode loss key0 octet = x.unexamined) :
    ∃ rebuild ready, r.step b mode loss key0 octet =
      (RxPart.advance b { x with rebuild := rebuild, ready := ready }, none) := by
  refine ⟨(x.handOver b).rebuild, (x.handOver b).ready, ?_⟩
  rw [← RxPart.handOver_eq, RxPart.step, hx]
  rfl

theorem RxPart.examine_hunt (hs : r.state = .hunt) :
    r.examine b mode loss key0 octet = r.search b mode key0 octet := by
  rw [RxPart.examine, hs]

theorem RxPart.examine_failed (hs : r.state = .failed) : r.examine b mode loss key0 octet = r.unexamined := by
  rw [RxPart.examine, hs]

theorem RxPart.examine_following (hs : r.state = .locked ∨ r.state = .flywheel) :
    r.examine b mode loss key0 octet = r.follow b mode loss octet := by
  unfold RxPart.examine
  rcases hs with hs | hs <;> rw [hs]

/-- A frame in HUNT, once its search is known. -/
theorem RxPart.step_hunt (hs : r.state = .hunt) {e : Examined}
    (he : { r with stepped := true }.search b mode key0 octet = e) :
    r.step b mode loss key0 octet = (if e.counterSet then e.rx else (e.rx.handOver b).advance b, e.event) := by
  rw [RxPart.step, RxPart.place_idle, RxPart.examine_hunt, he]
  · exact hs
  · exact .inl hs

end Step

/-! ## The search (R177, R178) -/

/-- The table of R177: the progress after an octet, when no candidate is accepted. -/
def Parse.after (octet : Byte) : Parse → Parse
  | .none => if octet = 150 then .seen150 else .none
  | .seen150 => if octet = 105 then .seen150105 else if octet = 150 then .seen150 else .none
  | .seen150105 => .seenQ octet
  | .seenQ q => .seenInfo q octet
  | .seenInfo _ _ => .none

/-- The octet completes no good beacon of the mode. -/
def RxPart.Unaccepted (mode : Mode) (octet : Byte) (r : RxPart) : Prop :=
  ∀ q info, r.parse = .seenInfo q info → ¬ GoodBeacon mode q info octet

section Search

variable {b : Interval} {mode : Mode} {key0 : Key} {q info octet : Byte} {r : RxPart}

theorem RxPart.candidate_refused (h : ¬ GoodBeacon mode q info octet) :
    r.candidate b mode key0 q info octet = { r with parse := .none }.unexamined := by
  rw [goodBeacon_iff] at h
  exact if_neg (by simpa using h)

theorem RxPart.candidate_good (h : GoodBeacon mode q info octet) : r.candidate b mode key0 q info octet =
    if r.virgin then { r with parse := .none }.firstLock b key0 q (info.toNat % 2)
    else { r with parse := .none }.relock b q (info.toNat % 2) false := by
  rw [goodBeacon_iff] at h
  exact if_pos (by simpa using h)

theorem RxPart.search_seenInfo (hp : r.parse = .seenInfo q info) :
    r.search b mode key0 octet = r.candidate b mode key0 q info octet := by
  rw [RxPart.search, hp]

theorem RxPart.search_unaccepted (h : r.Unaccepted mode octet) :
    r.search b mode key0 octet = { r with parse := r.parse.after octet }.unexamined := by
  cases hp : r.parse with
  | none | seen150 | seen150105 | seenQ q => rw [RxPart.search, hp]; rfl
  | seenInfo q info => rw [RxPart.search_seenInfo hp, RxPart.candidate_refused (h q info hp), Parse.after]

/-- A frame in HUNT that accepts nothing moves the progress and the counter; the blocks and the model's mark aside, the
rest stays. -/
theorem RxPart.step_unaccepted (loss : Nat) (hs : r.state = .hunt) (h : r.Unaccepted mode octet) : ∃ rebuild ready,
    r.step b mode loss key0 octet = (RxPart.advance b
      { r with parse := r.parse.after octet, stepped := true, rebuild := rebuild, ready := ready }, none) := by
  refine RxPart.step_unexamined (x := { r with parse := r.parse.after octet, stepped := true }) ?_
  rw [RxPart.place_idle, RxPart.examine_hunt, RxPart.search_unaccepted]
  · exact h
  · exact hs
  · exact .inl hs

/-- The progress, the state and the report of a frame in HUNT that accepts nothing. -/
theorem RxPart.step_unaccepted_parse (loss : Nat) (hs : r.state = .hunt) (h : r.Unaccepted mode octet) :
    (r.step b mode loss key0 octet).1.parse = r.parse.after octet ∧ (r.step b mode loss key0 octet).1.state = .hunt ∧
      (r.step b mode loss key0 octet).2 = none := by
  obtain ⟨rebuild, ready, stepped⟩ := RxPart.step_unaccepted (b := b) (key0 := key0) loss hs h
  rw [stepped]
  exact ⟨RxPart.advance_parse _ _, (RxPart.advance_state _ _).trans hs, rfl⟩

/-- A virgin side's first lock, in either parity. -/
theorem RxPart.step_firstLock (loss : Nat) (hs : r.state = .hunt) (hp : r.parse = .seenInfo q info)
    (good : GoodBeacon mode q info octet) (hv : r.virgin = true) {e : Examined} (hset : e.counterSet = true)
    (he : { r with stepped := true, parse := .none }.firstLock b key0 q (info.toNat % 2) = e) :
    r.step b mode loss key0 octet = (e.rx, e.event) := by
  have searched : { r with stepped := true }.search b mode key0 octet = e := by
    rw [RxPart.search_seenInfo, RxPart.candidate_good good, if_pos hv, he]
    exact hp
  rw [RxPart.step_hunt hs searched, if_pos hset]

end Search

/-- Settles O58: the rows of R177 by the progress, the candidate by its parity, then the counter meanwhile. -/
theorem receiverFindsItsFirstLock : Obligations.ReceiverFindsItsFirstLock := by
  refine ⟨?search, ?counter⟩
  case search =>
    intro b mode loss key0 octet r hs
    have unfinished (hp : ∀ q info, r.parse ≠ .seenInfo q info) :
        (r.step b mode loss key0 octet).1.parse = r.parse.after octet :=
      (RxPart.step_unaccepted_parse loss hs fun q info h => absurd h (hp q info)).1
    refine ⟨fun hp => ?_, fun hp => ?_, fun hp => ?_, fun q hp => ?_, fun q info hp => ⟨fun bad => ?_, ?_⟩⟩
    · rw [unfinished (by simp [hp]), hp, Parse.after]
    · rw [unfinished (by simp [hp]), hp, Parse.after]
    · rw [unfinished (by simp [hp]), hp, Parse.after]
    · rw [unfinished (by simp [hp]), hp, Parse.after]
    · have refused : r.Unaccepted mode octet := by
        intro q' info' hp'
        cases hp.symm.trans hp'
        exact not_goodBeacon_iff.mpr bad
      have stepped := RxPart.step_unaccepted_parse (b := b) (key0 := key0) loss hs refused
      rwa [hp, Parse.after] at stepped
    · intro hi hc hm hv
      have lock {e : Examined} := RxPart.step_firstLock (b := b) (key0 := key0) loss hs hp ⟨hi, hc, hm⟩ hv (e := e)
      refine ⟨fun even => lock rfl (if_pos even), fun odd => lock rfl (if_neg ?_)⟩
      rw [odd]
      exact one_ne_zero
  case counter =>
    rintro b mode loss key0 octet r t hs bad rfl
    have refused : r.Unaccepted mode octet := fun q info hp => not_goodBeacon_iff.mpr (bad q info hp)
    obtain ⟨rebuild, ready, stepped⟩ := RxPart.step_unaccepted (b := b) (key0 := key0) loss hs refused
    rw [stepped]
    exact ⟨⟨rfl, (RxPart.advance_state _ _).trans hs, RxPart.advance_virgin _ _, RxPart.advance_miss _ _⟩,
      RxPart.advance_counter b
        { r with parse := r.parse.after octet, stepped := true, rebuild := rebuild, ready := ready }⟩

/-! ## The comparison with the own position (R179) -/

section Relock

variable {b : Interval} {q : Byte} {par : Nat} {r : RxPart}

theorem RxPart.compare_same (h : r.epoch.toNat % 2 = par) : r.compare b q par = .same := if_pos h

theorem RxPart.compare_other (h : r.epoch.toNat % 2 ≠ par) : r.compare b q par =
    if 128 ≤ r.n / b.frames then if q.toNat < 128 then .forward else .failed .parity
    else if q.toNat < 128 then .failed .parity
    else r.previous.elim (.failed .noPreviousKey) .back := by
  refine (if_neg h).trans ?_
  cases r.previous <;> rfl

/-- An outcome that fails leaves the counter to advance, and no blocks. -/
theorem RxPart.relock_unset {slip : Bool} (h : (r.relock b q par slip).counterSet = false) :
    (r.relock b q par slip).rx.n = r.n ∧ (r.relock b q par slip).rx.clearBlocks = (r.relock b q par slip).rx := by
  unfold RxPart.relock at h ⊢
  split at h
  case h_4 => exact ⟨rfl, rfl⟩
  all_goals cases h

end Relock

/-- A frame in HUNT that completes a good beacon at a side that has locked before. -/
theorem RxPart.step_relock {b : Interval} {mode : Mode} {q info check : Byte} {r : RxPart} (loss : Nat) (key0 : Key)
    (hs : r.state = .hunt) (hv : r.virgin = false) (hp : r.parse = .seenInfo q info)
    (good : GoodBeacon mode q info check) {e : Examined}
    (he : { r with stepped := true, parse := .none }.relock b q (info.toNat % 2) false = e) :
    r.step b mode loss key0 check = (if e.counterSet then e.rx else e.rx.advance b, e.event) := by
  have searched : { r with stepped := true }.search b mode key0 check = e := by
    rw [RxPart.search_seenInfo, RxPart.candidate_good good, if_neg (by simp [hv]), he]
    exact hp
  have frameEnd (h : ¬ e.counterSet = true) : (e.rx.handOver b).advance b = e.rx.advance b := by
    subst he
    rw [RxPart.handOver_clearBlocks (RxPart.relock_unset (Bool.eq_false_iff.mpr h)).2]
  rw [RxPart.step_hunt hs searched]
  exact congrArg (·, e.event) (if_ctx_congr Iff.rfl (fun _ => rfl) frameEnd)

/-! ## The judgement of an expected beacon (R180, R181) -/

section Judge

variable {b : Interval} {mode : Mode} {loss : Nat} {m0 m1 q info check : Byte} {r : RxPart}

theorem RxPart.badBeacon_counted (h : r.miss + 1 < loss) : r.badBeacon b loss =
    ⟨{ r with state := .flywheel, miss := r.miss + 1, window := [] }, false, none⟩ :=
  if_neg (Nat.not_le.mpr h)

theorem RxPart.badBeacon_lost (h : loss ≤ r.miss + 1) : r.badBeacon b loss =
    ⟨{ r.enterHunt with miss := 0 }, false, some (.lost r.epoch (r.n / b.frames))⟩ :=
  if_pos h

theorem RxPart.judgeBeacon_bad (h : ¬ (m0 = 150 ∧ m1 = 105 ∧ GoodBeacon mode q info check)) :
    r.judgeBeacon b mode loss m0 m1 q info check = r.badBeacon b loss := by
  rw [goodBeacon_iff] at h
  exact if_neg h

theorem RxPart.judgeBeacon_good (h : m0 = 150 ∧ m1 = 105 ∧ GoodBeacon mode q info check) :
    r.judgeBeacon b mode loss m0 m1 q info check =
      if q.toNat = r.n / b.frames ∧ info.toNat % 2 = r.epoch.toNat % 2 then
        { r with state := .locked, miss := 0, window := [] }.unexamined
      else r.relock b q (info.toNat % 2) true := by
  rw [goodBeacon_iff] at h
  exact if_pos h

/-- Only an adoption moves the counter at the judgement. -/
theorem RxPart.judgeBeacon_unset (h : (r.judgeBeacon b mode loss m0 m1 q info check).counterSet = false) :
    (r.judgeBeacon b mode loss m0 m1 q info check).rx.n = r.n := by
  by_cases good : m0 = 150 ∧ m1 = 105 ∧ GoodBeacon mode q info check
  · rw [RxPart.judgeBeacon_good good] at h ⊢
    split at h
    case isTrue inStep => rw [if_pos inStep]; rfl
    case isFalse slip => rw [if_neg slip]; exact (RxPart.relock_unset h).1
  · rw [RxPart.judgeBeacon_bad good]
    rcases Nat.lt_or_ge (r.miss + 1) loss with counted | lost
    · rw [RxPart.badBeacon_counted counted]
    · rw [RxPart.badBeacon_lost lost]
      rfl

theorem RxPart.follow_check (hc : r.n % b.frames = 4) (hw : r.window = [m0, m1, q, info]) :
    r.follow b mode loss check = r.judgeBeacon b mode loss m0 m1 q info check := by
  simp only [RxPart.follow, intervalPos, hc, hw]
  rfl

/-- A following side's check frame, once its judgement is known. -/
theorem RxPart.step_check (key0 : Key) (hn : r.n < 256 * b.frames) (hc : r.n % b.frames = 4)
    (hw : r.window = [m0, m1, q, info]) (hs : r.state = .locked ∨ r.state = .flywheel) {e : Examined}
    (he : { r with stepped := true }.judgeBeacon b mode loss m0 m1 q info check = e) :
    r.step b mode loss key0 check = (if e.counterSet then e.rx else { e.rx with n := r.n + 1 }, e.event) := by
  have placed : { r with stepped := true }.place b mode check = { r with stepped := true } :=
    RxPart.place_beacon (r := { r with stepped := true }) (by simp [hc]) mode check
  have frameEnd (h : ¬ e.counterSet = true) : (e.rx.handOver b).advance b = { e.rx with n := r.n + 1 } := by
    subst he
    exact RxPart.frameEnd_check
      (RxPart.judgeBeacon_unset (r := { r with stepped := true }) (Bool.eq_false_iff.mpr h)) hn hc
  have followed : { r with stepped := true }.follow b mode loss check = e :=
    (RxPart.follow_check (r := { r with stepped := true }) hc hw).trans he
  rw [RxPart.step, placed, RxPart.examine_following, followed]
  · exact congrArg (·, e.event) (if_ctx_congr Iff.rfl (fun _ => rfl) frameEnd)
  · exact hs

end Judge

/-! ## The octets kept (R180) -/

/-- The octets kept after a frame that is no check frame. -/
def RxPart.windowAfter (b : Interval) (octet : Byte) (r : RxPart) : List Byte :=
  if intervalPos b r.n = 0 then [octet] else if intervalPos b r.n < 4 then r.window ++ [octet] else r.window

theorem RxPart.follow_off_check {b : Interval} {r : RxPart} (hp : r.n % b.frames ≠ 4) (mode : Mode) (loss : Nat)
    (octet : Byte) : r.follow b mode loss octet = { r with window := r.windowAfter b octet }.unexamined := by
  have off : ¬ intervalPos b r.n = 4 := hp
  simp only [RxPart.follow, RxPart.windowAfter, if_neg off]
  split_ifs <;> rfl

theorem RxPart.window_step_off_check {b : Interval} {r : RxPart} (hs : r.state = .locked ∨ r.state = .flywheel)
    (hp : r.n % b.frames ≠ 4) (mode : Mode) (loss : Nat) (key0 : Key) (octet : Byte) :
    (r.step b mode loss key0 octet).1.window = r.windowAfter b octet := by
  have examined : ({ r with stepped := true }.place b mode octet).examine b mode loss key0 octet =
      { { r with stepped := true }.place b mode octet with window := r.windowAfter b octet }.unexamined := by
    rw [RxPart.place_eq, RxPart.examine_following, RxPart.follow_off_check]
    · rfl
    · exact hp
    · exact hs
  obtain ⟨rebuild, ready, stepped⟩ := RxPart.step_unexamined examined
  rw [stepped]
  exact RxPart.advance_window _ _

/-! ## FAILED (R185) -/

theorem RxPart.step_failed {r : RxPart} (hs : r.state = .failed) (b : Interval) (mode : Mode) (loss : Nat) (key0 : Key)
    (octet : Byte) : ∃ rebuild ready, r.step b mode loss key0 octet =
      (RxPart.advance b { r with stepped := true, rebuild := rebuild, ready := ready }, none) := by
  refine RxPart.step_unexamined (x := { r with stepped := true }) ?_
  rw [RxPart.place_idle, RxPart.examine_failed]
  · exact hs
  · exact .inr hs

/-- Settles O59: the table of R179 by its rows, the judgement, HUNT and FAILED, the octets kept and the advance. -/
theorem lockedReceiverRelocksAndJudges : Obligations.LockedReceiverRelocksAndJudges := by
  refine ⟨?compared, ?judged, ⟨?hunting, ?failed⟩, ?kept, ?advance⟩
  case compared =>
    rintro b q par ownQ slip r rfl
    refine ⟨fun same => ?_, fun other own far => ?_, fun k other own far hk => ?_, fun cause other h => ?_⟩
    · rw [RxPart.relock, RxPart.compare_same same]
      rfl
    · rw [RxPart.relock, RxPart.compare_other other, if_pos own, if_pos far]
      rfl
    · rw [RxPart.relock, RxPart.compare_other other, if_neg (by omega), if_neg (by omega), hk]
      rfl
    · have failed : r.compare b q par = .failed cause := by
        rw [RxPart.compare_other other]
        rcases h with ⟨own, far, hk, rfl⟩ | ⟨own, far, rfl⟩ | ⟨own, far, rfl⟩
        · rw [if_neg (by omega), if_neg (by omega), hk, Option.elim_none]
        · rw [if_pos own, if_neg (by omega)]
        · rw [if_neg (by omega), if_pos far]
      rw [RxPart.relock, failed]
      rfl
  case judged =>
    intro b mode loss key0 m0 m1 q info check good r hgood hn hc hw hs
    replace hgood : good ↔ m0 = 150 ∧ m1 = 105 ∧ GoodBeacon mode q info check := hgood
    have judged {e : Examined} :=
      RxPart.step_check (mode := mode) (loss := loss) (check := check) key0 hn hc hw hs (e := e)
    refine ⟨fun h hq hpar => ?_, fun h counted => ?_, fun h lost => ?_, fun h slip => ⟨_, rfl, ?_⟩⟩
    · exact judged ((RxPart.judgeBeacon_good (hgood.mp h)).trans (if_pos ⟨hq, hpar⟩))
    · exact judged ((RxPart.judgeBeacon_bad (hgood.not.mp h)).trans (RxPart.badBeacon_counted counted))
    · exact judged ((RxPart.judgeBeacon_bad (hgood.not.mp h)).trans (RxPart.badBeacon_lost lost))
    · exact judged ((RxPart.judgeBeacon_good (hgood.mp h)).trans (if_neg slip))
  case hunting =>
    intro b mode loss key0 q info check r hs hv hp hi hc hm
    exact ⟨_, rfl, RxPart.step_relock loss key0 hs hv hp ⟨hi, hc, hm⟩ rfl⟩
  case failed =>
    intro b mode loss key0 octet r hs
    obtain ⟨rebuild, ready, stepped⟩ := RxPart.step_failed hs b mode loss key0 octet
    exact ⟨_, stepped, (RxPart.advance_state _ _).trans hs,
      RxPart.advance_counter b { r with stepped := true, rebuild := rebuild, ready := ready }⟩
  case kept =>
    rintro b mode loss key0 octet r t hs rfl
    have kept (hp : r.n % b.frames ≠ 4) := RxPart.window_step_off_check hs hp mode loss key0 octet
    refine ⟨fun first => ?_, fun after before => ?_, fun past => ?_⟩
    · exact (kept (by omega)).trans (if_pos first)
    · exact (kept (by omega)).trans ((if_neg (Nat.ne_of_gt after)).trans (if_pos (Nat.lt_succ_of_le before)))
    · exact (kept (by omega)).trans ((if_neg (Nat.ne_zero_of_lt past)).trans (if_neg (Nat.not_lt_of_lt past)))
  case advance =>
    exact fun b r => ⟨RxPart.advance_within, RxPart.advance_wrap⟩

end Sys2Proof.Machine

/-!
PROOFS. What the operations of every block do to the control link: they raise items, and nothing else (R194, R195).
-/

namespace Sys2Proof.Machine

/-! ## The attention set (R195) -/

theorem Item.same_iff {a b : Item} : a.same b = true ↔ a.type = b.type ∧ a.subject = b.subject := by
  simp [Item.same]

theorem Item.same_congr {a b c d : Item} (ha : a.type = c.type ∧ a.subject = c.subject)
    (hb : b.type = d.type ∧ b.subject = d.subject) : a.same b = c.same d := by
  simp only [Item.same, ha.1, ha.2, hb.1, hb.2]

/-- An item put in the place of one that names the same event names it too. -/
theorem Item.same_replace (item a b : Item) :
    (if item.same a then item else a).same (if item.same b then item else b) = a.same b := by
  have stands (i : Item) : (if item.same i then item else i).type = i.type ∧
      (if item.same i then item else i).subject = i.subject := by
    split
    case isTrue h => exact Item.same_iff.mp h
    case isFalse => exact ⟨rfl, rfl⟩
  exact Item.same_congr (stands a) (stands b)

/-- An item offered leaves no two items that name the same event (R195). -/
theorem offerItem_distinct (item : Item) {set : List Item} (lost : Bool) (h : set.Pairwise fun a b => a.same b = false) :
    (offerItem item set lost).1.Pairwise fun a b => a.same b = false := by
  unfold offerItem
  split
  case isTrue => exact List.pairwise_map.mpr (h.imp fun hab => (item.same_replace _ _).trans hab)
  case isFalse new =>
    split
    case isFalse => exact h
    case isTrue =>
      refine List.pairwise_append.mpr ⟨h, List.pairwise_singleton _ _, fun a ha b hb => ?_⟩
      obtain rfl := List.mem_singleton.mp hb
      by_contra same
      obtain ⟨type, subject⟩ := Item.same_iff.mp (Bool.eq_true_of_not_eq_false same)
      exact new (List.any_eq_true.mpr ⟨a, ha, Item.same_iff.mpr ⟨type.symm, subject.symm⟩⟩)

/-! ## The arbiter (R194) -/

section Arbiter

variable {o : Outgoing}

/-- Once the arbiter has been asked, a line at rest has nothing waiting for it. -/
theorem Outgoing.arrive_rest (h : o.arrive.line = none) : o.arrive.reply = none ∧ o.arrive.attention = [] := by
  unfold Outgoing.arrive at h ⊢
  split at h
  case isFalse busy => simp [h] at busy
  case isTrue free =>
    rw [if_pos free]
    unfold Outgoing.choose at h ⊢
    cases hr : o.reply with
    | some r => simp [hr] at h
    | none =>
      cases ha : o.attention with
      | cons item rest => simp [hr, ha] at h
      | nil => exact ⟨rfl, rfl⟩

theorem Outgoing.arrive_busy (h : o.line ≠ none) : o.arrive = o := by
  rw [Outgoing.arrive, if_neg (by simpa using h)]

/-- With no reply waiting, the arbiter puts none on a free line. -/
theorem Outgoing.arrive_noReply (h : o.reply = none) :
    o.arrive.reply = none ∧ (o.line = none → ∀ r, o.arrive.line ≠ some (.reply r)) := by
  unfold Outgoing.arrive
  split
  case isFalse busy => exact ⟨h, fun hl => absurd (by rw [hl]; rfl) busy⟩
  case isTrue =>
    unfold Outgoing.choose
    rw [h]
    cases o.attention with
    | nil => exact ⟨rfl, fun _ _ => nofun⟩
    | cons item rest => exact ⟨rfl, fun _ _ => nofun⟩

end Arbiter

/-! ## What an update keeps of the link -/

/-- The update keeps the attention set well and a line at rest with nothing waiting, and does not touch the queue. -/
structure State.linkKeeps (s t : State) : Prop where
  attention : s.attentionWell → t.attentionWell
  line : s.lineWell → t.lineWell
  pending : t.pending = s.pending

/-- Besides, a frame on the line goes on, and no reply comes to wait or to a free line. -/
structure State.settles (s t : State) : Prop where
  kept : s.linkKeeps t
  reply : s.reply = none → t.reply = none
  busy : s.line ≠ none → t.line = s.line
  free : s.reply = none → s.line = none → ∀ r, t.line ≠ some (.reply r)

/-- Of the link, the update raises items and changes no more: the receive holding stands. -/
structure State.reports (s t : State) : Prop where
  settles : s.settles t
  holding : t.holding = s.holding

/-- States with the same outgoing side and the same queue. -/
theorem State.linkKeeps.of_eq {s t : State} (ho : t.outgoing = s.outgoing) (hp : t.pending = s.pending) : s.linkKeeps t := by
  obtain ⟨line, reply, attention, -⟩ := Outgoing.mk.inj ho
  refine ⟨?_, ?_, hp⟩
  · simp only [State.attentionWell, attention, imp_self]
  · simp only [State.lineWell, line, reply, attention, imp_self]

theorem State.linkKeeps.refl (s : State) : s.linkKeeps s := of_eq rfl rfl

theorem State.linkKeeps.trans {s t u : State} (h : s.linkKeeps t) (k : t.linkKeeps u) : s.linkKeeps u :=
  ⟨k.attention ∘ h.attention, k.line ∘ h.line, k.pending.trans h.pending⟩

theorem State.linkKeeps.foldl {α : Type} {f : State → α → State} (h : ∀ (s : State) a, s.linkKeeps (f s a)) (as : List α)
    (s : State) : s.linkKeeps (as.foldl f s) := by
  induction as generalizing s with
  | nil => exact refl s
  | cons a as ih => exact (h s a).trans (ih _)

theorem State.settles.of_eq {s t : State} (ho : t.outgoing = s.outgoing) (hp : t.pending = s.pending) : s.settles t := by
  obtain ⟨line, reply, -, -⟩ := Outgoing.mk.inj ho
  refine ⟨.of_eq ho hp, fun h => reply.trans h, fun _ => line, fun _ h r => ?_⟩
  rw [line, h]
  nofun

theorem State.settles.trans {s t u : State} (h : s.settles t) (k : t.settles u) : s.settles u where
  kept := h.kept.trans k.kept
  reply := k.reply ∘ h.reply
  busy b := (k.busy (by rwa [h.busy b])).trans (h.busy b)
  free hr hl r hu := by
    by_cases rest : t.line = none
    · exact k.free (h.reply hr) rest r hu
    · exact h.free hr hl r ((k.busy rest).symm.trans hu)

/-- An item raised (R194, R195). -/
theorem State.settles.raise (item : Item) (s : State) : s.settles (s.raise item) where
  kept := {
    attention := fun ⟨length, distinct⟩ => ⟨s.raise_attentionLength item length,
      (offerItem_distinct item s.lost distinct).sublist (Outgoing.arrive_attention _).sublist⟩
    line := fun _ => Outgoing.arrive_rest
    pending := rfl }
  reply h := (Outgoing.arrive_noReply (o := ⟨_, _, _, _⟩) h).1
  busy h := congrArg Outgoing.line (Outgoing.arrive_busy (o := ⟨_, _, _, _⟩) h)
  free h := (Outgoing.arrive_noReply (o := ⟨_, _, _, _⟩) h).2

/-- What of the state the operations of the other blocks do not write, but by raising items. -/
def State.link (s : State) : Outgoing × List Frame × List Instr := (s.outgoing, s.holding, s.pending)

namespace State.reports

variable {s t : State}

theorem of_link (h : t.link = s.link) : s.reports t := by
  obtain ⟨outgoing, rest⟩ := Prod.mk.inj h
  obtain ⟨holding, pending⟩ := Prod.mk.inj rest
  exact ⟨.of_eq outgoing pending, holding⟩

theorem refl (s : State) : s.reports s := of_link rfl

theorem trans {u : State} (h : s.reports t) (k : t.reports u) : s.reports u :=
  ⟨h.settles.trans k.settles, k.holding.trans h.holding⟩

theorem raise (item : Item) (s : State) : s.reports (s.raise item) := ⟨.raise item s, rfl⟩

theorem kept (h : s.reports t) : s.linkKeeps t := h.settles.kept

theorem foldl {α : Type} {f : State → α → State} (h : ∀ (s : State) a, s.reports (f s a)) (as : List α) (s : State) :
    s.reports (as.foldl f s) := by
  induction as generalizing s with
  | nil => exact refl s
  | cons a as ih => exact (h s a).trans (ih _)

end State.reports

end Sys2Proof.Machine

/-!
PROOFS. The operations of the admission, dial, loop and call units, of the key store and of the frames, each of which does
nothing to the control link but raise items (O2, O8, O15, O16).
-/

namespace Sys2Proof.Machine.State.reports

/-! ## One record written -/

theorem putEntry (ix : ExtIx) (e : Option Entry) (s : State) : s.reports (s.putEntry ix e) := of_link rfl

theorem modEntry (ix : ExtIx) (f : Entry → Entry) (s : State) : s.reports (s.modEntry ix f) := of_link rfl

theorem putPort (p : Port) (r : PortRec) (s : State) : s.reports (s.putPort p r) := of_link rfl

theorem putLoop (l : LoopNo) (r : LoopRec) (s : State) : s.reports (s.putLoop l r) := of_link rfl

theorem putContext (c : CtxId) (x : Context) (s : State) : s.reports (s.putContext c x) := of_link rfl

theorem modCall (id : CallId) (f : Call → Call) (s : State) : s.reports (s.modCall id f) := by
  unfold State.modCall
  split <;> exact of_link rfl

/-! ## Bindings, lapses, failures and locks (R58 to R66, R81) -/

theorem offer (p : Port) (b : OutBlock) (s : State) : s.reports (s.offer p b) := by
  have lose : ∀ q (t : State), t.reports (t.loseBlock p q) := by
    intro q t
    unfold State.loseBlock State.loseChallenge
    split
    case h_2 => exact refl t
    case h_1 => split <;> exact of_link rfl
  unfold State.offer
  split
  case h_1 => exact refl s
  case h_2 => exact (putLoop _ _ s).trans (lose _ _)

theorem abandon (ix : ExtIx) (s : State) : s.reports (s.abandon ix) := by
  unfold State.abandon
  split
  case h_2 => exact refl s
  case h_1 => split <;> exact of_link rfl

theorem deny (p : Port) (r : DenyReason) (ix : Option ExtIx) (s : State) : s.reports (s.deny p r ix) := by
  unfold State.deny
  split
  case h_1 => exact refl s
  case h_2 => exact (offer _ _ s).trans (raise _ _)

theorem releaseBinding (ix : ExtIx) (s : State) : s.reports (s.releaseBinding ix) := by
  unfold State.releaseBinding
  split
  case h_2 => exact refl s
  case h_1 => split <;> exact of_link rfl

theorem lapse (ix : ExtIx) (c : LapseCause) (s : State) : s.reports (s.lapse ix c) := by
  unfold State.lapse
  split
  case h_1 => exact refl s
  case h_2 =>
    split
    case isTrue => exact putEntry _ _ s
    case isFalse =>
      split
      case h_1 => exact refl s
      case h_2 => exact (((releaseBinding _ s).trans (modEntry _ _ _)).trans (offer _ _ _)).trans (raise _ _)

theorem lockOut (ix : ExtIx) (s : State) : s.reports (s.lockOut ix) := by
  have challenge : s.reports (s.lockChallenge ix) := by
    unfold State.lockChallenge
    split
    case h_2 => exact refl s
    case h_1 =>
      split
      case h_2 => exact refl s
      case h_1 => exact ((putLoop _ _ s).trans (putEntry _ _ _)).trans (deny _ _ _ _)
  have binding : ∀ t : State, t.reports (t.lockBinding ix) := by
    intro t
    unfold State.lockBinding
    split
    case h_2 => exact refl t
    case h_1 =>
      split
      case h_2 => exact refl t
      case h_1 => exact (releaseBinding _ t).trans (offer _ _ _)
  have entry : ∀ t : State, t.reports (t.lockEntry ix) := by
    intro t
    unfold State.lockEntry
    split
    case h_2 => exact refl t
    case h_1 => exact (putEntry _ _ t).trans (raise _ _)
  exact (challenge.trans (binding _)).trans (entry _)

theorem countFailure (ix : ExtIx) (s : State) : s.reports (s.countFailure ix) := by
  unfold State.countFailure
  split
  case h_1 => exact refl s
  case h_2 =>
    dsimp only
    split
    case isFalse => exact putEntry _ _ s
    case isTrue => exact (putEntry _ _ s).trans (lockOut _ _)

/-! ## ENTER, ERASE and UNLOCK EXTENSION (R6 to R11) -/

theorem enter (ix : ExtIx) (f : Stored) (s : State) : s.reports (s.enter ix f) := by
  have abandons : ∀ old (t : State), t.reports (t.enterAbandon ix old) := by
    intro old t
    unfold State.enterAbandon
    split
    case h_1 => exact refl t
    case h_2 =>
      split
      case h_1 => exact refl t
      case h_2 =>
        split_ifs
        · exact (abandon _ t).trans (offer _ _ _)
        · exact (abandon _ t).trans (offer _ _ _)
        · exact refl t
  have lapses : ∀ t : State, t.reports (t.enterLapse ix) := by
    intro t
    unfold State.enterLapse
    split
    case h_1 => exact refl t
    case h_2 =>
      split
      case h_2 => exact refl t
      case h_1 =>
        split
        case isTrue => exact lapse _ _ t
        case isFalse => exact refl t
  unfold State.enter
  split
  case h_1 => exact putEntry _ _ s
  case h_2 => exact ((putEntry _ _ s).trans (abandons _ _)).trans (lapses _)

theorem eraseChallenge (ix : ExtIx) (e : Entry) (s : State) : s.reports (s.eraseChallenge ix e) := by
  unfold State.eraseChallenge
  split
  case h_1 => exact ((putLoop _ _ s).trans (putEntry _ _ _)).trans (offer _ _ _)
  case h_2 => exact refl s

theorem eraseBinding (e : Entry) (s : State) : s.reports (s.eraseBinding e) := by
  unfold State.eraseBinding
  split
  case h_1 => exact (putPort _ _ s).trans (offer _ _ _)
  case h_2 => exact refl s

theorem unlock (ix : ExtIx) (e : Entry) (s : State) : s.reports (s.unlock ix e) := (putEntry _ _ s).trans (raise _ _)

/-! ## Admission (R67 to R80) -/

theorem issueChallenge (p : Port) (x : ExtIx) (s : State) : s.reports (s.issueChallenge p x) := by
  unfold State.issueChallenge
  split
  case h_1 => exact refl s
  case h_2 e _ =>
    dsimp only
    cases e.challenge with
    | none => exact (of_link rfl : s.reports (s.spendNonce.putEntry x _)).trans (offer _ _ _)
    | some c => exact (of_link rfl : s.reports ((s.withdraw c.port c.nonce).spendNonce.putEntry x _)).trans (offer _ _ _)

theorem registerEntry (p : Port) (x : ExtIx) (s : State) : s.reports (s.registerEntry p x) := by
  unfold State.registerEntry
  split
  case h_1 => exact refl s
  case h_2 =>
    split
    case h_1 =>
      split
      case isTrue =>
        unfold State.registerAgain
        split
        case isTrue => exact deny _ _ _ s
        case isFalse => exact ((releaseBinding _ s).trans (modEntry _ _ _)).trans (issueChallenge _ _ _)
      case isFalse =>
        unfold State.registerMove
        split
        case isTrue => exact deny _ _ _ s
        case isFalse => exact (putEntry _ _ s).trans (issueChallenge _ _ _)
    case h_2 =>
      unfold State.registerChallenge
      split
      case h_1 => exact refl s
      case h_2 =>
        split
        case isTrue => exact deny _ _ _ s
        case isFalse => exact issueChallenge _ _ s

theorem registerAt (p : Port) (x : ExtIx) (s : State) : s.reports (s.registerAt p x) := by
  unfold State.registerAt
  split
  case h_2 => exact registerEntry p x s
  case h_1 =>
    split_ifs
    · exact registerEntry p x s
    · exact deny _ _ _ s
    · exact (((releaseBinding _ s).trans (modEntry _ _ _)).trans (raise _ _)).trans (registerEntry p x _)

theorem registerBlock (p : Port) (number : List Digit) (s : State) : s.reports (s.registerBlock p number) := by
  have clear : ∀ x, s.reports (s.clearWay p x) := by
    intro x
    unfold State.clearWay
    split
    case h_2 => exact refl s
    case h_1 =>
      split
      case isTrue => exact refl s
      case isFalse => exact abandon _ s
  have cases : ∀ x (t : State), t.reports (t.registerCases p x) := by
    intro x t
    unfold State.registerCases
    split
    case h_1 => exact deny _ _ _ t
    case h_2 =>
      split
      case h_1 => exact refl t
      case h_2 =>
        split_ifs
        · exact deny _ _ _ t
        · exact (deny _ _ _ t).trans (countFailure _ _)
        · exact registerAt _ _ t
  exact (clear _).trans (cases _ _)

theorem bind (p : Port) (x : ExtIx) (s : State) : s.reports (s.bind p x) := by
  unfold State.bind
  split
  case h_1 => exact refl s
  case h_2 => exact ((putEntry _ _ s).trans (putPort _ _ _)).trans (offer _ _ _)

theorem matchingAnswer (p : Port) (x : ExtIx) (e : Entry) (s : State) : s.reports (s.matchingAnswer p x e) := by
  have answered : s.reports (s.putEntry x (some e.answered)) := putEntry _ _ s
  unfold State.matchingAnswer
  dsimp only
  split
  case h_1 =>
    exact ((((answered.trans (releaseBinding _ _)).trans (offer _ _ _)).trans (bind _ _ _)).trans (raise _ _)).trans
      (raise _ _)
  case h_2 => exact (answered.trans (bind _ _ _)).trans (raise _ _)

theorem mismatch (p : Port) (reason : DenyReason) (x : ExtIx) (e : Entry) (s : State) :
    s.reports (s.mismatch p reason x e) :=
  (((putEntry _ _ s).trans (deny _ _ _ _)).trans (modEntry _ _ _)).trans (countFailure _ _)

theorem answerBlock (p : Port) (response : Long) (s : State) : s.reports (s.answerBlock p response) := by
  unfold State.answerBlock
  split
  case h_1 => exact deny _ _ _ s
  case h_2 =>
    split
    case h_1 => exact refl s
    case h_2 =>
      split
      case h_1 => exact refl s
      case h_2 =>
        split_ifs
        · exact deny _ _ _ s
        · exact matchingAnswer _ _ _ s
        · exact mismatch _ _ _ _ s

theorem answerExpiry (x : ExtIx) (s : State) : s.reports (s.answerExpiry x) := by
  unfold State.answerExpiry
  split
  case h_1 => exact refl s
  case h_2 =>
    split
    case h_1 => exact refl s
    case h_2 =>
      split
      case isTrue => exact mismatch _ _ _ _ s
      case isFalse => exact refl s

theorem checkInBlock (p : Port) (s : State) : s.reports (s.checkInBlock p) := by
  unfold State.checkInBlock
  split
  case h_1 => exact deny _ _ _ s
  case h_2 =>
    split
    case h_1 => exact deny _ _ _ s
    case h_2 =>
      split
      case isTrue => exact putEntry _ _ s
      case isFalse => exact deny _ _ _ s

theorem refreshEnd (x : ExtIx) (s : State) : s.reports (s.refreshEnd x) := by
  unfold State.refreshEnd
  split
  case h_1 => exact refl s
  case h_2 =>
    split
    case isTrue => exact (putEntry _ _ s).trans (lapse _ _ _)
    case isFalse => exact refl s

theorem lockEnd (x : ExtIx) (s : State) : s.reports (s.lockEnd x) := by
  unfold State.lockEnd
  split
  case h_1 => exact refl s
  case h_2 =>
    split
    case isTrue => exact unlock _ _ s
    case isFalse => exact refl s

/-! ## Dialling (R85 to R101) -/

theorem offHookBlock (p : Port) (s : State) : s.reports (s.offHookBlock p) := by
  have dialling : ∀ t : State, t.reports (t.startDialling p) := by
    intro t
    unfold State.startDialling
    split
    case h_1 => exact deny _ _ _ t
    case h_2 =>
      split
      case h_1 => exact putPort _ _ t
      case h_2 => exact deny _ _ _ t
      case h_3 => exact deny _ _ _ t
  have answered : ∀ t : State, t.reports (t.answerCall p) := by
    intro t
    unfold State.answerCall
    dsimp only
    split
    case h_1 => exact (putPort _ _ t).trans (raise _ _)
    case h_2 => exact putPort _ _ t
  unfold State.offHookBlock
  dsimp only
  cases (s.port p).dial with
  | idle => exact (putPort _ _ s).trans (dialling _)
  | alerted => exact (putPort _ _ s).trans (answered _)
  | dialling | waiting | inCall | blocked => exact putPort _ _ s

theorem onHookBlock (p : Port) (s : State) : s.reports (s.onHookBlock p) := by
  have hangUp : ∀ r, s.reports ((s.putPort p r).hangUp p) := by
    intro r
    unfold State.hangUp
    split
    case h_1 => exact (putPort _ _ s).trans (raise _ _)
    case h_2 => exact putPort _ _ s
  unfold State.onHookBlock
  dsimp only
  cases (s.port p).dial with
  | waiting | inCall => exact hangUp _
  | idle | dialling | alerted | blocked => exact putPort _ _ s

theorem evaluate (p : Port) (ds : List Digit) (s : State) : s.reports (s.evaluate p ds) := by
  have blocked : ∀ reason item, s.reports
      (((s.offer p (.notice reason)).putPort p ((s.port p).ended .blocked)).raise item) :=
    fun _ _ => ((offer _ _ s).trans (putPort _ _ _)).trans (raise _ _)
  have request : ∀ ix v deciding, s.reports (s.requestCall p ix v deciding ds) := by
    intro ix v deciding
    unfold State.requestCall
    split
    case h_1 => exact blocked _ _
    case h_2 slot _ =>
      have created : s.reports (s.createCall slot (.fresh s.freshId .requested .station p ix ds v)) := of_link rfl
      exact (created.trans (putPort _ _ _)).trans (raise _ _)
  unfold State.evaluate
  split
  case h_1 => exact refl s
  case h_2 =>
    split
    case h_1 => exact refl s
    case h_2 e _ =>
      dsimp only
      cases s.verdict e.cls ds with
      | bar => exact blocked _ _
      | allow | scramble | clear => exact request _ _ _

theorem digitsBlock (p : Port) (endFlag : Bool) (codes : List Digit) (s : State) :
    s.reports (s.digitsBlock p endFlag codes) := by
  unfold State.digitsBlock
  dsimp only
  split
  case isFalse => exact refl s
  case isTrue =>
    split
    case isTrue => exact (putPort _ _ s).trans (evaluate _ _ _)
    case isFalse => exact putPort _ _ s

theorem interdigitEnd (p : Port) (s : State) : s.reports (s.interdigitEnd p) := by
  unfold State.interdigitEnd
  dsimp only
  split
  case isFalse => exact refl s
  case isTrue =>
    split
    case isTrue => exact (offer _ _ s).trans (putPort _ _ _)
    case isFalse => exact (putPort _ _ s).trans (evaluate _ _ _)

/-! ## The station loops (R40 to R55) -/

theorem goAbsent (p : Port) (s : State) : s.reports (s.goAbsent p) := by
  have challenge : ∀ t : State, t.reports (t.dropChallengeAt p) := by
    intro t
    unfold State.dropChallengeAt
    split
    case h_1 => exact modEntry _ _ t
    case h_2 => exact refl t
  have lapseAt : ∀ t : State, t.reports (t.lapseAt p) := by
    intro t
    unfold State.lapseAt
    split
    case h_1 => exact lapse _ _ t
    case h_2 => exact refl t
  have procedure : ∀ t : State, t.reports (t.absenceProcedure p) := fun t =>
    (((putLoop _ _ t).trans (challenge _)).trans (putPort _ _ _)).trans (lapseAt _)
  exact ((putPort _ _ s).trans (raise _ _)).trans (procedure _)

theorem ensureAbsent (p : Port) (s : State) : s.reports (s.ensureAbsent p) := by
  unfold State.ensureAbsent
  split
  case h_1 => exact goAbsent p s
  case h_2 => exact refl s

theorem setLoop (l : LoopNo) (enable : Bool) (poll : Table Bool 32) (s : State) : s.reports (s.setLoop l enable poll) := by
  have remove : ∀ (t : State) st, t.reports (t.removeStation (portOf l st)) := fun t st =>
    ((ensureAbsent _ t).trans (putLoop _ _ _)).trans (putPort _ _ _)
  unfold State.setLoop
  split
  case h_1 => exact (putLoop l _ s).trans (foldl remove _ _)
  case h_2 =>
    exact ((putLoop l _ s).trans (foldl (fun t st => ensureAbsent (portOf l st) t) _ _)).trans
      (foldl (fun t st => putPort (portOf l st) _ t) _ _)
  case h_3 => exact putLoop l _ s
  case h_4 => exact putLoop l _ s

theorem blockSent (l : LoopNo) (s : State) : s.reports (s.blockSent l) := by
  have timer : ∀ p n (t : State), t.reports (t.startAnswerTimer p n) := by
    intro p n t
    unfold State.startAnswerTimer
    split
    case h_1 => exact refl t
    case h_2 =>
      split
      case h_1 => exact refl t
      case h_2 =>
        split
        case h_1 => exact refl t
        case h_2 => split <;> exact of_link rfl
  unfold State.blockSent State.noteSent
  split
  case h_2 => exact refl s
  case h_1 =>
    split
    case isFalse => exact refl s
    case isTrue =>
      split
      case h_1 => exact (putLoop _ _ s).trans (timer _ _ _)
      case h_2 => exact putLoop _ _ s

/-- A turn that ends in a miss (R51). -/
theorem endTurn_miss (l : LoopNo) (p : Port) (s : State) : s.reports ((s.endTurn l).miss p) := by
  have ended : s.reports (s.endTurn l) := putLoop l _ s
  refine ended.trans ?_
  unfold State.miss
  dsimp only
  split
  case h_2 => exact putPort _ _ _
  case h_1 =>
    split
    case isTrue => exact (putPort _ _ _).trans (goAbsent _ _)
    case isFalse => exact putPort _ _ _

theorem windowTimeout (l : LoopNo) (s : State) : s.reports (s.windowTimeout l) := by
  unfold State.windowTimeout
  split
  case h_1 => exact endTurn_miss l _ s
  case h_2 => exact refl s

theorem stationReply (l : LoopNo) (chars : List LoopChar) (s : State) : s.reports (s.stationReply l chars) := by
  have present : ∀ p (t : State), t.reports (t.present p) := by
    intro p t
    unfold State.present
    dsimp only
    split
    case h_1 => exact putPort _ _ t
    case h_2 => exact (putPort _ _ t).trans (raise _ _)
  have hand : ∀ p b (t : State), t.reports (t.handOn p b) := by
    intro p b t
    unfold State.handOn
    split
    case h_2 => exact refl t
    case h_1 => split <;> exact of_link rfl
  unfold State.stationReply
  split
  case h_2 => exact refl s
  case h_1 =>
    dsimp only
    split
    case h_1 => exact ((putLoop l _ s).trans (present _ _)).trans (hand _ _ _)
    case h_2 => exact endTurn_miss l _ s

theorem loopBreak (l : LoopNo) (s : State) : s.reports (s.loopBreak l) := by
  have abandon : ∀ t : State, t.reports (t.abandonLoop l) := fun t => of_link rfl
  unfold State.loopBreak
  dsimp only
  split
  case h_1 => exact ((putLoop l _ s).trans (raise _ _)).trans (abandon _)
  case h_2 => exact refl s
  case h_3 => exact refl s

theorem loopRestore (l : LoopNo) (s : State) : s.reports (s.loopRestore l) := by
  unfold State.loopRestore
  dsimp only
  split
  case h_1 => exact (putLoop l _ s).trans (raise _ _)
  case h_2 => exact refl s
  case h_3 => exact refl s

/-- A block taken by its unit (R49). -/
theorem takeBlock (p : Port) (b : StationBlock) {act : State → State} (ha : ∀ t : State, t.reports (act t)) (s : State) :
    s.reports (s.takeBlock p b act) := by
  have present : ∀ t : State, t.reports (t.atPresent p act) := by
    intro t
    unfold State.atPresent
    split
    case h_1 => exact ha t
    case h_2 => exact refl t
  unfold State.takeBlock
  split
  case h_1 => exact present s
  case h_2 rest _ =>
    split
    case isFalse => exact refl s
    case isTrue => exact (of_link rfl : s.reports { s with handed := rest }).trans (present _)

/-! ## Keys, draws and calls (spec/07, spec/08) -/

theorem deliver (own : Option CtxId) (c : CtxId) (rest : List WaitItem) (s : State) : s.reports (s.deliver own c rest) := by
  have key : ∀ k (t : State), t.reports (t.keyStation c k) := by
    intro k t
    unfold State.keyStation
    split
    case h_1 => exact refl t
    case h_2 =>
      split
      case h_1 => exact refl t
      case h_2 =>
        split
        case h_1 => exact refl t
        case h_2 => exact (of_link rfl : t.reports (t.spendNonce.putContext c _)).trans (offer _ _ _)
  have complete : ∀ t : State, t.reports (t.completeServed c) := by
    intro t
    unfold State.completeServed
    split
    case h_1 => exact refl t
    case h_2 => exact (modCall _ _ t).trans (raise _ _)
  have drawn : s.reports { s with
      ring := s.ring.set s.pointer RingSlot.empty, pointer := ringAhead s.pointer 1, waitQueue := rest } := of_link rfl
  unfold State.deliver
  dsimp only
  split
  case isTrue => exact drawn.trans (key _ _)
  case isFalse => exact (drawn.trans (key _ _)).trans (complete _)

theorem servingPass (own : Option CtxId) (s : State) : s.reports (s.servingPass own) := by
  have serve : ∀ ws (t : State), t.reports (t.serveQueue own ws) := by
    intro ws
    induction ws with
    | nil => exact fun t => refl t
    | cons w rest ih =>
      intro t
      unfold State.serveQueue
      split
      case isTrue => exact (deliver _ _ _ t).trans (ih _)
      case isFalse => exact refl t
  have finish : ∀ t : State, t.reports t.endPass := by
    intro t
    unfold State.endPass
    split
    case isTrue => exact of_link rfl
    case isFalse => exact (of_link rfl : t.reports { t with supplier := .suspended }).trans (raise _ _)
  exact (serve _ s).trans (finish _)

theorem drawDemand (c : CtxId) (limit : Nat) (s : State) : s.reports (s.drawDemand c limit) := by
  have joined : s.reports { s.putContext c { s.context c with state := .keyWait } with
      waitQueue := s.waitQueue ++ [WaitItem.mk c limit] } := of_link rfl
  unfold State.drawDemand
  dsimp only
  split
  case h_1 => exact joined
  case h_2 => exact joined.trans (servingPass _ _)
  case h_3 => exact joined.trans (servingPass _ _)

theorem connect (c : Call) (paths : List PathPlan) (ctxs : List CtxPlan) (s : State) :
    s.reports (s.connect c paths ctxs) := by
  have allocate : ∀ (t : State) (p : CtxId × CtxPlan), t.reports (t.allocate c.id p.1 p.2) := by
    intro t p
    unfold State.allocate
    split <;> exact putContext _ _ t
  have install : ∀ ids (t : State), t.reports (t.installPaths c.id ids paths) := fun ids t => of_link rfl
  have demand : ∀ plans (t : State), t.reports (t.demandAll c.ext plans) := by
    refine fun plans => foldl (fun t p => ?_) plans
    split
    case isTrue => exact drawDemand _ _ t
    case isFalse => exact refl t
  have settle : ∀ ids (t : State), t.reports (t.settleCall c.id ids) := by
    intro ids t
    unfold State.settleCall
    split <;> exact modCall _ _ t
  exact (((((foldl allocate _ s).trans (modCall _ _ _)).trans (install _ _)).trans (demand _ _)).trans (settle _ _)).trans
    (putPort _ _ _)

theorem freeContext (c : CtxId) (s : State) : s.reports (s.freeContext c) := of_link rfl

theorem endCall (c : Call) (n : Option NoticeReason) (s : State) : s.reports (s.endCall c n) := by
  have notice : ∀ p (t : State), t.reports (t.endNotice p n) := by
    intro p t
    unfold State.endNotice
    split
    case h_1 => exact offer _ _ t
    case h_2 => exact refl t
  have deferred : ∀ ix (t : State), t.reports (t.deferredLapse ix) := by
    intro ix t
    unfold State.deferredLapse
    split
    case h_2 => exact refl t
    case h_1 =>
      split
      case h_1 => exact lapse _ _ t
      case h_2 => exact refl t
  have free : ∀ t : State, t.reports (t.freeCall c.id) := by
    intro t
    unfold State.freeCall
    split <;> exact of_link rfl
  have paths : s.reports (s.removePaths c.id) := of_link rfl
  exact (((((paths.trans (foldl (fun t x => freeContext x t) c.contexts _)).trans (putPort _ _ _)).trans
    (modEntry _ _ _)).trans (notice _ _)).trans (deferred _ _)).trans (free _)

theorem moveCall (c : Call) (state : CallState) (ctxState : CtxState) (s : State) :
    s.reports (s.moveCall c state ctxState) :=
  (modCall _ _ s).trans (foldl (fun t x => putContext x _ t) _ _)

theorem applyPolicy (x : CtxId) (s : State) : s.reports (s.applyPolicy x) := by
  unfold State.applyPolicy
  split
  case h_1 => exact refl s
  case h_2 =>
    split
    case h_1 => exact refl s
    case h_2 =>
      split
      case h_1 =>
        have freed : s.reports ((s.freeContext x).retransform x) := of_link rfl
        exact (freed.trans (modCall _ _ _)).trans (raise _ _)
      case h_2 => exact (raise _ s).trans (endCall _ _ _)

/-! ## Frames (spec/06) -/

theorem tick (s : State) : s.reports s.tick := by
  unfold State.tick
  dsimp only
  split <;> exact of_link rfl

theorem beginFrame (s : State) : s.reports s.beginFrame := by
  unfold State.beginFrame
  dsimp only
  split
  case isTrue =>
    have begun : s.reports { s with
        handling := s.handling.map HeldReply.seen, timeBase := { s.timeBase with tickDivider := 0 } } := of_link rfl
    exact begun.trans (tick _)
  case isFalse => exact of_link rfl

theorem unservedFrame (s : State) : s.reports s.unservedFrame :=
  (of_link rfl : s.reports { s with outputs := Table.replicate 192 none }).trans (beginFrame _)

theorem highwayFrame (inputs : Table Byte 192) (s : State) : s.reports (s.highwayFrame inputs) := by
  have stepped : ∀ t : State, t.reports { t with
      contexts := (t.frameSteps inputs).map CtxFrame.context
      outputs := Table.tabulate (fun d => some (t.slotOctet inputs (t.frameSteps inputs) d)) } := fun t => of_link rfl
  exact ((beginFrame s).trans (stepped _)).trans (foldl (fun t i => raise i t) _ _)

/-- The time base written. -/
theorem timeBase (b : TimeBase) (s : State) : s.reports { s with timeBase := b } := of_link rfl

theorem acceptPulse (sinceFrame : Nat) (inputs : Table Byte 192) (s : State) :
    s.reports (s.acceptPulse sinceFrame inputs) := by
  unfold State.acceptPulse
  split
  case isFalse => exact refl s
  case isTrue => exact (timeBase _ s).trans (highwayFrame inputs _)

theorem restorePulse (sincePulse : Option Nat) (inputs : Table Byte 192) (s : State) :
    s.reports (s.restorePulse sincePulse inputs) := by
  unfold State.restorePulse
  dsimp only
  split
  case isFalse => exact timeBase _ s
  case isTrue =>
    have resumed : s.reports { s with
        timeBase := { s.timeBase with source := .highway, missCount := 0, restoreCount := 0 }
        contexts := s.contexts.map Context.resume } := of_link rfl
    exact (resumed.trans (raise _ _)).trans (highwayFrame inputs _)

theorem missPulse (inputs : Table Byte 192) (s : State) : s.reports (s.missPulse inputs) := by
  unfold State.missPulse
  split
  case isTrue => exact (timeBase _ s).trans (highwayFrame inputs _)
  case isFalse => exact ((timeBase _ s).trans (raise _ _)).trans (unservedFrame _)

end Sys2Proof.Machine.State.reports

/-!
PROOFS. What a request's owner answers, and what it leaves of the control link (R193).
-/

namespace Sys2Proof.Machine

/-! ## What a request's meaning keeps -/

/-- What every request's owner keeps to: it raises items, leaves its frame at the head of the holding, empties the rest of
the holding only for a reply held back, and a refusal is all that it does (R115, R192, R193). -/
structure State.answers (s : State) (r : State × Answer) : Prop where
  settles : s.settles r.1
  head : r.1.holding.head? = s.holding.head?
  rest : r.2.held = false → r.1.holding = s.holding
  refused : r.2.code ≠ .done → r.2.code ≠ .adjusted → r = s.refuse r.2.code

namespace State.answers

variable {s t : State} {a : Answer}

theorem refuse (code : Code) (s : State) : s.answers (s.refuse code) where
  settles := (State.reports.refl s).settles
  head := rfl
  rest _ := rfl
  refused _ _ := rfl

/-- A request carried out. -/
theorem of_reports (k : s.reports t) (h : a.code = .done ∨ a.code = .adjusted) : s.answers (t, a) where
  settles := k.settles
  head := by rw [k.holding]
  rest _ := k.holding
  refused done adjusted := (h.elim done adjusted).elim

theorem done (k : s.reports t) : s.answers t.done := of_reports k (.inl rfl)

theorem report (data : List Byte) (s : State) : s.answers (s.report data) := of_reports (.refl s) (.inl rfl)

/-! ### The directory, the tables and the settings -/

theorem enterAct (b : EnterBody) (s : State) : s.answers (enterAct b s) := by
  unfold Machine.enterAct
  split
  case h_1 => exact refuse _ s
  case h_2 =>
    split
    case isTrue => exact refuse _ s
    case isFalse => exact done (.enter _ _ s)

theorem onEntry (index : Word) {act : ExtIx → Entry → State → State × Answer} (h : ∀ ix e, s.answers (act ix e s)) :
    s.answers (s.onEntry index act) := by
  unfold State.onEntry
  split
  case h_1 => exact refuse _ s
  case h_2 =>
    split
    case h_1 => exact refuse _ s
    case h_2 => exact h _ _

theorem eraseEntry (ix : ExtIx) (e : Entry) (s : State) : s.answers (eraseEntry ix e s) := by
  unfold Machine.eraseEntry
  split
  case isTrue => exact refuse _ s
  case isFalse => exact done (((State.reports.eraseChallenge ix e s).trans (.eraseBinding e _)).trans (.putEntry _ _ _))

theorem unlockEntry (ix : ExtIx) (e : Entry) (s : State) : s.answers (unlockEntry ix e s) := by
  unfold Machine.unlockEntry
  split
  case isTrue => exact done (.unlock ix e s)
  case isFalse => exact refuse _ s

theorem readEntry (ix : ExtIx) (e : Entry) (s : State) : s.answers (readEntry ix e s) := of_reports (.of_link rfl) (.inl rfl)

theorem setClassAct (b : ClassBody) (s : State) : s.answers (setClassAct b s) := by
  unfold Machine.setClassAct
  split
  case h_1 => exact refuse _ s
  case h_2 => exact of_reports (.of_link rfl) (ite_eq_or_eq _ _ _)

theorem readClassAct (cls : Byte) (s : State) : s.answers (readClassAct cls s) := by
  unfold Machine.readClassAct
  split
  case h_1 => exact refuse _ s
  case h_2 => exact report _ s

theorem setScreenAct (b : ScreenBody) (s : State) : s.answers (setScreenAct b s) := by
  unfold Machine.setScreenAct
  split
  case h_1 => exact refuse _ s
  case h_2 => exact of_reports (.of_link rfl) (ite_eq_or_eq _ _ _)

theorem readScreenAct (screen : Byte) (s : State) : s.answers (readScreenAct screen s) := by
  unfold Machine.readScreenAct
  split
  case h_1 => exact refuse _ s
  case h_2 => exact report _ s

theorem setDeviceAct (body : List Byte) (s : State) : s.answers (setDeviceAct body s) := by
  unfold Machine.setDeviceAct
  split
  case h_1 => exact refuse _ s
  case h_2 => exact of_reports (.of_link rfl) (ite_eq_or_eq _ _ _)

theorem setInterceptAct (member : Bool) (first last : Byte) (s : State) : s.answers (setInterceptAct member first last s) := by
  unfold Machine.setInterceptAct
  split_ifs
  · exact refuse _ s
  · exact refuse _ s
  · exact of_reports (.of_link rfl) (.inl rfl)

/-! ### The loops -/

theorem setLoopAct (b : LoopBody) (s : State) : s.answers (setLoopAct b s) := by
  unfold Machine.setLoopAct
  split
  case h_1 => exact done (.setLoop _ _ _ s)
  case h_2 => exact refuse _ s

theorem sendToStationAct (port : Byte) (body : List Byte) (s : State) : s.answers (sendToStationAct port body s) := by
  unfold Machine.sendToStationAct
  dsimp only
  split_ifs
  · exact refuse _ s
  · exact refuse _ s
  · exact refuse _ s
  · exact refuse _ s
  · exact done (.putLoop _ _ s)

/-! ### The calls -/

theorem openTo (ix : ExtIx) (v : Verdict) (s : State) : s.answers (s.openTo ix v) := by
  unfold State.openTo
  split
  case h_1 => exact refuse _ s
  case h_2 =>
    split
    case isTrue => exact refuse _ s
    case isFalse =>
      split
      case h_2 => exact refuse _ s
      case h_1 q _ _ =>
        split
        case isTrue => exact refuse _ s
        case isFalse =>
          split
          case h_1 => exact refuse _ s
          case h_2 slot _ =>
            have created : s.reports (s.createCall slot (.fresh s.freshId .offered .trunk q ix [] v)) := .of_link rfl
            exact of_reports ((created.trans (.putPort _ _ _)).trans (.offer _ _ _)) (.inl rfl)

theorem openCallAct (index : Word) (v : Byte) (s : State) : s.answers (openCallAct index v s) := by
  unfold Machine.openCallAct
  split
  case h_2 => exact refuse _ s
  case h_1 =>
    split
    case isTrue => exact refuse _ s
    case isFalse => exact openTo _ _ s

theorem connectCallAct (b : ConnectBody) (s : State) : s.answers (connectCallAct b s) := by
  unfold Machine.connectCallAct
  split
  case h_1 => exact refuse _ s
  case h_2 =>
    split
    case isTrue => exact refuse _ s
    case isFalse =>
      split
      case h_1 => exact refuse _ s
      case h_2 =>
        split
        case h_1 => exact refuse _ s
        case h_2 => exact of_reports (.connect _ _ _ s) (ite_eq_or_eq _ _ _)

theorem onCall (id : CallId) {act : Call → State → State × Answer} (h : ∀ c, s.answers (act c s)) :
    s.answers (s.onCall id act) := by
  unfold State.onCall
  split
  case h_1 => exact refuse _ s
  case h_2 => exact h _

theorem holdCallAct (c : Call) (s : State) : s.answers (holdCallAct c s) := by
  unfold Machine.holdCallAct
  split
  case isTrue => exact of_reports (.moveCall _ _ _ s) (.inl rfl)
  case isFalse => exact refuse _ s

theorem retrieveCallAct (c : Call) (s : State) : s.answers (retrieveCallAct c s) := by
  unfold Machine.retrieveCallAct
  split
  case isTrue => exact of_reports (.moveCall _ _ _ s) (.inl rfl)
  case isFalse => exact refuse _ s

theorem refuseCallAct (c : Call) (s : State) : s.answers (refuseCallAct c s) := by
  unfold Machine.refuseCallAct
  split
  case isTrue => exact of_reports (.endCall _ _ s) (.inl rfl)
  case isFalse => exact refuse _ s

theorem clearCallAct (c : Call) (s : State) : s.answers (clearCallAct c s) := of_reports (.endCall _ _ s) (.inl rfl)

theorem readContextAct (context : Byte) (s : State) : s.answers (readContextAct context s) := by
  unfold Machine.readContextAct
  split
  case h_1 => exact refuse _ s
  case h_2 => exact report _ s

/-! ### The key store -/

theorem depositKeysAct (b : DepositBody) (s : State) : s.answers (depositKeysAct b s) := by
  unfold Machine.depositKeysAct
  split_ifs
  · exact refuse _ s
  · exact refuse _ s
  · exact done (.of_link rfl)

theorem startDrawAct (s : State) : s.answers (startDrawAct s) := by
  have running : s.reports { s with supplier := .running } := .of_link rfl
  unfold Machine.startDrawAct
  split
  case h_1 => exact done (running.trans (.servingPass none _))
  case h_2 => exact done (.servingPass none s)
  case h_3 => exact done (.servingPass none s)

theorem resumeDrawAct (s : State) : s.answers (resumeDrawAct s) := by
  unfold Machine.resumeDrawAct
  split
  case h_1 => exact refuse _ s
  case h_2 => exact done (.servingPass none s)
  case h_3 => exact done (.servingPass none s)

theorem holdKeyAct (slot : Byte) (key : Key) (s : State) : s.answers (holdKeyAct slot key s) := by
  unfold Machine.holdKeyAct
  split
  case h_1 => exact refuse _ s
  case h_2 => exact done (.of_link rfl)

theorem dropKeyAct (slot : Byte) (s : State) : s.answers (dropKeyAct slot s) := by
  unfold Machine.dropKeyAct
  split
  case h_1 => exact refuse _ s
  case h_2 => exact done (.of_link rfl)

end State.answers

/-! ### The restarts (R199) -/

/-- The attention set emptied, and an item raised on the line as it stands: what a restart does to the link (R199). -/
theorem State.settles.restart {s t : State} {item : Item} (line : t.line = s.line) (reply : s.reply = none → t.reply = none)
    (attention : t.attention = []) (pending : t.pending = s.pending) : s.settles (t.raise item) := by
  refine State.settles.trans ⟨⟨fun _ => ?_, fun h rest => ?_, pending⟩, reply, fun _ => line, fun _ h r => ?_⟩ (.raise item t)
  · rw [State.attentionWell, attention]
    exact ⟨Nat.zero_le _, .nil⟩
  · exact ⟨reply (h (line ▸ rest)).1, attention⟩
  · rw [line, h]
    nofun

/-- A restart asked for keeps its own frame alone, and its reply is held back (R199). -/
theorem State.answers.restart {s t : State} (settles : s.settles t) (holding : t.holding = s.holding.take 1) :
    s.answers (t, { code := .done, held := true }) where
  settles := settles
  head := by rw [holding, List.head?_take]; rfl
  rest := nofun
  refused done := absurd rfl done

theorem State.answers.restartColdAct (s : State) : s.answers (restartColdAct s) :=
  .restart (.restart rfl (fun _ => rfl) rfl rfl) rfl

theorem State.answers.restartWarmAct (s : State) : s.answers (restartWarmAct s) :=
  .restart (.restart rfl id rfl rfl) rfl

/-! ## The control link's own events (R191 to R194, R200) -/

namespace State.linkKeeps

/-- The arbiter asked: the attention set shrinks at most, and a line then at rest has nothing waiting. -/
theorem arrive {s t : State} {o : Outgoing} (ho : t.outgoing = o.arrive) (attention : o.attention = s.attention)
    (hp : t.pending = s.pending) : s.linkKeeps t := by
  obtain ⟨line, reply, left, -⟩ := Outgoing.mk.inj ho
  refine ⟨fun ⟨length, distinct⟩ => ?_, fun _ rest => ?_, hp⟩
  · have shorter : t.attention <:+ s.attention := left ▸ attention ▸ o.arrive_attention
    exact ⟨shorter.length_le.trans length, distinct.sublist shorter.sublist⟩
  · exact ⟨reply.trans (Outgoing.arrive_rest (line ▸ rest)).1, left.trans (Outgoing.arrive_rest (line ▸ rest)).2⟩

theorem release (r : Reply) (s : State) : s.linkKeeps (s.release r) := arrive rfl rfl rfl

/-- The frame on the line has ended: the arbiter is asked as on a free line (R194). -/
theorem transmitterFree (s : State) : s.linkKeeps (s.withOutgoing s.outgoing.choose) := by
  have asked : s.outgoing.choose = Outgoing.arrive { s.outgoing with line := none } := by
    unfold Outgoing.arrive Outgoing.choose
    cases s.outgoing.reply with
    | some r => rfl
    | none => cases s.outgoing.attention <;> rfl
  exact arrive asked rfl rfl

theorem dropFrame (k : LinkErrorKind) (s : State) : s.linkKeeps (s.dropFrame k) :=
  (of_eq rfl rfl : s.linkKeeps { s with assembling := [] }).trans (State.reports.raise _ _).kept

theorem receiveOctet (s : State) (o : Byte) : s.linkKeeps (s.receiveOctet o) := by
  have hold : ∀ f (t : State), t.linkKeeps (t.hold f) := by
    intro f t
    unfold State.hold
    split_ifs
    · exact (State.reports.raise _ t).kept
    · exact of_eq rfl rfl
    · exact (State.reports.raise _ t).kept
  unfold State.receiveOctet
  dsimp only
  split_ifs
  · exact of_eq rfl rfl
  · exact refl s
  · exact dropFrame _ s
  · unfold State.completeFrame
    split
    · exact (of_eq rfl rfl : s.linkKeeps { s with assembling := [] }).trans (hold _ _)
    · exact dropFrame _ s
  · exact of_eq rfl rfl

theorem lineError (k : LinkErrorKind) (s : State) : s.linkKeeps (s.lineError k) := by
  unfold State.lineError
  split
  · exact refl s
  · exact dropFrame k s

theorem coldStart (cause : RestartCause) (s : State) : s.linkKeeps (s.coldStart cause) := by
  have cold : s.linkKeeps { State.cold with pending := s.pending, freeReads := s.freeReads } :=
    ⟨fun _ => ⟨Nat.zero_le _, .nil⟩, fun _ _ => ⟨rfl, rfl⟩, rfl⟩
  exact cold.trans (State.reports.raise _ _).kept

theorem respond (f : Frame) (a : Answer) (s : State) : s.linkKeeps (s.respond f a) := by
  unfold State.respond
  dsimp only
  split
  · exact of_eq rfl rfl
  · exact release _ s

/-- A request whose owner keeps to its duties (R193). -/
theorem serve (i : Instr) {act : State → State × Answer} (ha : ∀ t : State, t.answers (act t)) (s : State) :
    s.linkKeeps (s.serve i act) := by
  unfold State.serve
  split
  case h_2 => exact refl s
  case h_1 f _ =>
    unfold State.request
    split
    case isFalse => exact refl s
    case isTrue =>
      have admitted : s.linkKeeps (s.admitFrame f) := of_eq rfl rfl
      exact (admitted.trans (ha _).settles.kept).trans (respond f _ _)

end State.linkKeeps

/-! ## Every command -/

/-- How a command meets the control link: as a request whose owner answers it, as an event, or as an unknown request whose
frame is not one. -/
inductive LinkRole (i : Instr) : Prop
  | request (act : State → State × Answer) (served : ∀ s, exec i s = .next (s.serve i act))
      (sound : ∀ s : State, s.answers (act s))
  | event (unspelt : i.frame? = none) (kept : ∀ s, ∃ t, exec i s = .next t ∧ s.linkKeeps t)
  | idle (bad : i.wellFormed = false) (idles : ∀ s, exec i s = .next s)

/-- An event that does nothing to the link but raise items. -/
theorem LinkRole.of_reports {i : Instr} (unspelt : i.frame? = none) (h : ∀ s, ∃ t, exec i s = .next t ∧ s.reports t) :
    LinkRole i :=
  .event unspelt fun s => (h s).imp fun _ ⟨ht, k⟩ => ⟨ht, k.kept⟩

theorem linkRole (i : Instr) : LinkRole i := by
  cases i with
  | powerUp => exact .event rfl fun s => ⟨_, rfl, .coldStart _ s⟩
  | resetLine => exact .event rfl fun s => ⟨_, rfl, .coldStart _ s⟩
  | controlFrameReceived octets => exact .event rfl fun s => ⟨_, rfl, .foldl State.linkKeeps.receiveOctet octets s⟩
  | linkGap => exact .event rfl fun s => ⟨_, rfl, .lineError _ s⟩
  | linkFramingError => exact .event rfl fun s => ⟨_, rfl, .lineError _ s⟩
  | linkLengthError octet =>
    refine .event rfl fun s => ⟨_, rfl, ?_⟩
    split
    case isTrue => exact .dropFrame _ s
    case isFalse => exact .refl s
  | replyReleased =>
    refine .event rfl fun s => ⟨_, rfl, ?_⟩
    split
    case h_2 => exact .refl s
    case h_1 =>
      split
      case isTrue => exact .release _ s
      case isFalse => exact .refl s
  | transmitterFree => exact .event rfl fun s => ⟨_, rfl, .transmitterFree s⟩
  | unknownRequestKind kind tag body =>
    by_cases h : (Frame.mk kind tag body).isRequestKind ∧ decodeRequest ⟨kind, tag, body⟩ = none
    · exact .request _ (fun s => congrArg _ (if_pos h)) (.refuse .badRequest)
    · refine .idle ?_ fun s => congrArg _ (if_neg h)
      simp only [Instr.wellFormed, Bool.and_eq_false_iff, Option.isNone_eq_false_iff, Option.isSome_iff_ne_none]
      rw [not_and_or, Bool.not_eq_true] at h
      exact .inr h
  | enterExtension tag body => exact .request _ (fun _ => rfl) (.enterAct body)
  | eraseExtension tag index => exact .request _ (fun _ => rfl) fun s => .onEntry index fun ix e => .eraseEntry ix e s
  | unlockExtension tag index => exact .request _ (fun _ => rfl) fun s => .onEntry index fun ix e => .unlockEntry ix e s
  | readExtension tag index => exact .request _ (fun _ => rfl) fun s => .onEntry index fun ix e => .readEntry ix e s
  | setClass tag body => exact .request _ (fun _ => rfl) (.setClassAct body)
  | readClass tag cls => exact .request _ (fun _ => rfl) (.readClassAct cls)
  | readPort tag port => exact .request _ (fun _ => rfl) fun s => .report _ s
  | setScreen tag body => exact .request _ (fun _ => rfl) (.setScreenAct body)
  | readScreen tag screen => exact .request _ (fun _ => rfl) (.readScreenAct screen)
  | setLoop tag body => exact .request _ (fun _ => rfl) (.setLoopAct body)
  | sendToStation tag port body => exact .request _ (fun _ => rfl) (.sendToStationAct port body)
  | setInterceptSet tag first last => exact .request _ (fun _ => rfl) (.setInterceptAct true first last)
  | setInterceptClear tag first last => exact .request _ (fun _ => rfl) (.setInterceptAct false first last)
  | openCall tag index verdict => exact .request _ (fun _ => rfl) (.openCallAct index verdict)
  | connectCall tag body => exact .request _ (fun _ => rfl) (.connectCallAct body)
  | holdCall tag call => exact .request _ (fun _ => rfl) fun s => .onCall call fun c => .holdCallAct c s
  | retrieveCall tag call => exact .request _ (fun _ => rfl) fun s => .onCall call fun c => .retrieveCallAct c s
  | refuseCall tag call => exact .request _ (fun _ => rfl) fun s => .onCall call fun c => .refuseCallAct c s
  | clearCall tag call => exact .request _ (fun _ => rfl) fun s => .onCall call fun c => .clearCallAct c s
  | readCall tag call => exact .request _ (fun _ => rfl) fun s => .onCall call fun _ => .report _ s
  | depositKeys tag body => exact .request _ (fun _ => rfl) (.depositKeysAct body)
  | startDraw tag => exact .request _ (fun _ => rfl) .startDrawAct
  | stopDraw tag => exact .request _ (fun _ => rfl) fun s => .done (.of_link rfl)
  | resumeDraw tag => exact .request _ (fun _ => rfl) .resumeDrawAct
  | holdKey tag slot key => exact .request _ (fun _ => rfl) (.holdKeyAct slot key)
  | dropKey tag slot => exact .request _ (fun _ => rfl) (.dropKeyAct slot)
  | readKeys tag => exact .request _ (fun _ => rfl) fun s => .report _ s
  | readContext tag context => exact .request _ (fun _ => rfl) (.readContextAct context)
  | setDevice tag body => exact .request _ (fun _ => rfl) (.setDeviceAct body)
  | readDevice tag => exact .request _ (fun _ => rfl) fun s => .report _ s
  | restartCold tag => exact .request _ (fun _ => rfl) .restartColdAct
  | restartWarm tag => exact .request _ (fun _ => rfl) .restartWarmAct
  | loopTurnStart loop => exact .of_reports rfl fun s => ⟨_, rfl, .putLoop _ _ s⟩
  | blockSent loop => exact .of_reports rfl fun s => ⟨_, rfl, .blockSent loop s⟩
  | replyWindowTimeout loop => exact .of_reports rfl fun s => ⟨_, rfl, .windowTimeout loop s⟩
  | stationReply loop chars =>
    refine .of_reports rfl fun s => ⟨_, rfl, ?_⟩
    split
    case isTrue => exact .refl s
    case isFalse => exact .stationReply loop chars s
  | loopBreak loop => exact .of_reports rfl fun s => ⟨_, rfl, .loopBreak loop s⟩
  | loopRestore loop => exact .of_reports rfl fun s => ⟨_, rfl, .loopRestore loop s⟩
  | feature port body => exact .of_reports rfl fun s => ⟨_, rfl, .takeBlock port _ (.raise _) s⟩
  | register port number => exact .of_reports rfl fun s => ⟨_, rfl, .takeBlock port _ (.registerBlock port number) s⟩
  | answer port response => exact .of_reports rfl fun s => ⟨_, rfl, .takeBlock port _ (.answerBlock port response) s⟩
  | checkIn port => exact .of_reports rfl fun s => ⟨_, rfl, .takeBlock port _ (.checkInBlock port) s⟩
  | answerTimeExpiry index => exact .of_reports rfl fun s => ⟨_, rfl, .answerExpiry index s⟩
  | refreshExpiry index => exact .of_reports rfl fun s => ⟨_, rfl, .refreshEnd index s⟩
  | lockExpiry index => exact .of_reports rfl fun s => ⟨_, rfl, .lockEnd index s⟩
  | offHook port => exact .of_reports rfl fun s => ⟨_, rfl, .takeBlock port _ (.offHookBlock port) s⟩
  | onHook port => exact .of_reports rfl fun s => ⟨_, rfl, .takeBlock port _ (.onHookBlock port) s⟩
  | digits port endFlag codes => exact .of_reports rfl fun s => ⟨_, rfl, .takeBlock port _ (.digitsBlock port endFlag codes) s⟩
  | interdigitExpiry port => exact .of_reports rfl fun s => ⟨_, rfl, .interdigitEnd port s⟩
  | keyWaitExpiry context =>
    refine .of_reports rfl fun s => ⟨_, rfl, ?_⟩
    split
    case isTrue => exact (State.reports.of_link rfl : s.reports (s.leaveQueue context)).trans (.applyPolicy context _)
    case isFalse => exact .refl s
  | framePulse sinceFrame sincePulse inputs =>
    refine .of_reports rfl fun s => ⟨_, rfl, ?_⟩
    split
    case h_1 => exact .acceptPulse sinceFrame inputs s
    case h_2 => exact .restorePulse sincePulse inputs s
  | pulseMissing inputs =>
    refine .of_reports rfl fun s => ⟨_, rfl, ?_⟩
    split
    case h_1 => exact .missPulse inputs s
    case h_2 => exact .refl s
  | holdoverFrame =>
    refine .of_reports rfl fun s => ⟨_, rfl, ?_⟩
    split
    case h_1 => exact .unservedFrame s
    case h_2 => exact .refl s
  | restoreRunTimeout =>
    refine .of_reports rfl fun s => ⟨_, rfl, ?_⟩
    split
    case h_1 => exact .timeBase _ s
    case h_2 => exact .refl s

/-- Every command answers a next state, with the attention set and the line at rest kept well, and the queue as it was. -/
theorem exec_linkKeeps (i : Instr) (s : State) : ∃ t, exec i s = .next t ∧ s.linkKeeps t := by
  cases linkRole i with
  | request act served sound => exact ⟨_, served s, .serve i sound s⟩
  | event _ kept => exact kept s
  | idle _ idles => exact ⟨s, idles s, .refl s⟩

/-- Settles O2: an empty queue idles, and a command answers a next state with the queue as it was. -/
theorem everyStepAnswersANextState : Obligations.EveryStepAnswersANextState := by
  refine ⟨fun s h => ?_, fun i s => ?_⟩
  · rw [step, h]
  · obtain ⟨t, ht, kept⟩ := exec_linkKeeps i s
    exact ⟨t, ht, kept.pending⟩

/-- A step keeps the attention set well, and a line at rest with nothing waiting. -/
theorem step_linkWell {s t : State} (ht : step s = .next t) :
    (s.attentionWell → t.attentionWell) ∧ (s.lineWell → t.lineWell) := by
  unfold step at ht
  split at ht
  case h_1 => cases ht; exact ⟨id, id⟩
  case h_2 c rest _ =>
    obtain ⟨u, hu, kept⟩ := exec_linkKeeps c { s with pending := rest }
    cases hu.symm.trans ht
    exact ⟨kept.attention, kept.line⟩

/-- Settles O8: items are raised, replies released and the arbiter asked, and each keeps both. -/
theorem attentionSetStaysWell : Obligations.AttentionSetStaysWell :=
  ⟨fun _ _ h ht => (step_linkWell ht).1 h, fun _ _ h ht => (step_linkWell ht).2 h⟩

end Sys2Proof.Machine

/-!
PROOFS. Requests answered once, and refused without a change (O15, O16; R115, R193).
-/

namespace Sys2Proof.Machine

/-! ## A request taken -/

/-- A frame the link takes finds nothing handled and no reply waiting, and heads the holding or arrives at an empty one. -/
theorem State.takes_iff {f : Frame} {s : State} : s.takes f = true ↔ s.handling = none ∧ s.reply = none ∧ f.fits = true ∧
    (s.holding.head? = some f ∨ s.holding = [] ∧ s.assembling = []) := by
  unfold State.takes
  cases s.holding with
  | nil => simp [and_assoc]
  | cons g rest => simp [and_assoc]

/-- The frame of a taken request heads the holding while it is handled (R192). -/
theorem State.admitFrame_head {f : Frame} {s : State} (h : s.takes f = true) : (s.admitFrame f).holding.head? = some f := by
  obtain ⟨-, -, -, head | ⟨empty, -⟩⟩ := State.takes_iff.mp h
  · obtain ⟨rest, hr⟩ := List.head?_eq_some_iff.mp head
    simp [hr]
  · simp [empty]

/-- The reply a request's owner gives (R193). -/
def Answer.reply (f : Frame) (a : Answer) : Reply := ⟨f.kind, f.tag, a.code, a.data⟩

section Respond

variable {f : Frame} {s : State} {a : Answer}

theorem State.respond_held (h : a.held = true) : s.respond f a = { s with handling := some ⟨a.reply f, false⟩ } := by
  rw [State.respond]
  exact if_pos h

theorem State.respond_busy (h : a.held = false) (hl : s.line ≠ none) : s.respond f a =
    { s with holding := s.holding.tail, handling := none, reply := some (a.reply f) } := by
  rw [State.respond]
  exact (if_neg (by simp [h])).trans (State.postReply_busy _ hl)

theorem State.respond_free (h : a.held = false) (hl : s.line = none) : s.respond f a =
    { s with holding := s.holding.tail, handling := none, line := some (.reply (a.reply f)), reply := none } := by
  rw [State.respond]
  exact (if_neg (by simp [h])).trans (State.postReply_free _ hl)

end Respond

section Taken

variable {f : Frame} {s : State} {act : State → State × Answer}

/-- A request taken is answered once: its reply is released, to wait for the frame on the line or onto a line at rest, or held
back with its frame at the head of the holding (R115, R193, R194). -/
theorem State.request_once (h : s.takes f = true) (sound : ∀ t : State, t.answers (act t)) :
    ((s.request f act).handling = none ∧ (s.request f act).holding = s.holding.tail ∧
        ((s.request f act).reply = some ((act (s.admitFrame f)).2.reply f) ∨
          (s.line = none ∧ (s.request f act).line = some (.reply ((act (s.admitFrame f)).2.reply f)) ∧
            (s.request f act).reply = none))) ∨
      ((s.request f act).reply = none ∧ (s.request f act).handling = some ⟨(act (s.admitFrame f)).2.reply f, false⟩ ∧
        (s.request f act).holding.head? = some f) := by
  obtain ⟨-, noReply, -⟩ := State.takes_iff.mp h
  obtain ⟨settles, head, rest, -⟩ := sound (s.admitFrame f)
  rw [State.request_taken h]
  generalize act (s.admitFrame f) = r at settles head rest
  cases held : r.2.held with
  | true =>
    rw [State.respond_held held]
    exact .inr ⟨settles.reply noReply, rfl, head.trans (State.admitFrame_head h)⟩
  | false =>
    have tail : r.1.holding.tail = s.holding.tail := by rw [rest held, State.admitFrame_holding_tail]
    by_cases free : r.1.line = none
    · have rested : s.line = none := by
        by_contra busy
        exact busy ((settles.busy busy).symm.trans free)
      rw [State.respond_free held free]
      exact .inl ⟨rfl, tail, .inr ⟨rested, rfl, rfl⟩⟩
    · rw [State.respond_busy held free]
      exact .inl ⟨rfl, tail, .inl rfl⟩

/-- A reply that a request brings to wait, or to a line at rest, is the one its owner gives. -/
theorem State.request_reply (h : s.takes f = true) (sound : ∀ t : State, t.answers (act t)) {q : Reply}
    (hq : (s.request f act).reply = some q ∨ s.line = none ∧ (s.request f act).line = some (.reply q)) :
    q = (act (s.admitFrame f)).2.reply f := by
  obtain ⟨-, noReply, -⟩ := State.takes_iff.mp h
  have settles := (sound (s.admitFrame f)).settles
  rw [State.request_taken h] at hq
  generalize act (s.admitFrame f) = r at settles hq
  have idle (hl : s.line = none) : r.1.line ≠ some (.reply q) := settles.free noReply hl q
  cases held : r.2.held with
  | true =>
    rw [State.respond_held held] at hq
    rcases hq with hq | ⟨hl, hq⟩
    · cases (settles.reply noReply).symm.trans hq
    · exact absurd hq (idle hl)
  | false =>
    by_cases free : r.1.line = none
    · rw [State.respond_free held free] at hq
      rcases hq with hq | ⟨-, hq⟩
      · cases hq
      · cases hq; rfl
    · rw [State.respond_busy held free] at hq
      rcases hq with hq | ⟨hl, hq⟩
      · cases hq; rfl
      · exact absurd hq (idle hl)

/-- A request refused changes nothing (R193). -/
theorem State.request_refused (h : s.takes f = true) (sound : ∀ t : State, t.answers (act t))
    (done : (act (s.admitFrame f)).2.code ≠ .done) (adjusted : (act (s.admitFrame f)).2.code ≠ .adjusted) :
    s.request f act = s.replied f (act (s.admitFrame f)).2.code [] := by
  rw [State.request_taken h, ← State.respond_replied, (sound _).refused done adjusted]
  rfl

/-- The reply of a request refused is not held back (R115). -/
theorem State.request_handling (h : s.takes f = true) (sound : ∀ t : State, t.answers (act t)) {k : HeldReply}
    (hk : (s.request f act).handling = some k) : k.reply.code = .done ∨ k.reply.code = .adjusted := by
  by_contra refused
  obtain ⟨done, adjusted⟩ := not_or.mp refused
  rcases State.request_once h sound with ⟨none, -⟩ | ⟨-, held, -⟩
  · cases none.symm.trans hk
  · cases held.symm.trans hk
    rw [State.request_refused h sound done adjusted] at held
    unfold State.replied at held
    split at held <;> cases held

end Taken

/-! ## Every request -/

/-- A well-formed command that spells a frame is a request whose owner answers it. -/
theorem exec_request {i : Instr} {f : Frame} (hf : i.frame? = some f) (hw : i.wellFormed = true) :
    ∃ act : State → State × Answer, (∀ s, exec i s = .next (s.request f act)) ∧ ∀ s : State, s.answers (act s) := by
  cases linkRole i with
  | request act served sound => exact ⟨act, fun s => (served s).trans (by rw [State.serve_frame hf]), sound⟩
  | event unspelt _ => cases unspelt.symm.trans hf
  | idle bad _ => cases bad.symm.trans hw

/-- A frame of a request kind that spells no request is refused (R193, R201). -/
theorem execUnknownRequestKind_refused {kind tag : Byte} {body : List Byte} {s : State}
    (ht : s.takes ⟨kind, tag, body⟩ = true) (hk : 1 ≤ kind.toNat ∧ kind.toNat ≤ 125)
    (hd : decodeRequest ⟨kind, tag, body⟩ = none) :
    exec (.unknownRequestKind kind tag body) s = .next (s.replied ⟨kind, tag, body⟩ .badRequest []) := by
  have request : (Frame.mk kind tag body).isRequestKind = true := by simp [Frame.isRequestKind, hk]
  exact congrArg _ ((if_pos ⟨request, hd⟩).trans (State.serve_refused rfl ht rfl))

/-- Settles O15: an unknown request is refused, a request taken is answered once, one not taken waits. -/
theorem everyRequestIsAnsweredOnce : Obligations.EveryRequestIsAnsweredOnce := by
  refine ⟨fun kind tag body s ht h1 h2 hd => execUnknownRequestKind_refused ht ⟨h1, h2⟩ hd,
    fun i f s hw hf ht => ?taken, fun i f s hf ht => ?waits⟩
  case taken =>
    obtain ⟨act, served, sound⟩ := exec_request hf hw
    exact ⟨_, (act (s.admitFrame f)).2.reply f, served s, rfl, rfl, State.request_once ht sound⟩
  case waits =>
    cases linkRole i with
    | request act served _ => rw [served, State.serve_frame hf, State.request_waits ht]
    | event unspelt _ => cases unspelt.symm.trans hf
    | idle _ idles => exact idles s

/-- Settles O16: an owner that gives another code than DONE and ADJUSTED has done nothing and does not hold its reply back. -/
theorem refusedRequestsChangeNothing : Obligations.RefusedRequestsChangeNothing := by
  intro i f s t hf ht he
  cases linkRole i with
  | request act served sound =>
    rw [served, State.serve_frame hf] at he
    cases he
    refine ⟨fun r hr done adjusted => ?_, fun k hk => State.request_handling ht sound hk⟩
    obtain rfl := State.request_reply ht sound hr
    exact State.request_refused ht sound done adjusted
  | event unspelt _ => cases unspelt.symm.trans hf
  | idle _ idles =>
    rw [idles] at he
    cases he
    obtain ⟨noHandling, noReply, -⟩ := State.takes_iff.mp ht
    refine ⟨fun r hr => ?_, fun k hk => nomatch noHandling.symm.trans hk⟩
    rcases hr with hr | ⟨rest, hr⟩
    · cases noReply.symm.trans hr
    · cases rest.symm.trans hr

end Sys2Proof.Machine

/-!
PROOFS. Power-up and the restarts (O3, O4, O5; R18, R156, R199, R200).
-/

namespace Sys2Proof.Machine

/-! ## The link after a restart -/

section Restarted

variable {s : State} (item : Item) (hr : s.reply = none) (ha : s.attention = []) (hl : s.lost = false)
include hr ha hl

/-- An item raised when nothing waits goes on a free line, or waits alone for the frame on a busy one (R194, R195). -/
theorem State.raise_cleared :
    (s.line = none → (s.raise item).line = some (.report item false) ∧ (s.raise item).attention = []) ∧
      (s.line ≠ none → (s.raise item).line = s.line ∧ (s.raise item).attention = [item]) ∧
      (s.raise item).lost = false ∧ (s.raise item).reply = none := by
  by_cases free : s.line = none
  · rw [State.raise_free item free hr ha]
    exact ⟨fun _ => ⟨by rw [hl], ha⟩, fun busy => absurd free busy, rfl, hr⟩
  · rw [State.raise_busy item free, ha, hl]
    exact ⟨fun rest => absurd rest free, fun _ => ⟨rfl, rfl⟩, rfl, hr⟩

end Restarted

/-- A restart asked for is carried out at once, and its reply is held back (R115, R199). -/
theorem State.serve_held {i : Instr} {f : Frame} {s : State} {act : State → State × Answer} (hf : i.frame? = some f)
    (ht : s.takes f = true) (held : (act (s.admitFrame f)).2.held = true) : s.serve i act =
      { (act (s.admitFrame f)).1 with handling := some ⟨(act (s.admitFrame f)).2.reply f, false⟩ } := by
  rw [State.serve_frame hf, State.request_taken ht, State.respond_held held]

/-- Of the holding, the frame of the restart stays. -/
theorem State.admitFrame_first {f : Frame} {s : State} (h : s.takes f = true) : (s.admitFrame f).holding.take 1 = [f] := by
  rw [List.take_one, State.admitFrame_head h]
  rfl

/-! ## Cold restarts (R200) -/

theorem State.cold_coldValues : State.cold.coldValues := by
  constructor
  case nonce => exact ⟨rfl, rfl⟩
  case settings => exact ⟨rfl, rfl, rfl⟩
  case timeBase => rfl
  case calls => exact ⟨fun _ => Table.get_replicate _ _, rfl⟩
  case ring => exact ⟨fun _ => Table.get_replicate _ _, rfl, rfl, rfl⟩
  all_goals exact fun _ => Table.get_replicate _ _

/-- Settles O3: State.reset is State.cold but for its line. -/
theorem resetHoldsColdValues : Obligations.ResetHoldsColdValues :=
  ⟨{ State.cold_coldValues with }, ⟨rfl, rfl, rfl, rfl, rfl, rfl⟩, rfl, rfl, rfl⟩

/-- A cold restart that no request asked for has its item on the line (R194, R200). -/
theorem State.coldStart_eq (cause : RestartCause) (s : State) : s.coldStart cause =
    { State.cold with
      line := some (.report (.restarted .cold cause) false), pending := s.pending, freeReads := s.freeReads } := rfl

/-- Settles O4: power-up and the reset line leave the cold state with the item on the line, RESTART with its frame too. -/
theorem coldRestartsLeaveColdValues : Obligations.ColdRestartsLeaveColdValues := by
  refine ⟨fun s => ?_, fun s => ?_, fun tag s ht => ?_⟩
  · exact ⟨_, congrArg Host.Outcome.next (s.coldStart_eq .power), { State.cold_coldValues with },
      ⟨rfl, rfl, rfl, rfl, rfl, rfl⟩, rfl, rfl⟩
  · exact ⟨_, congrArg Host.Outcome.next (s.coldStart_eq .reset), { State.cold_coldValues with },
      ⟨rfl, rfl, rfl, rfl, rfl, rfl⟩, rfl, rfl⟩
  · have served := State.serve_held (i := .restartCold tag) (act := restartColdAct) rfl ht rfl
    obtain ⟨free, busy, lost, reply⟩ := State.raise_cleared (.restarted .cold .request) (s := { State.cold with
      holding := (s.admitFrame ⟨7, tag, [0]⟩).holding.take 1
      line := s.line
      pending := s.pending
      freeReads := s.freeReads }) rfl rfl rfl
    exact ⟨_, congrArg Host.Outcome.next served, { State.cold_coldValues with }, free, busy, lost, rfl,
      State.admitFrame_first ht, rfl, reply, rfl⟩

/-! ## The warm restart (R199) -/

theorem Supplier.warm_eq (x : Supplier) : x.warm = if x = .stopped then .stopped else .running := by cases x <;> rfl

/-- Settles O5: what `State.warmBlocks` keeps and clears, and the link cleared but for the line and the request's frame. -/
theorem warmRestartKeepsTheSettings : Obligations.WarmRestartKeepsTheSettings := by
  intro tag s ht
  have served := State.serve_held (i := .restartWarm tag) (act := restartWarmAct) rfl ht rfl
  obtain ⟨-, noReply, -⟩ := State.takes_iff.mp ht
  obtain ⟨free, busy, lost, reply⟩ := State.raise_cleared (.restarted .warm .request) (s := {
    (s.admitFrame ⟨7, tag, [1]⟩).warmBlocks with
      assembling := []
      holding := (s.admitFrame ⟨7, tag, [1]⟩).holding.take 1
      attention := []
      lost := false }) noReply rfl rfl
  refine ⟨_, congrArg Host.Outcome.next served, ⟨rfl, rfl, rfl, rfl, rfl, rfl, rfl, rfl, rfl, rfl, rfl, rfl, rfl⟩, ?flight,
    ⟨free, busy, lost, State.admitFrame_first ht, rfl, reply, rfl⟩, fun l => ?loop⟩
  case flight =>
    exact ⟨fun _ => Table.get_replicate _ _, fun _ => Table.get_replicate _ _, rfl, fun _ => Table.get_replicate _ _, rfl,
      s.supplier.warm_eq⟩
  case loop =>
    obtain ⟨-, -, loop⟩ := execRestartWarm_blocks ht (congrArg Host.Outcome.next served)
    rw [loop, State.loop_warmBlocks]
    exact ⟨rfl, rfl, rfl, rfl, rfl, rfl⟩

end Sys2Proof.Machine

/-!
PROOFS. The arbiter and the attention set (O14, O17; R115, R193 to R196).
-/

namespace Sys2Proof.Machine

/-! ## The arbiter's choice (R194, R196) -/

section Arbiter

variable {s : State}

theorem exec_transmitterFree (s : State) : exec .transmitterFree s = .next (s.withOutgoing s.outgoing.choose) := rfl

theorem execTransmitterFree_reply {r : Reply} (hr : s.reply = some r) :
    exec .transmitterFree s = .next { s with line := some (.reply r), reply := none } := by
  simp only [exec_transmitterFree, State.withOutgoing, State.outgoing, Outgoing.choose, hr]

theorem execTransmitterFree_item {item : Item} {rest : List Item} (hr : s.reply = none) (ha : s.attention = item :: rest) :
    exec .transmitterFree s =
      .next { s with line := some (.report item s.lost), attention := rest, lost := false } := by
  simp only [exec_transmitterFree, State.withOutgoing, State.outgoing, Outgoing.choose, hr, ha]

theorem execTransmitterFree_rest (hr : s.reply = none) (ha : s.attention = []) :
    exec .transmitterFree s = .next { s with line := none } := by
  simp only [exec_transmitterFree, State.withOutgoing, State.outgoing, Outgoing.choose, hr, ha]

/-- The arbiter does not look at the line it chooses for. -/
theorem Outgoing.choose_line (o : Outgoing) (x : Option Sending) : Outgoing.choose { o with line := x } = o.choose := by
  unfold Outgoing.choose
  cases o.reply with
  | some r => rfl
  | none => cases o.attention <;> rfl

end Arbiter

/-! ## A reply held back (R115) -/

section Held

variable {s : State} {r : Reply}

theorem execReplyReleased_seen (h : s.handling = some ⟨r, true⟩) : exec .replyReleased s = .next (s.release r) := by
  simp [exec, execReplyReleased, h]

theorem execReplyReleased_unseen (h : s.handling = some ⟨r, false⟩) : exec .replyReleased s = .next s := by
  simp [exec, execReplyReleased, h]

/-- Whether a tick falls in it or not, a frame that begins marks the reply held back. -/
theorem State.beginFrame_handling (s : State) : s.beginFrame.handling = s.handling.map HeldReply.seen := by
  unfold State.beginFrame State.tick
  dsimp only
  split
  case isFalse => rfl
  case isTrue => split <;> rfl

end Held

/-- Settles O14: the arbiter's three choices, the octets of a reply and a report, and a reply held back. -/
theorem arbiterSendsReplyThenOldestItem : Obligations.ArbiterSendsReplyThenOldestItem := by
  refine ⟨⟨fun s r => execTransmitterFree_reply, fun s item rest => execTransmitterFree_item,
    fun s => execTransmitterFree_rest, fun r => rfl, fun item lost => ?octets⟩, fun s r h => ⟨fun busy => ?busy,
    fun free => ?free⟩, fun s r => execReplyReleased_unseen, fun s h hh => ?frame⟩
  case octets => simp [Sending.octets, Item.frame, flagOctet]
  case busy => exact (execReplyReleased_seen h).trans (congrArg _ (State.postReply_busy r busy))
  case free => exact (execReplyReleased_seen h).trans (congrArg _ (State.postReply_free r free))
  case frame => rw [State.beginFrame_handling, hh]; rfl

/-! ## An item offered (R195) -/

section Offered

variable {item : Item} {set : List Item}

theorem Item.same_comm (a b : Item) : a.same b = b.same a := by
  rw [Bool.eq_iff_iff, Item.same_iff, Item.same_iff, eq_comm (a := a.type), eq_comm (a := a.subject)]

/-- No pending item names the same event. -/
theorem offerItem_new (h : ∀ i ∈ set, i.type = item.type → i.subject ≠ item.subject) (lost : Bool) :
    offerItem item set lost = if set.length < 128 then (set ++ [item], lost) else (set, true) := by
  refine if_neg fun any => ?_
  obtain ⟨i, hi, same⟩ := List.any_eq_true.mp any
  obtain ⟨type, subject⟩ := Item.same_iff.mp same
  exact h i hi type.symm subject.symm

/-- An item offered takes the place of the pending one that names the same event, and of no other. -/
theorem offerItem_pending {pre post : List Item} {old : Item} (hd : (pre ++ old :: post).Pairwise fun a b => a.same b = false)
    (h : item.same old = true) (lost : Bool) :
    offerItem item (pre ++ old :: post) lost = (pre ++ item :: post, lost) := by
  obtain ⟨-, after, before⟩ := List.pairwise_append.mp hd
  have alike (i : Item) : item.same i = old.same i := Item.same_congr (Item.same_iff.mp h) ⟨rfl, rfl⟩
  have others (i : Item) (hi : i ∈ pre ∨ i ∈ post) : item.same i = false := by
    rw [alike]
    rcases hi with hi | hi
    · exact (Item.same_comm old i).trans (before i hi old List.mem_cons_self)
    · exact (List.pairwise_cons.mp after).1 i hi
  have kept : ∀ l : List Item, (∀ i ∈ l, item.same i = false) → l.map (fun i => if item.same i then item else i) = l :=
    fun l hl => (List.map_congr_left fun i hi => by rw [hl i hi]; rfl).trans l.map_id
  have any : (pre ++ old :: post).any (item.same ·) = true := List.any_eq_true.mpr ⟨old, by simp, h⟩
  rw [offerItem, if_pos any, List.map_append, List.map_cons, if_pos h, kept pre fun i hi => others i (.inl hi),
    kept post fun i hi => others i (.inr hi)]

end Offered

/-- Settles O17: the three cases of an item offered while the line is busy, and the arbiter asked while it is free. -/
theorem attentionItemReplacesOrJoins : Obligations.AttentionItemReplacesOrJoins := by
  refine ⟨fun s pre post old item busy ha type subject well => ?replaced, fun s item busy new room => ?joins,
    fun s item busy new full => ?lost, fun s item free well => ?sent, fun s item x free => ?chosen⟩
  case replaced =>
    rw [State.raise_busy item busy, ha, offerItem_pending (ha ▸ well.2) (Item.same_iff.mpr ⟨type.symm, subject.symm⟩)]
  case joins => rw [State.raise_busy item busy, offerItem_new new, if_pos room]
  case lost => rw [State.raise_busy item busy, offerItem_new new, if_neg (Nat.not_lt.mpr full)]
  case sent => exact State.raise_free item free (well free).1 (well free).2
  case chosen =>
    have asked : s.raise item = s.withOutgoing (Outgoing.choose { s.outgoing with
        attention := (offerItem item s.attention s.lost).1, lost := (offerItem item s.attention s.lost).2 }) :=
      congrArg s.withOutgoing (if_pos (Option.isNone_iff_eq_none.mpr free))
    rw [State.raise_busy item (s := { s with line := some x }) nofun, exec_transmitterFree, asked,
      ← Outgoing.choose_line _ (some x)]
    rfl

end Sys2Proof.Machine

/-!
PROOFS. Frames received octet by octet, joined to the holding or discarded (O13; R190 to R192).
-/

namespace Sys2Proof.Machine

/-! ## Words in octets (R201) -/

/-- The octets of a word spell it. -/
theorem wordOf_wordOctets (w : Word) : ∃ hi lo, wordOctets w = [hi, lo] ∧ wordOf hi lo = w := by
  refine ⟨_, _, rfl, BitVec.eq_of_toNat_eq ?_⟩
  have := w.isLt
  simp only [wordOf, BitVec.toNat_ofNat]
  omega

/-- The number that two octets spell. -/
theorem toNat_wordOf (hi lo : Byte) : (wordOf hi lo).toNat = hi.toNat * 256 + lo.toNat := by
  have := hi.isLt
  have := lo.isLt
  simp only [wordOf, BitVec.toNat_ofNat]
  omega

theorem wordOctets_wordOf (hi lo : Byte) : wordOctets (wordOf hi lo) = [hi, lo] := by
  have := hi.isLt
  have := lo.isLt
  rw [wordOctets, toNat_wordOf]
  congr 1
  · apply BitVec.eq_of_toNat_eq
    simp only [BitVec.toNat_ofNat]
    omega
  · congr 1
    apply BitVec.eq_of_toNat_eq
    simp only [BitVec.toNat_ofNat]
    omega

/-! ## The receiver (R191) -/

section Receiver

variable {s : State}

/-- Nothing being assembled, an emptied assembly is no change. -/
theorem State.assembling_nil (h : s.assembling = []) : { s with assembling := [] } = s := by
  rw [← h]

theorem State.receiveOctet_start (h : s.assembling = []) : s.receiveOctet 90 = { s with assembling := [90] } := by
  simp [State.receiveOctet, h]

theorem State.receiveOctet_other (h : s.assembling = []) {o : Byte} (ho : o ≠ 90) : s.receiveOctet o = s := by
  simp only [State.receiveOctet, h, List.isEmpty_nil, if_true]
  exact if_neg ho

/-- An octet that neither shows a bad length nor completes the frame joins those before it. -/
theorem State.receiveOctet_collects {os : List Byte} {o : Byte} (hne : os ≠ [])
    (good : ¬ (os.length + 1 = 3 ∧ badLength (carriedLength (os ++ [o])) = true))
    (more : ¬ (3 < os.length + 1 ∧ os.length + 1 = 5 + carriedLength (os ++ [o]))) :
    { s with assembling := os }.receiveOctet o = { s with assembling := os ++ [o] } := by
  simp only [State.receiveOctet, List.isEmpty_iff, hne, if_false, List.length_append, List.length_singleton, good, more]

/-- The octet that completes the frame. -/
theorem State.receiveOctet_completes {os : List Byte} {o : Byte} (hlen : 3 < os.length + 1)
    (last : os.length + 1 = 5 + carriedLength (os ++ [o])) :
    { s with assembling := os }.receiveOctet o = s.completeFrame (os ++ [o]) := by
  have hne : os ≠ [] := by rintro rfl; simp at hlen
  have long : ¬ (os.length + 1 = 3 ∧ badLength (carriedLength (os ++ [o])) = true) := by omega
  simp only [State.receiveOctet, List.isEmpty_iff, hne, if_false, List.length_append, List.length_singleton, long]
  exact if_pos ⟨hlen, last⟩

/-- The octets of a frame short of its last one are collected. -/
theorem State.receive_short (h : s.assembling = []) {hi lo : Byte} (good : badLength (wordOf hi lo).toNat = false)
    {os : List Byte} (short : os.length < (wordOf hi lo).toNat + 2) :
    (90 :: hi :: lo :: os).foldl State.receiveOctet s = { s with assembling := 90 :: hi :: lo :: os } := by
  induction os using List.reverseRecOn with
  | nil =>
    rw [List.foldl_cons, State.receiveOctet_start h, List.foldl_cons,
      State.receiveOctet_collects (by simp) (by simp) (by simp), List.foldl_cons,
      State.receiveOctet_collects (by simp) (by simp [carriedLength, good]) (by simp)]
    rfl
  | append_singleton os o ih =>
    rw [List.length_append, List.length_singleton] at short
    rw [← List.cons_append, ← List.cons_append, ← List.cons_append, List.foldl_append, ih (by omega), List.foldl_cons]
    refine State.receiveOctet_collects (by simp) (by simp) ?_
    rintro ⟨-, whole⟩
    have carried : carriedLength ((90 :: hi :: lo :: os) ++ [o]) = (wordOf hi lo).toNat := rfl
    rw [carried] at whole
    simp only [List.length_cons] at whole
    omega

/-- A whole frame is judged (R191). -/
theorem State.receive_whole (h : s.assembling = []) {hi lo : Byte} (good : badLength (wordOf hi lo).toNat = false)
    {os : List Byte} (whole : os.length = (wordOf hi lo).toNat + 2) :
    (90 :: hi :: lo :: os).foldl State.receiveOctet s = s.completeFrame (90 :: hi :: lo :: os) := by
  obtain rfl | ⟨os, o, rfl⟩ := List.eq_nil_or_concat' os
  · simp at whole
  · rw [List.length_append, List.length_singleton] at whole
    rw [← List.cons_append, ← List.cons_append, ← List.cons_append, List.foldl_append,
      State.receive_short h good (by omega)]
    refine State.receiveOctet_completes (os := 90 :: hi :: lo :: os) (by simp) ?_
    have carried : carriedLength ((90 :: hi :: lo :: os) ++ [o]) = (wordOf hi lo).toNat := rfl
    rw [carried]
    simp only [List.length_cons]
    omega

/-- The check decides whether the octets of a frame carry it (R190). -/
theorem checkedFrame_eq {hi lo kind tag : Byte} {body check : List Byte} (h : (wordOf hi lo).toNat = body.length + 2) :
    checkedFrame (90 :: hi :: lo :: kind :: tag :: (body ++ check)) =
      if check = wordOctets (frameCheck (wordOf hi lo) (kind :: tag :: body)) then some ⟨kind, tag, body⟩ else none := by
  simp [checkedFrame, h]

/-- A whole frame joins the holding as R192 has it, or is discarded when its check is wrong (R191). -/
theorem execControlFrameReceived_whole (h : s.assembling = []) {kind tag c d : Byte} {body : List Byte}
    (hb : body.length ≤ 512) :
    exec (.controlFrameReceived (90 :: numWord (body.length + 2) ++ kind :: tag :: body ++ [c, d])) s =
      .next (if [c, d] = wordOctets (frameCheck (BitVec.ofNat 16 (body.length + 2)) (kind :: tag :: body))
        then s.hold ⟨kind, tag, body⟩ else s.raise (.linkError .check)) := by
  obtain ⟨hi, lo, octets, spelt⟩ := wordOf_wordOctets (BitVec.ofNat 16 (body.length + 2))
  have carried : (wordOf hi lo).toNat = body.length + 2 := by
    rw [spelt, BitVec.toNat_ofNat]
    omega
  have good : badLength (wordOf hi lo).toNat = false := by
    rw [carried]
    simp [badLength]
    omega
  have frame : 90 :: numWord (body.length + 2) ++ kind :: tag :: body ++ [c, d] =
      90 :: hi :: lo :: kind :: tag :: (body ++ [c, d]) := by
    rw [numWord, octets]
    simp
  have received := State.receive_whole h good (os := kind :: tag :: (body ++ [c, d])) (by simp [carried])
  refine congrArg Host.Outcome.next ?_
  rw [frame, received, State.completeFrame, checkedFrame_eq carried, spelt]
  split_ifs
  · exact congrArg (State.hold _) (State.assembling_nil h)
  · exact congrArg (State.raise _) (State.assembling_nil h)

/-- The octets of a frame, with a good check (R190). -/
theorem execControlFrameReceived_frame (h : s.assembling = []) {f : Frame} (hb : f.body.length ≤ 512) :
    exec (.controlFrameReceived f.octets) s = .next (s.hold f) := by
  obtain ⟨c, d, check, -⟩ :=
    wordOf_wordOctets (frameCheck (BitVec.ofNat 16 (f.body.length + 2)) (f.kind :: f.tag :: f.body))
  have octets : f.octets = 90 :: numWord (f.body.length + 2) ++ f.kind :: f.tag :: f.body ++ [c, d] := by
    rw [← check]
    rfl
  rw [octets, execControlFrameReceived_whole h hb, if_pos check.symm]

/-- Octets other than 90 before a frame are discarded without a report. -/
theorem execControlFrameReceived_other (h : s.assembling = []) {octets : List Byte} (ho : ∀ o ∈ octets, o ≠ 90) :
    exec (.controlFrameReceived octets) s = .next s := by
  refine congrArg Host.Outcome.next ?_
  induction octets with
  | nil => rfl
  | cons o os ih =>
    rw [List.foldl_cons, State.receiveOctet_other h (ho o List.mem_cons_self)]
    exact ih fun o' hm => ho o' (List.mem_cons_of_mem _ hm)

end Receiver

/-! ## The holding (R192) -/

section Holding

variable {s : State} {f : Frame}

theorem State.hold_overrun (full : 2 ≤ s.holding.length) : s.hold f = s.raise (.linkError .overrun) := if_pos full

theorem State.hold_kind (room : s.holding.length < 2) (hk : f.isRequestKind = false) :
    s.hold f = s.raise (.linkError .kind) := by
  rw [State.hold, if_neg (Nat.not_le.mpr room), if_neg (by simp [hk])]

theorem State.hold_joins (room : s.holding.length < 2) (hk : f.isRequestKind = true) :
    s.hold f = { s with holding := s.holding ++ [f] } := by
  rw [State.hold, if_neg (Nat.not_le.mpr room), if_pos hk]

end Holding

/-- The sum of a frame's octets, of which the check is the remainder (R190). -/
theorem toNat_frameCheck (len : Word) (kind tag : Byte) (body : List Byte) :
    (frameCheck len (kind :: tag :: body)).toNat =
      (octetSum (wordOctets len) + kind.toNat + tag.toNat + octetSum body) % 65536 := by
  rw [frameCheck, BitVec.toNat_ofNat]
  simp only [octetSum, List.map_cons, List.sum_cons, Nat.add_assoc]

/-- Settles O13: a whole frame by the holding's room, its kind and its check; a frame being assembled by its errors. -/
theorem receivedFramesJoinOrAreDiscarded : Obligations.ReceivedFramesJoinOrAreDiscarded := by
  refine ⟨fun f s h hb h1 h2 room => ?joins, ⟨fun f s h hb full => ?overrun, fun f s h hb room hk => ?kind,
    fun kind tag hi lo body s h hb wrong => ?check, fun octets s h ho => execControlFrameReceived_other h ho⟩,
    fun s h => ?line, fun s start hi lo h bad => ?length⟩
  case joins =>
    rw [execControlFrameReceived_frame h hb, State.hold_joins room (by simp [Frame.isRequestKind, h1, h2])]
  case overrun =>
    rw [execControlFrameReceived_frame h hb, State.hold_overrun full]
    rfl
  case kind =>
    have request : f.isRequestKind = false := by
      simp only [Frame.isRequestKind, Bool.and_eq_false_iff, decide_eq_false_iff_not]
      omega
    rw [execControlFrameReceived_frame h hb, State.hold_kind room request]
    rfl
  case check =>
    have differs : [hi, lo] ≠ wordOctets (frameCheck (BitVec.ofNat 16 (body.length + 2)) (kind :: tag :: body)) := by
      intro same
      obtain ⟨c, d, octets, spelt⟩ := wordOf_wordOctets (frameCheck (BitVec.ofNat 16 (body.length + 2)) (kind :: tag :: body))
      obtain ⟨rfl, rfl⟩ : hi = c ∧ lo = d := by simpa using same.trans octets
      exact wrong ((toNat_wordOf hi lo).symm.trans ((congrArg BitVec.toNat spelt).trans (toNat_frameCheck _ kind tag body)))
    rw [execControlFrameReceived_whole h hb, if_neg differs]
    rfl
  case line =>
    have assembling (k : LinkErrorKind) : s.lineError k = s.dropFrame k := if_neg (by simpa using h)
    exact ⟨congrArg Host.Outcome.next (assembling .gap), congrArg Host.Outcome.next (assembling .framing)⟩
  case length =>
    have out : s.assembling.length = 2 ∧ badLength (carriedLength (s.assembling ++ [lo])) = true := by
      rw [h]
      simpa [badLength, carriedLength, toNat_wordOf] using bad
    exact congrArg Host.Outcome.next (if_pos out)

end Sys2Proof.Machine

/-!
PROOFS. SET DEVICE and SET INTERCEPT (O27; R114, R115, R197).
-/

namespace Sys2Proof.Machine

/-! ## The body of SET DEVICE (R197, R201) -/

theorem keyOctets_keyOf (a b c d e f g h : Byte) : keyOctets (keyOf a b c d e f g h) = [a, b, c, d, e, f, g, h] := by
  simp [keyOctets, keyOf, wordOctets_wordOf]

theorem wordOfList_wordOctets (w : Word) : wordOfList (wordOctets w) = w := by
  obtain ⟨hi, lo, octets, spelt⟩ := wordOf_wordOctets w
  rw [octets]
  exact spelt

theorem keyOfList_keyOctets (k : Key) : keyOfList (keyOctets k) = k := by
  obtain ⟨a, b, octets0, spelt0⟩ := wordOf_wordOctets k.k0
  obtain ⟨c, d, octets1, spelt1⟩ := wordOf_wordOctets k.k1
  obtain ⟨e, f, octets2, spelt2⟩ := wordOf_wordOctets k.k2
  obtain ⟨g, h, octets3, spelt3⟩ := wordOf_wordOctets k.k3
  have octets : keyOctets k = [a, b, c, d, e, f, g, h] := by simp [keyOctets, octets0, octets1, octets2, octets3]
  rw [octets]
  show keyOf a b c d e f g h = k
  rw [keyOf, spelt0, spelt1, spelt2, spelt3]

/-- A setting as a body carries it: its mark and, when present, its octets (R197). -/
def markedOctets {α : Type} (spell : α → List Byte) (setting : Option α) : List Byte :=
  match setting with
  | some a => 1 :: spell a
  | none => [0]

/-- The octets of a SET DEVICE body: the four settings in order (R197). -/
def Settings.octets (x : Settings) : List Byte :=
  markedOctets (fun o => [o]) x.absence ++ markedOctets wordOctets x.interdigit ++ markedOctets (fun o => [o]) x.idle ++
    markedOctets keyOctets x.nonceKey

theorem Settings.octets_eq (x : Settings) : x.octets =
    (match x.absence with | some o => [1, o] | none => [0]) ++
      (match x.interdigit with | some w => 1 :: wordOctets w | none => [0]) ++
      (match x.idle with | some o => [1, o] | none => [0]) ++
      (match x.nonceKey with | some k => 1 :: keyOctets k | none => [0]) := by
  obtain ⟨absence, interdigit, idle, nonceKey⟩ := x
  cases absence <;> cases interdigit <;> cases idle <;> cases nonceKey <;> rfl

/-- A setting is read as it is spelt, and what follows it is left. -/
theorem readSetting_marked {α : Type} {spell : α → List Byte} {n : Nat} (h : ∀ a, (spell a).length = n) (setting : Option α)
    (rest : List Byte) : readSetting n (markedOctets spell setting ++ rest) = some (setting.map spell, rest) := by
  cases setting with
  | none => rfl
  | some a =>
    have present : flagOf 1 = some true := rfl
    have long : n ≤ (spell a ++ rest).length := by rw [List.length_append, h a]; omega
    simp only [markedOctets, readSetting, List.cons_append, present, if_pos long, Option.map_some]
    rw [List.take_left' (h a), List.drop_left' (h a)]

/-- What is read as a setting is its mark, then, when present, its octets. -/
theorem readSetting_eq_some {n : Nat} {body rest : List Byte} {setting : Option (List Byte)}
    (h : readSetting n body = some (setting, rest)) :
    body = markedOctets id setting ++ rest ∧ ∀ os, setting = some os → os.length = n := by
  cases body with
  | nil => cases h
  | cons mark body =>
    by_cases absent : mark = 0
    · subst absent
      cases h
      exact ⟨rfl, nofun⟩
    · by_cases present : mark = 1
      · subst present
        have flag : flagOf 1 = some true := rfl
        simp only [readSetting, flag] at h
        split at h
        case isFalse => cases h
        case isTrue long =>
          cases h
          refine ⟨by simp [markedOctets], ?_⟩
          rintro os ⟨⟩
          simpa using long
      · have bad : flagOf mark = none := by rw [flagOf, if_neg absent, if_neg present]
        simp [readSetting, bad] at h

/-- A setting as it was read is spelt by the value its octets give. -/
theorem markedOctets_map {α : Type} {n : Nat} {spell : α → List Byte} {value : List Byte → α}
    (h : ∀ os, os.length = n → spell (value os) = os) {setting : Option (List Byte)}
    (long : ∀ os, setting = some os → os.length = n) :
    markedOctets spell (setting.map value) = markedOctets id setting := by
  cases setting with
  | none => rfl
  | some os => exact congrArg (1 :: ·) (h os (long os rfl))

theorem wordOctets_wordOfList : ∀ os : List Byte, os.length = 2 → wordOctets (wordOfList os) = os
  | [hi, lo], _ => wordOctets_wordOf hi lo

theorem keyOctets_keyOfList : ∀ os : List Byte, os.length = 8 → keyOctets (keyOfList os) = os
  | [a, b, c, d, e, f, g, h], _ => keyOctets_keyOf a b c d e f g h

theorem markedOctets_head? {setting : Option (List Byte)} (long : ∀ os, setting = some os → os.length = 1) :
    markedOctets (fun o => [o]) (setting.bind List.head?) = markedOctets id setting := by
  cases setting with
  | none => rfl
  | some os =>
    obtain ⟨o, rfl⟩ := List.length_eq_one_iff.mp (long os rfl)
    rfl

/-- A body is read as the settings it spells (R197). -/
theorem settings?_octets (x : Settings) : settings? x.octets = some x := by
  have one : ∀ o : Byte, ([o] : List Byte).length = 1 := fun _ => rfl
  have word : ∀ w, (wordOctets w).length = 2 := fun _ => rfl
  have key : ∀ k, (keyOctets k).length = 8 := fun _ => rfl
  have first : ∀ o : Option Byte, (o.map fun b => [b]).bind List.head? = o := fun o => by cases o <;> rfl
  have nonce := readSetting_marked key x.nonceKey []
  rw [List.append_nil] at nonce
  simp only [settings?, Settings.octets, List.append_assoc, readSetting_marked one, readSetting_marked word, nonce, first,
    Option.map_map, Function.comp_def, wordOfList_wordOctets, keyOfList_keyOctets, Option.map_id']

/-- A body that is read spells the settings it is read as. -/
theorem octets_of_settings? {body : List Byte} {x : Settings} (h : settings? body = some x) : x.octets = body := by
  unfold settings? at h
  split at h
  case h_1 => cases h
  case h_2 absence b first =>
  split at h
  case h_1 => cases h
  case h_2 interdigit c second =>
  split at h
  case h_1 => cases h
  case h_2 idle d third =>
  split at h
  case h_2 => cases h
  case h_1 nonceKey fourth =>
  cases h
  obtain ⟨rfl, absenceLong⟩ := readSetting_eq_some first
  obtain ⟨rfl, interdigitLong⟩ := readSetting_eq_some second
  obtain ⟨rfl, idleLong⟩ := readSetting_eq_some third
  obtain ⟨rfl, nonceLong⟩ := readSetting_eq_some fourth
  simp only [Settings.octets, markedOctets_head? absenceLong, markedOctets_head? idleLong,
    markedOctets_map wordOctets_wordOfList interdigitLong, markedOctets_map keyOctets_keyOfList nonceLong,
    List.append_assoc, List.append_nil]

/-! ## What SET DEVICE stores (R197) -/

theorem Settings.exact_iff (x : Settings) : x.exact = true ↔
    (∀ o, x.absence = some o → 2 ≤ o.toNat ∧ o.toNat ≤ 32) ∧
    (∀ w, x.interdigit = some w → 2000 ≤ w.toNat ∧ w.toNat ≤ 20000) := by
  simp only [Settings.exact, Bool.and_eq_true, Option.all_eq_true, decide_eq_true_eq, clampAbsence, clampInterdigit,
    clamp_eq_iff (show 2 ≤ 32 by decide), clamp_eq_iff (show 2000 ≤ 20000 by decide)]

theorem State.applySettings_eq (x : Settings) (s : State) : s.applySettings x =
    { s with
      absenceLimit := (x.absence.map (fun o => max 2 (min 32 o.toNat))).getD s.absenceLimit
      interdigitLimit := (x.interdigit.map (fun w => max 2000 (min 20000 w.toNat))).getD s.interdigitLimit
      idleOctet := x.idle.getD s.idleOctet
      nonceKey := x.nonceKey.getD s.nonceKey } := by
  obtain ⟨absence, interdigit, idle, nonceKey⟩ := x
  cases absence <;> cases interdigit <;> rfl

/-- A taken SET DEVICE whose body spells its settings: they are applied, and a new idle octet holds the reply back
(R115). -/
theorem exec_setDevice_octets (x : Settings) {tag : Byte} {s : State} (ht : s.takes ⟨6, tag, x.octets⟩ = true) :
    exec (.setDevice tag x.octets) s =
      .next (if x.idle = none then
        (s.applySettings x).replied ⟨6, tag, x.octets⟩ (if x.exact then .done else .adjusted) []
      else (s.applySettings x).heldBack ⟨6, tag, x.octets⟩ (if x.exact then .done else .adjusted) []) := by
  have act : setDeviceAct x.octets (s.admitFrame ⟨6, tag, x.octets⟩) =
      ((s.applySettings x).admitFrame ⟨6, tag, x.octets⟩,
        { code := if x.exact then .done else .adjusted, held := x.idle.isSome }) := by
    simp only [setDeviceAct, settings?_octets]
    rfl
  refine congrArg Host.Outcome.next ?_
  by_cases idle : x.idle = none
  · rw [if_pos idle]
    rw [idle] at act
    exact State.serve_replied rfl ht act
  · rw [if_neg idle]
    rw [Option.isSome_iff_ne_none.mpr idle] at act
    exact State.serve_heldBack rfl ht act

/-- A taken SET DEVICE whose body spells no settings is refused (R197). -/
theorem exec_setDevice_refused {tag : Byte} {body : List Byte} {s : State} (ht : s.takes ⟨6, tag, body⟩ = true)
    (unspelt : ∀ x : Settings, body ≠ x.octets) :
    exec (.setDevice tag body) s = .next (s.replied ⟨6, tag, body⟩ .badRequest []) := by
  have unread : settings? body = none :=
    Option.eq_none_iff_forall_ne_some.mpr fun x read => unspelt x (octets_of_settings? read).symm
  exact congrArg Host.Outcome.next (State.serve_refused rfl ht (by simp only [setDeviceAct, unread]))

/-! ## What SET INTERCEPT stores (R114) -/

theorem State.get_setIntercept (member : Bool) (first last : Nat) (s : State) (d : Fin 192) :
    (s.setIntercept member first last).intercept.get d =
      if first ≤ d.val ∧ d.val ≤ last then member else s.intercept.get d :=
  Table.get_imap _ _ _

section Intercept

variable {i : Instr} {f : Frame} {member : Bool} {first last : Byte} {s : State}

/-- A taken SET INTERCEPT whose range is not one of digits 0 to 191 in order is refused. -/
theorem State.serve_setIntercept_refused (hf : i.frame? = some f) (ht : s.takes f = true)
    (bad : 191 < first.toNat ∨ 191 < last.toNat ∨ last.toNat < first.toNat) :
    (.next (s.serve i (setInterceptAct member first last)) : Host.Outcome State Fault Refusal) =
      .next (s.replied f .badRequest []) := by
  refine congrArg Host.Outcome.next (State.serve_refused hf ht ?_)
  unfold setInterceptAct
  split
  case isTrue => rfl
  case isFalse within => rw [if_pos (by omega)]

/-- A taken SET INTERCEPT with a good range sets the range's members, and its reply is held back (R115). -/
theorem State.serve_setIntercept (hf : i.frame? = some f) (ht : s.takes f = true) (order : first.toNat ≤ last.toNat)
    (within : last.toNat ≤ 191) : ∃ set : Table Bool 192,
      (∀ d, set.get d = if first.toNat ≤ d.val ∧ d.val ≤ last.toNat then member else s.intercept.get d) ∧
      (.next (s.serve i (setInterceptAct member first last)) : Host.Outcome State Fault Refusal) =
        .next ({ s with intercept := set }.heldBack f .done []) := by
  refine ⟨(s.setIntercept member first.toNat last.toNat).intercept, State.get_setIntercept member _ _ s,
    congrArg Host.Outcome.next (State.serve_heldBack hf ht ?_)⟩
  unfold setInterceptAct
  rw [if_neg (by omega), if_neg (by omega)]
  rfl

end Intercept

/-- Settles O27: a body is read exactly when it spells four settings, and is read as them (`settings?_octets`,
`octets_of_settings?`); both SET INTERCEPT commands are one operation over the member they write. -/
theorem setDeviceAndSetIntercept : Obligations.SetDeviceAndSetIntercept := by
  unfold Obligations.SetDeviceAndSetIntercept
  refine ⟨?stored, ?intercept, ?refused⟩
  case stored =>
    intro tag absence idle interdigit nonceKey body s spelt ht t code ht' hcode
    obtain rfl : body = Settings.octets ⟨absence, interdigit, idle, nonceKey⟩ :=
      spelt.trans (Settings.octets_eq ⟨absence, interdigit, idle, nonceKey⟩).symm
    have done := exec_setDevice_octets ⟨absence, interdigit, idle, nonceKey⟩ ht
    rw [if_congr (Settings.exact_iff _) rfl rfl, State.applySettings_eq] at done
    rw [ht', hcode]
    exact done
  case intercept =>
    exact fun tag first last s =>
      ⟨fun ht => ⟨State.serve_setIntercept_refused rfl ht, State.serve_setIntercept rfl ht⟩,
        fun ht => ⟨State.serve_setIntercept_refused rfl ht, State.serve_setIntercept rfl ht⟩⟩
  case refused =>
    intro tag body s ht unspelt
    exact exec_setDevice_refused ht fun x spelt =>
      unspelt x.absence x.idle x.interdigit x.nonceKey (spelt.trans x.octets_eq)

end Sys2Proof.Machine

/-!
PROOFS. Steps and request frames (O1, O12; R142, R190, R201 to R203).
-/

namespace Sys2Proof.Machine

/-! ## The queue -/

theorem step_of_pending {c : Instr} {rest : List Instr} {s : State} (front : s.pending = c :: rest) :
    step s = exec c { s with pending := rest } := by
  simp only [step, front]

/-- Settles O1: an occupied queue has one front, and `step` takes that branch. -/
theorem stepRunsTheFrontCommand : Obligations.StepRunsTheFrontCommand :=
  fun _ _ _ => step_of_pending

/-! ## Bodies of a fixed length (R201) -/

theorem decodeIndex_wordOctets (w : Word) : decodeIndex (wordOctets w) = some w :=
  congrArg some (wordOfList_wordOctets w)

theorem exists_keyOctets_eq (k : Key) :
    ∃ a b c d e f g h, keyOctets k = [a, b, c, d, e, f, g, h] ∧ keyOf a b c d e f g h = k :=
  ⟨_, _, _, _, _, _, _, _, rfl, keyOfList_keyOctets k⟩

theorem decodeEnter_octets : ∀ b : EnterBody, decodeEnter b.octets = some b
  | ⟨index, count, ⟨[d0, d1, d2, d3, d4, d5], _⟩, secret, cls, secure, homeMark, home⟩ => by
    obtain ⟨hi, lo, indexOctets, rfl⟩ := wordOf_wordOctets index
    obtain ⟨a, b, c, d, e, f, g, h, secretOctets, rfl⟩ := exists_keyOctets_eq secret
    simp [EnterBody.octets, indexOctets, secretOctets, decodeEnter]

theorem decodeClass_octets (b : ClassBody) : decodeClass b.octets = some b := by
  obtain ⟨cls, verdict, policy, keyWait, threshold, lock, refresh, answer⟩ := b
  obtain ⟨k0, k1, keyWaitOctets, rfl⟩ := wordOf_wordOctets keyWait
  obtain ⟨l0, l1, lockOctets, rfl⟩ := wordOf_wordOctets lock
  obtain ⟨r0, r1, refreshOctets, rfl⟩ := wordOf_wordOctets refresh
  obtain ⟨a0, a1, answerOctets, rfl⟩ := wordOf_wordOctets answer
  simp [ClassBody.octets, keyWaitOctets, lockOctets, refreshOctets, answerOctets, decodeClass]

theorem decodeScreen_octets : ∀ b : ScreenBody, decodeScreen b.octets = some b
  | ⟨_, _, _, _, _, ⟨[_, _, _, _, _, _, _, _, _, _, _, _], _⟩, _, _, _, _, _⟩ => rfl

theorem decodeLoop_octets : ∀ b : LoopBody, decodeLoop b.octets = some b
  | ⟨_, _, ⟨[_, _, _, _], _⟩⟩ => rfl

theorem decodeRequest_holdKey (tag slot : Byte) (k : Key) :
    decodeRequest ⟨33, tag, slot :: keyOctets k⟩ = some (.holdKey tag slot k) := by
  obtain ⟨a, b, c, d, e, f, g, h, octets, rfl⟩ := exists_keyOctets_eq k
  rw [octets]
  rfl

theorem decodeRequest_openCall (tag : Byte) (index : Word) (verdict : Byte) :
    decodeRequest ⟨40, tag, wordOctets index ++ [verdict]⟩ = some (.openCall tag index verdict) := by
  obtain ⟨hi, lo, octets, rfl⟩ := wordOf_wordOctets index
  rw [octets]
  rfl

/-! ## Bodies that carry counted lists (R124, R142, R201)

Each count octet holds its list's whole length, because the body fits a frame (R190). -/

theorem decodeKeys_octets (keys : List Key) : decodeKeys keys.length (keys.flatMap keyOctets) = some keys := by
  induction keys with
  | nil => rfl
  | cons k keys ih =>
    obtain ⟨a, b, c, d, e, f, g, h, octets, rfl⟩ := exists_keyOctets_eq k
    simp [octets, decodeKeys, ih]

theorem decodeContexts_octets (contexts : List CtxSpec) :
    decodeContexts contexts.length (contexts.flatMap CtxSpec.octets) = some contexts := by
  induction contexts with
  | nil => rfl
  | cons x contexts ih =>
    obtain ⟨farEnd, heldSlot, salt, mode, interval, loss⟩ := x
    obtain ⟨s0, s1, s2, s3, saltOctets, rfl⟩ := exists_longOctets_eq salt
    obtain ⟨b0, b1, intervalOctets, rfl⟩ := wordOf_wordOctets interval
    simp [CtxSpec.octets, saltOctets, intervalOctets, decodeContexts, ih]

theorem decodeSpecs_octets (paths : List PathSpec) (contexts : List CtxSpec) :
    decodeSpecs paths.length contexts.length (paths.flatMap PathSpec.octets ++ contexts.flatMap CtxSpec.octets) =
      some (paths, contexts) := by
  induction paths with
  | nil => simp [decodeSpecs, decodeContexts_octets]
  | cons p paths ih => simp [PathSpec.octets, decodeSpecs, ih]

@[simp] theorem length_keyOctets (k : Key) : (keyOctets k).length = 8 := rfl

@[simp] theorem length_pathOctets (p : PathSpec) : p.octets.length = 4 := rfl

@[simp] theorem length_ctxOctets (x : CtxSpec) : x.octets.length = 10 := rfl

theorem length_depositOctets (b : DepositBody) : b.octets.length = 2 + 8 * b.keys.length := by
  simp only [DepositBody.octets, List.length_cons, List.length_flatMap, length_keyOctets, List.map_const',
    List.sum_replicate, smul_eq_mul]
  omega

theorem length_connectOctets (b : ConnectBody) :
    b.octets.length = 3 + 4 * b.paths.length + 10 * b.contexts.length := by
  simp only [ConnectBody.octets, List.length_cons, List.length_append, List.length_flatMap, length_pathOctets,
    length_ctxOctets, List.map_const', List.sum_replicate, smul_eq_mul]
  omega

theorem decodeDeposit_octets {b : DepositBody} (fits : b.octets.length ≤ 512) : decodeDeposit b.octets = some b := by
  rw [length_depositOctets] at fits
  have count : b.keys.length < 256 := by omega
  simp [DepositBody.octets, decodeDeposit, Nat.mod_eq_of_lt count, decodeKeys_octets]

theorem decodeConnect_octets {b : ConnectBody} (fits : b.octets.length ≤ 512) : decodeConnect b.octets = some b := by
  rw [length_connectOctets] at fits
  have pathCount : b.paths.length < 256 := by omega
  have contextCount : b.contexts.length < 256 := by omega
  simp [ConnectBody.octets, decodeConnect, Nat.mod_eq_of_lt pathCount, Nat.mod_eq_of_lt contextCount,
    decodeSpecs_octets]

/-! ## The obligation -/

/-- Settles O12: each body is read as the fields that spell it, one lemma per layout; the two with counted lists need
that the frame fits. -/
theorem requestFramesDecodeBack : Obligations.RequestFramesDecodeBack := by
  unfold Obligations.RequestFramesDecodeBack
  intro i f wf spelt known
  have fits : f.body.length ≤ 512 := of_decide_eq_true (Laws.Framed.fits_of_wellFormed wf spelt)
  cases i with
  | unknownRequestKind kind tag body => exact absurd rfl (known kind tag body)
  | enterExtension tag b => cases spelt; exact congrArg (Option.map _) (decodeEnter_octets b)
  | setClass tag b => cases spelt; exact congrArg (Option.map _) (decodeClass_octets b)
  | setScreen tag b => cases spelt; exact congrArg (Option.map _) (decodeScreen_octets b)
  | setLoop tag b => cases spelt; exact congrArg (Option.map _) (decodeLoop_octets b)
  | depositKeys tag b => cases spelt; exact congrArg (Option.map _) (decodeDeposit_octets fits)
  | connectCall tag b => cases spelt; exact congrArg (Option.map _) (decodeConnect_octets fits)
  | holdKey tag slot key => cases spelt; exact decodeRequest_holdKey tag slot key
  | openCall tag index verdict => cases spelt; exact decodeRequest_openCall tag index verdict
  | eraseExtension tag index | unlockExtension tag index | readExtension tag index =>
    cases spelt; exact congrArg (Option.map _) (decodeIndex_wordOctets index)
  | readClass | readPort | readScreen | sendToStation | setInterceptSet | setInterceptClear | holdCall | retrieveCall
  | refuseCall | clearCall | readCall | startDraw | stopDraw | resumeDraw | dropKey | readKeys | readContext | setDevice
  | readDevice | restartCold | restartWarm => cases spelt; rfl
  | powerUp | resetLine | controlFrameReceived | linkGap | replyReleased | transmitterFree | loopTurnStart | blockSent
  | replyWindowTimeout | stationReply | loopBreak | loopRestore | feature | register | answer | checkIn
  | answerTimeExpiry | refreshExpiry | lockExpiry | offHook | onHook | digits | interdigitExpiry | keyWaitExpiry
  | framePulse | pulseMissing | holdoverFrame | restoreRunTimeout | linkFramingError | linkLengthError => cases spelt

end Sys2Proof.Machine
